-- ==== Sys2Proof/Word.lean ====
section
/-! DEFINITION. The word types of the 4816: what 00_scope.md (Conventions, Discrete Lines) fixes about widths. -/

namespace Sys2Proof

/-- A word of line memory and a byte address (00_scope.md, "Words and addresses"; 11, Setup Image). -/
abbrev Word := BitVec 32

/-- A byte of line memory. -/
abbrev Byte := BitVec 8

/-- A lug number; lug numbers and distances are modulo 65,536 (00_scope.md, "Arithmetic"). -/
abbrev Lug := BitVec 16

/-- A master tag, 0-7 (00_scope.md, General Description). -/
abbrev Master := BitVec 3

/-- A saw mask: bit k is saw k, 0-12 (00_scope.md, Terms). -/
abbrev Saws := BitVec 13

end Sys2Proof
end

