-- ==== Sys2Proof/Syntax.lean ====
section
/-! DEFINITION. The commands of the part: one constructor of `Instr` for each row of spec/opcode_table.json, and the
operands they carry. -/

namespace Sys2Proof

/-- The three filtered inputs (Discrete Lines, R2). -/
inductive Input where
  | lug | eye | almin
  deriving DecidableEq, Repr

/-- The order in which blocks take one lug event. R100 and R98 let the pacing logic take the event before or after the lug
tracker's changes to the backlog, and R166 says the same of the line guard. The command that brings the event says which
(log 18); an input change that brings no lug event does not look at it. -/
structure LugOrder where
  pacingFirst : Bool
  guardFirst : Bool
  deriving DecidableEq, Repr

/-- One word of a write burst with its four byte enables; bit j enables the byte at offset j. -/
structure Beat where
  data : Word
  enables : BitVec 4
  deriving DecidableEq, Repr

/-- A write transaction: one burst of words from a byte address, by a master. -/
structure BusWrite where
  master : Master
  addr : Word
  beats : List Beat
  deriving DecidableEq, Repr

/-- A read transaction: a burst of `words` words from a byte address, by a master. -/
structure BusRead where
  master : Master
  addr : Word
  words : Nat
  deriving DecidableEq, Repr

/-- A chassis transaction (Chapter 10). -/
inductive Transaction where
  | read (r : BusRead)
  | write (w : BusWrite)
  deriving DecidableEq, Repr

/-- The commands: one constructor per row of spec/opcode_table.json, in the table's order. The row's name stands in LAWS.json. -/
inductive Instr where
  | rawLevelChange (pin : Input) (level : Bool) (order : LugOrder)
  | filterTimerExpiry (pin : Input) (order : LugOrder)
  | resetNAssert
  | resetNRelease
  | formatWordReadDone
  | setupReadDone
  | eventHeaderReadDone
  | tallyHeaderReadDone
  | formatWordWrite
  | setupWriteHeld (w : BusWrite)
  | chassisTransaction (t : Transaction)
  | memoryBurstDone
  | setupWrite (w : BusWrite)
  | windowEntryWrite (w : BusWrite)
  | gradingTableWrite (w : BusWrite)
  | guardEnableMaskWrite (w : BusWrite)
  | eventClassEnableWrite (w : BusWrite)
  | frameHeaderWrite (w : BusWrite)
  | trailerWrite (w : BusWrite)
  | intakeStart
  | intakeComplete
  | closeComplete
  | optimizerComplete
  | post (w : BusWrite)
  | postReadbackStart
  | grade
  | trim
  | chip
  | mark
  | clear
  | rescan
  | binEmpty
  | shift
  | ack
  | alarmTest
  | sawTest
  | lineReset
  | lineResetStart
  | sawTestExpiry
  | trimRead (master : Master) (addr : Word)
  | holdExpiry (index : Nat)
  | sortRead (master : Master) (addr : Word)
  | tallyReadsDone
  | tallyUpdateComplete
  | zeroingDone
  | mirrorWriteComplete
  | consumerWrite (w : BusWrite)
  | kindCodeOutOfRange
  deriving DecidableEq, Repr

end Sys2Proof
end

