-- ==== Sys2Proof/Decode.lean ====
section
/-! DEFINITION. The command a word of spec/opcode_table.json's bits spells. The table's 48 rows give no bits (no row has
"fixed" or "fields"; the reader's count in 98_reader.md is 0 of both), so no word spells a command (log 36). -/

namespace Sys2Proof

/-- The command that the low `nbits` bits of `w` spell: none, since no row of the table gives bits. -/
def decodeTableWord (_nbits _w : Nat) : Option Instr := none

end Sys2Proof
end

