-- ==== Sys2Proof/Config.lean ====
section
/-! DEFINITION. The constants the manual fixes for every part: sizes, limits and marker values.
The manual leaves no value to the implementation, so there is no free value here; the one freedom it leaves within
a step (the order of blocks at a lug event, R98, R100, R166) is an operand of the command (Syntax.LugOrder). -/

namespace Sys2Proof.Config

/-- The format word that lets a load enter RUNNING (R186, R198). -/
abbrev formatWord : Word := 0x48160001#32
/-- The frame format marker, bits 31-16 of a frame header (R199). -/
abbrev frameMarker : Nat := 0x5C3A
/-- The setup window covers byte addresses below this (Chapter 10, Windows). -/
abbrev setupBytes : Nat := 0x1000
/-- Words of the setup image that hold a field lie below this (R198). -/
abbrev setupWords : Nat := 336
/-- Record slots (R5, The Record Table). -/
abbrev recordSlots : Nat := 32
/-- The area number of the line status block among the 33 published areas (R18). -/
abbrev statusArea : Nat := 32
/-- The position at which a record is retired as unsorted (R12). -/
abbrev retirePosition : Nat := 31
/-- Scanner heads (00_scope.md). -/
abbrev heads : Nat := 6
/-- Segments of a record and the length of each, in mm (R7, R50). -/
abbrev segments : Nat := 12
abbrev segmentMm : Nat := 610
/-- The longest board the part grades, in mm (R52, R53). -/
abbrev maxLength : Nat := 7320
/-- Slices used of one frame (R32). -/
abbrev maxSlices : Nat := 120
/-- Entries of a held-slot list (R7, R33). -/
abbrev maxHeldSlots : Nat := 12
/-- Fresh entries the intake queue takes (R26). -/
abbrev maxFresh : Nat := 12
/-- Posts of the post FIFO (R105). -/
abbrev maxPosts : Nat := 16
/-- Entries of the pending-override list, and the reach ahead of it in lugs (R112, R119). -/
abbrev maxPendingOverrides : Nat := 8
/-- Reads of the held-read list (R137) and of the sort waiting list (R151). -/
abbrev maxHeldReads : Nat := 4
abbrev maxSortWaiting : Nat := 8
/-- Entries of the tally queue: for sort answers, and for retires at position 31 (R155). -/
abbrev tallySortLimit : Nat := 32
abbrev tallyQueueLimit : Nat := 64
/-- The largest value of a tally counter (R157). -/
abbrev counterMax : Nat := 4294967295
/-- Filter time in force until a load first enters RUNNING, in microseconds (R3). -/
abbrev powerOnFilterTime : Nat := 1023
/-- The largest burst of the chassis bus and of the memory port, in words (00_scope.md, Discrete Lines). -/
abbrev maxBurst : Nat := 16
/-- What a byte of line memory that nothing has written reads as.
DESIGN CHOICE (log 1), unsafe: the spec gives line memory no contents at power-on. -/
abbrev unwrittenByte : Byte := 0#8

end Sys2Proof.Config
end

