-- ==== Sys2Proof/Machine/Types.lean ====
section
/-! DEFINITION. The plain data that State is made of, block by block, in the order of 00_scope.md's block table.
No function type occurs in it. -/

namespace Sys2Proof.Machine

/-! ### Inputs and pins -/

/-- One input filter (R2, R3): raw and filtered level, the running timer with the time it started with, the filter time in force. -/
structure Filter where
  raw : Bool
  filtered : Bool
  timer : Option Nat
  time : Nat
  deriving DecidableEq, Repr

structure Inputs where
  lug : Filter
  eye : Filter
  almin : Filter
  deriving DecidableEq, Repr

/-- The output lines as driven (R101, R172, R194). -/
structure Outputs where
  lskip : Bool
  almout : Bool
  attn : Bool
  deriving DecidableEq, Repr

/-! ### Bus path and memory port -/

/-- The two streams of the memory port arbiter (R181). -/
inductive PortStream where
  | through | internal
  deriving DecidableEq, Repr

/-- What a burst does at the memory port. -/
inductive Access where
  | read (words : Nat)
  | write (beats : List Beat)
  deriving DecidableEq, Repr

/-- Who issued a burst and what its completion means to them. -/
inductive Purpose where
  /-- A chassis transaction; `format`: it carried 0x4816_0001 to address 0 while TRANSPARENT (R187). -/
  | chassis (txn : Nat) (master : Master) (format : Bool)
  /-- An access whose completion concerns no block any more, or never did. -/
  | plain
  /-- One of the six accesses of a mirror or status block write; `closing`: the last (R16). -/
  | mirror (area : Nat) (closing : Bool)
  /-- The DONE result word of an accepted LINERESET (R126). -/
  | lineResetDone
  /-- The load's read of address 0, and its 64 bursts of words 1-1,023 (R186). -/
  | loadFormat
  | loadSetup (last : Bool)
  /-- Reads of the event ring header (R195) and of the tally header (R154). -/
  | eventHeader
  | tallyHeader
  /-- The reads of an intake (R30): words 0-1, word 255, a burst of slices. -/
  | frameHead
  | frameTrailer
  | frameSlices (last : Bool)
  /-- The read-back of the head post (R109). -/
  | overrideRead
  /-- Reads and writes of a tally update (R158), and the zeroing bursts of a swap (R162). -/
  | tallyRead (last : Bool)
  | tallyWrite (last : Bool)
  | zeroing (index : Nat)
  deriving DecidableEq, Repr

/-- One burst of a stream or at the port. -/
structure Burst where
  addr : Word
  access : Access
  purpose : Purpose
  deriving DecidableEq, Repr

/-- What a master receives (R180, R182). -/
inductive Reply where
  | data (words : List Word)
  | written
  | error
  deriving DecidableEq, Repr

/-- An answer to a chassis transaction, by the number the model gave it (log 23). -/
structure Answer where
  txn : Nat
  master : Master
  reply : Reply
  deriving DecidableEq, Repr

/-- Bus path, arbiter and line memory (R178-R182). -/
structure Bus where
  mem : List Host.Cell
  through : List Burst
  internal : List Burst
  port : Option Burst
  lastGrant : Option PortStream
  nextTxn : Nat
  answers : List Answer
  deriving DecidableEq, Repr

/-! ### Setup shadow -/

/-- The part state (R176). -/
inductive PartState where
  | starting | transparent | running
  deriving DecidableEq, Repr

/-- The window kinds, in code order (R197). -/
inductive WindowKind where
  | frame | override | record | tally | event | trim | sort | guarded
  deriving DecidableEq, Repr

/-- The entry in force of one window table entry (R177). -/
structure WindowEntry where
  base : Word
  limit : Word
  control : Word
  deriving DecidableEq, Repr

/-- What began a load (R196, event START). -/
inductive StartCause where
  | powerOn | lineReset | formatWord
  deriving DecidableEq, Repr

/-- A load in progress (R186): the words read so far from word 0 on, and the header reads that have not returned. -/
structure Load where
  cause : StartCause
  words : List Word
  awaitEvent : Bool
  awaitTally : Bool
  deriving DecidableEq, Repr

/-- How far a line reset has come before its load: none, LINERESET accepted and its DONE on the way (R126), the tally unit
working off its queue (R164), or the STARTING image of the status block still to be begun (R15). -/
inductive ResetPhase where
  | none
  | accepted (master : Master)
  | draining
  | statusDue
  deriving DecidableEq, Repr

/-- What event LINE_RESET will carry (R196). -/
structure ResetReport where
  master : Master
  posts : Nat
  pendings : Nat
  deriving DecidableEq, Repr

/-- A setup write held during STARTING (R188). -/
structure HeldWrite where
  txn : Nat
  write : BusWrite
  deriving DecidableEq, Repr

structure Shadow where
  part : PartState
  words : List Word
  entries : List WindowEntry
  load : Option Load
  phase : ResetPhase
  report : Option ResetReport
  held : List HeldWrite
  deriving DecidableEq, Repr

/-! ### Lug tracker and the record table -/

/-- Record states, in code order (R7, R197). -/
inductive RecordState where
  | free | scanning | closing | queued | optimizing | decided | dispatched
  deriving DecidableEq, Repr

/-- Decision outcomes (R7); an absent decision is `none`. -/
inductive Verdict where
  | piece | reject | fallback
  deriving DecidableEq, Repr

/-- A decision (R7, R84). -/
structure Decision where
  verdict : Verdict
  a : Nat
  b : Nat
  grade : Nat
  value : Nat
  saws : Saws
  deriving DecidableEq, Repr

/-- One segment entry (R7). -/
structure Segment where
  wood : Nat
  minThickness : Nat
  minWidth : Nat
  maxWane : Nat
  knots : Nat
  defects : Nat
  unseen : Bool
  grade : Nat
  deriving DecidableEq, Repr

/-- A record (R7). The held-slot list holds (head, frame slot) pairs. -/
structure Record where
  lug : Lug
  state : RecordState
  committed : Bool
  forced : Bool
  fallback : Bool
  untrimmed : Bool
  long : Bool
  short : Bool
  rescanFailed : Bool
  contributed : BitVec 6
  silent : BitVec 6
  length : Nat
  present : Nat
  segments : List Segment
  forcedGrade : Option Nat
  forcedTrim : Option (Nat × Nat)
  chip : Bool
  marks : BitVec 12
  decision : Option Decision
  held : List (Nat × Nat)
  deriving DecidableEq, Repr

/-- Publication state of a mirror or of the status block (R17). -/
inductive PubState where
  | idle | writing | writingDirty
  deriving DecidableEq, Repr

/-- A published area: its update count (R18) and publication state. -/
structure Area where
  count : Word
  pub : PubState
  deriving DecidableEq, Repr

structure Tracker where
  lug : Lug
  records : List Record
  areas : List Area
  everRan : Bool
  deriving DecidableEq, Repr

/-! ### Frame intake -/

/-- Frame slot states (R24). -/
inductive SlotState where
  | free | filling | held
  deriving DecidableEq, Repr

/-- A fresh entry, or a read-back entry carrying the lug of its record (R29). -/
inductive EntryKind where
  | fresh
  | readBack (lug : Lug)
  deriving DecidableEq, Repr

/-- An entry of the intake queue (R29). `awaiting`: the transaction whose write is the entry's trailer, until it has
completed in memory (R30). -/
structure IntakeEntry where
  head : Nat
  slot : Nat
  kind : EntryKind
  awaiting : Option Nat
  deriving DecidableEq, Repr

/-- The intake engine at work (R30): its entry, the frame slot's address, the words read. `dropped`: the entry has left the
queue while its reads run on (R38, R41, R42). -/
structure IntakeRun where
  head : Nat
  slot : Nat
  kind : EntryKind
  addr : Word
  header : Word
  lugWord : Word
  trailer : Word
  slices : List Word
  dropped : Bool
  deriving DecidableEq, Repr

structure Intake where
  tables : List (Option (List SlotState))
  queue : List IntakeEntry
  engine : Option IntakeRun
  deriving DecidableEq, Repr

/-! ### Measurement unit -/

/-- A close of the close list (R54), with the close mark frame intake holds for it (R37): the (head, frame slot) of the marked
entry. A close in FINALISING has no mark. -/
structure Close where
  slot : Nat
  lug : Lug
  rescan : Bool
  mark : Option (Nat × Nat)
  deriving DecidableEq, Repr

/-- The close list: closes in AWAITING, and closes in FINALISING in the order of their notices (R55), the first of which is
the one being finalised. -/
structure Measure where
  awaiting : List Close
  finalising : List Close
  deriving DecidableEq, Repr

/-! ### Trim optimizer -/

/-- An entry of the decision queue (R86). -/
structure QueueEntry where
  slot : Nat
  lug : Lug
  deriving DecidableEq, Repr

/-- A run (R89): its record slot and lug, and what it read when it took the record (R63). -/
structure Run where
  slot : Nat
  lug : Lug
  record : Record
  tables : List Word
  deriving DecidableEq, Repr

structure Optimizer where
  queue : List QueueEntry
  run : Option Run
  deriving DecidableEq, Repr

/-! ### Override unit -/

/-- The twelve override kinds (R110). -/
inductive OverrideKind where
  | grade | trim | chip | mark | clear | rescan | binEmpty | shift | ack | alarmTest | sawTest | lineReset
  deriving DecidableEq, Repr

/-- Result codes (R111). -/
inductive ResultCode where
  | pending | done | tooLate | noBoard | outOfRange | busy | pendingFull | refused | abandoned
  deriving DecidableEq, Repr

/-- A post of the post FIFO (R105). `index`: the entry's index in the window when it was posted (R131). `awaiting`: the
transaction of the post's write until it has completed in memory (R109). -/
structure Post where
  addr : Word
  index : Nat
  tag : BitVec 15
  master : Master
  awaiting : Option Nat
  deriving DecidableEq, Repr

/-- An entry of the pending-override list (R119). -/
structure PendingOverride where
  lug : Lug
  kind : OverrideKind
  arg : Word
  addr : Word
  tag : BitVec 15
  deriving DecidableEq, Repr

/-- The forced-trim entry of a record slot (R115). -/
structure TrimEntry where
  addr : Word
  tag : BitVec 15
  deriving DecidableEq, Repr

/-- The read-back engine (R109): idle, reading the head post back, or running out a read a line reset dropped (R127). -/
inductive Readback where
  | idle | reading | dropping
  deriving DecidableEq, Repr

structure Overrides where
  fifo : List Post
  readback : Readback
  waiting : List PendingOverride
  trimEntries : List (Option TrimEntry)
  sawMask : Saws
  sawTimer : Option Nat
  deriving DecidableEq, Repr

/-! ### Dispatch unit -/

/-- An entry of the held-read list (R137), with the hold time its timer started with (R138). -/
structure HeldRead where
  txn : Nat
  master : Master
  slot : Nat
  lug : Lug
  hold : Nat
  deriving DecidableEq, Repr

/-- A read of the sort waiting list (R151). -/
structure WaitingSort where
  txn : Nat
  master : Master
  slot : Nat
  deriving DecidableEq, Repr

structure Dispatch where
  held : List HeldRead
  waiting : List WaitingSort
  counts : List Nat
  deriving DecidableEq, Repr

/-! ### Tally unit -/

/-- The key of a tally update (R155). -/
inductive TallyKey where
  | piece (grade n : Nat)
  | reject
  | fallback
  | untrimmed
  | unsorted
  deriving DecidableEq, Repr

/-- An update of the tally queue (R155); bank 1 is `true`. -/
structure TallyUpdate where
  bank : Bool
  key : TallyKey
  forced : Bool
  lug : Lug
  deriving DecidableEq, Repr

/-- The update engine at work on the oldest update (R156, R158): the base of the window it took, the counters read so far. -/
structure TallyRun where
  base : Nat
  values : List Word
  deriving DecidableEq, Repr

/-- Progress of a zeroing (R162, R163): waiting for a window, its bursts going out, or ended. -/
inductive Zeroing where
  | waiting
  | running (base : Nat)
  | ended
  deriving DecidableEq, Repr

/-- A swap in progress (R161), with the old-bank updates completed since it began. -/
structure Swap where
  zeroing : Zeroing
  done : Nat
  deriving DecidableEq, Repr

structure Tally where
  bank : Bool
  swap : Option Swap
  saturated0 : Bool
  saturated1 : Bool
  queue : List TallyUpdate
  engine : Option TallyRun
  kept : Bool
  deriving DecidableEq, Repr

/-! ### Line guard -/

/-- The guard flags, in bit order (11, Formats in Line Memory). -/
inductive GuardName where
  | silent | missync | fallback | unsorted | backlog | chain
  deriving DecidableEq, Repr

/-- One guard flag (R165, R167, R168): the lugs that have a note, the persistence counter, set indication and latch. -/
structure GuardFlag where
  notes : List Lug
  counter : Nat
  shown : Bool
  latched : Bool
  deriving DecidableEq, Repr

structure LineGuard where
  flags : List GuardFlag
  force : Bool
  deriving DecidableEq, Repr

/-! ### Event writer -/

/-- Event classes, in code order (R197). -/
inductive EventClass where
  | frame | decision | override | dispatch | tally | guard | setup | line
  deriving DecidableEq, Repr

/-- The header state of the event writer (R192). -/
structure Ring where
  producer : Nat
  consumer : Nat
  deriving DecidableEq, Repr

structure EventWriter where
  ring : Option Ring
  overflow : Bool
  classes : BitVec 8
  deriving DecidableEq, Repr

/-- An event as a block hands it to the event writer (R206). -/
structure Event where
  cls : EventClass
  code : Nat
  lug : Lug
  a : Word
  b : Word
  deriving DecidableEq, Repr

end Sys2Proof.Machine
end

