-- ==== Sys2Proof/Machine/Memory.lean ====
section
/-! DEFINITION. Line memory: a list of (byte address, byte) pairs with strictly rising addresses and no pair that equals what
an unlisted address reads as. Words, bursts and byte enables are built from single bytes here, once. -/

namespace Sys2Proof.Machine

/-- The canonical form: strictly rising addresses, no listed byte equal to an unlisted one. -/
abbrev Memory.wf (m : List Host.Cell) : Prop :=
  m.Pairwise (fun x y => x.1 < y.1) ∧ ∀ c ∈ m, c.2 ≠ Config.unwrittenByte

/-- One byte of memory; an unlisted address reads as `Config.unwrittenByte` (log 1). -/
def Memory.read : List Host.Cell → Nat → Byte
  | [], _ => Config.unwrittenByte
  | c :: rest, a => if c.1 = a then c.2 else Memory.read rest a

/-- Writing one byte, keeping the canonical form. -/
def Memory.write : List Host.Cell → Nat → Byte → List Host.Cell
  | [], a, v => if v = Config.unwrittenByte then [] else [(a, v)]
  | c :: rest, a, v =>
    if a < c.1 then (if v = Config.unwrittenByte then c :: rest else (a, v) :: c :: rest)
    else if a = c.1 then (if v = Config.unwrittenByte then rest else (a, v) :: rest)
    else c :: Memory.write rest a v

/-- Byte addresses are 32 bits and taken modulo 2^32 (log 14). -/
def Memory.wrap (a : Nat) : Nat := a % 4294967296

/-- Byte `j` of a word: bits 8j+7 to 8j. PRESUMED (log 2): byte j lies at offset j, and byte enable j enables it. -/
def Word.byte (w : Word) (j : Nat) : Byte := w.extractLsb' (8 * j) 8

/-- The word whose four bytes lie from address `a` up. -/
def Memory.readWord (m : List Host.Cell) (a : Nat) : Word :=
  Memory.read m (Memory.wrap (a + 3)) ++ Memory.read m (Memory.wrap (a + 2)) ++
    Memory.read m (Memory.wrap (a + 1)) ++ Memory.read m (Memory.wrap a)

/-- The bytes of one beat that its enables admit, with their addresses. -/
def Beat.cells (a : Nat) (b : Beat) : List Host.Cell :=
  (List.range 4).filterMap fun j => if b.enables.getLsbD j then some (Memory.wrap (a + j), Word.byte b.data j) else none

/-- The bytes a write burst writes, in ascending order of its words. -/
def beatsCells : Nat → List Beat → List Host.Cell
  | _, [] => []
  | a, b :: rest => Beat.cells a b ++ beatsCells (a + 4) rest

def Memory.writeCells (m : List Host.Cell) (cells : List Host.Cell) : List Host.Cell :=
  cells.foldl (fun m c => Memory.write m c.1 c.2) m

/-- A write burst at byte address `a`. -/
def Memory.writeBeats (m : List Host.Cell) (a : Nat) (beats : List Beat) : List Host.Cell :=
  Memory.writeCells m (beatsCells a beats)

/-- A read burst of `n` words at byte address `a`. -/
def Memory.readWords (m : List Host.Cell) (a n : Nat) : List Word :=
  (List.range n).map fun i => Memory.readWord m (a + 4 * i)

/-- A full-word beat. -/
def Beat.full (w : Word) : Beat := { data := w, enables := 0xF#4 }

/-- What completing a burst does to memory, and the words it returns (R181, R182). -/
def Burst.perform (m : List Host.Cell) (b : Burst) : List Host.Cell × List Word :=
  match b.access with
  | .read n => (m, Memory.readWords m b.addr.toNat n)
  | .write beats => (Memory.writeBeats m b.addr.toNat beats, [])

end Sys2Proof.Machine
end

