-- ==== Sys2Proof/Machine/Operands.lean ====
section
/-! DEFINITION. Operand forms: bit fields of words, the words a transaction touches, and the layouts of the structures masters
write for the part to read (frame slots R199, override entries R201). -/

namespace Sys2Proof.Machine

/-! ### Bit fields -/

/-- Bits `lo + len - 1` to `lo` of a word, as a number. -/
def bits (w : Word) (lo len : Nat) : Nat := w.toNat / 2 ^ lo % 2 ^ len

/-- Bit `i` of a word. -/
def bit (w : Word) (i : Nat) : Bool := w.getLsbD i

/-- A number placed at bit `lo` of a field `len` bits wide. -/
def place (v lo len : Nat) : Nat := v % 2 ^ len * 2 ^ lo

/-- A one-bit item at bit `lo`. -/
def placeBit (b : Bool) (lo : Nat) : Nat := if b then 2 ^ lo else 0

/-- A word made of placed fields; every bit no field names is 0 (R197). -/
def wordOf (fields : List Nat) : Word := BitVec.ofNat 32 fields.sum

/-- The mask of the items below `n` that have the property. -/
def maskOf (n : Nat) (p : Nat → Bool) : BitVec n :=
  BitVec.ofNat n ((List.range n).map fun i => if p i then 2 ^ i else 0).sum

/-- A detail of two items: bits 15-0 and 31-16 (R206). -/
def pair (x y : Nat) : Word := wordOf [place x 0 16, place y 16 16]

/-- A detail of three items: bits 15-0, 23-16 and 31-24 (R206). -/
def triple (x y z : Nat) : Word := wordOf [place x 0 16, place y 16 8, place z 24 8]

/-- A detail of one item. -/
def single (x : Nat) : Word := BitVec.ofNat 32 x

/-- A value clamped to a range takes the nearer end (00_scope.md, Arithmetic). -/
def clamp (lo hi v : Nat) : Nat := if v < lo then lo else if hi < v then hi else v

/-! ### Transactions -/

def Transaction.master : Transaction → Master
  | .read r => r.master
  | .write w => w.master

def Transaction.addr : Transaction → Word
  | .read r => r.addr
  | .write w => w.addr

def Transaction.words : Transaction → Nat
  | .read r => r.words
  | .write w => w.beats.length

def Transaction.isWrite : Transaction → Bool
  | .read _ => false
  | .write _ => true

def Transaction.access : Transaction → Access
  | .read r => .read r.words
  | .write w => .write w.beats

/-- The beats of a write; a read has none. -/
def Transaction.beats : Transaction → List Beat
  | .read _ => []
  | .write w => w.beats

/-- The aligned words a transaction touches, by byte address: those that hold any of its bytes. For a word-aligned address
they are its own words (log 13). -/
def touchedWords (addr : Word) (n : Nat) : List Nat :=
  let first := addr.toNat / 4
  let last := (addr.toNat + 4 * n - 1) / 4
  (List.range (last + 1 - first)).map fun i => Memory.wrap (4 * (first + i))

/-- The word addresses of a transaction's own words in order, for one whose address is a multiple of 4. -/
def ownWords (addr : Word) (n : Nat) : List Nat :=
  (List.range n).map fun i => Memory.wrap (addr.toNat + 4 * i)

/-- The words a write carries, each with its byte address. -/
def carried (w : BusWrite) : List (Nat × Beat) := (ownWords w.addr w.beats.length).zip w.beats

/-- All four byte enables set: a full-word write (00_scope.md, Words and addresses). -/
def Beat.isFull (b : Beat) : Bool := b.enables == 0xF#4

/-- Some but not all of the byte enables (R179). -/
def Beat.isPartial (b : Beat) : Bool := b.enables != 0xF#4 && b.enables != 0#4

/-- R187: the write carries 0x4816_0001 to address 0 as a full word. What the byte enables of a burst's other words are does not matter: R187
does not speak of such a burst, and this is the model's choice (log 43). -/
def carriesFormatWord (w : BusWrite) : Bool :=
  w.addr.toNat % 4 == 0 && (carried w).any fun c => c.1 == 0 && Beat.isFull c.2 && c.2.data == Config.formatWord

/-! ### Frame slots (R199, R200) -/

def headerMarker (w : Word) : Nat := bits w 16 16
def headerHead (w : Word) : Nat := bits w 8 3
def headerCount (w : Word) : Nat := bits w 0 8
def lugTag (w : Word) : Lug := BitVec.ofNat 16 (bits w 0 16)
def trailerCount (w : Word) : Nat := bits w 0 8
def trailerComplete (w : Word) : Bool := bit w 31

/-- A slice as reported by a head (R199). -/
structure Slice where
  thickness : Nat
  width : Nat
  wane : Nat
  position : Nat
  defectClass : Nat
  defectStart : Bool
  defectSize : Nat
  deriving DecidableEq, Repr

/-- The two words of a slice (R199). -/
def sliceOf (w0 w1 : Word) : Slice :=
  { thickness := bits w0 0 14, width := bits w0 14 14, wane := bits w1 0 8, position := bits w1 8 12,
    defectClass := bits w0 28 3, defectStart := bit w0 31, defectSize := bits w1 20 12 }

/-- The slices that the words 2 up of a frame slot hold. -/
def slicesOf : List Word → List Slice
  | w0 :: w1 :: rest => sliceOf w0 w1 :: slicesOf rest
  | _ => []

/-! ### Override entries (R201, R202) -/

def entryKey (w : Word) : Nat := bits w 0 16
def entryKindCode (w : Word) : Nat := bits w 24 4
def postTag (w : Word) : BitVec 15 := BitVec.ofNat 15 (bits w 0 15)
def postMarker (w : Word) : Bool := bit w 15

/-- The kind of a kind code (R201); 0 and 13-15 are none of the twelve. -/
def kindOfCode : Nat → Option OverrideKind
  | 1 => some .grade
  | 2 => some .trim
  | 3 => some .chip
  | 4 => some .mark
  | 5 => some .clear
  | 6 => some .rescan
  | 7 => some .binEmpty
  | 8 => some .shift
  | 9 => some .ack
  | 10 => some .alarmTest
  | 11 => some .sawTest
  | 12 => some .lineReset
  | _ => none

/-- The argument A of TRIM: a in bits 15-0, b in bits 31-16 (R201). -/
def trimArg (arg : Word) : Nat × Nat := (bits arg 0 16, bits arg 16 16)
/-- The argument A of MARK, ACK and SAWTEST: bits outside the field are ignored (R202). -/
def markArg (arg : Word) : BitVec 12 := BitVec.ofNat 12 (bits arg 0 12)
def ackArg (arg : Word) : BitVec 6 := BitVec.ofNat 6 (bits arg 0 6)
def sawArg (arg : Word) : Saws := BitVec.ofNat 13 (bits arg 0 13)

/-- R110, R202: is the argument or the key out of range for the kind? -/
def argOutOfRange (kind : OverrideKind) (key : Nat) (arg : Word) : Bool :=
  match kind with
  | .grade => 7 < arg.toNat
  | .trim => (trimArg arg).2 ≤ (trimArg arg).1 || 12 < (trimArg arg).2
  | .mark => markArg arg == 0
  | .binEmpty => 15 < key
  | .ack => ackArg arg == 0
  | .alarmTest => 1 < arg.toNat
  | .chip | .clear | .rescan | .shift | .sawTest | .lineReset => false

def ResultCode.code : ResultCode → Nat
  | .pending => 1
  | .done => 2
  | .tooLate => 3
  | .noBoard => 4
  | .outOfRange => 5
  | .busy => 6
  | .pendingFull => 7
  | .refused => 8
  | .abandoned => 9

/-- The result word: code in bits 19-16, tag in bits 14-0 (R201). -/
def resultWord (code : ResultCode) (tag : BitVec 15) : Word := wordOf [place tag.toNat 0 15, place code.code 16 4]

end Sys2Proof.Machine
end

