-- ==== Sys2Proof/Machine/PowerOn.lean ====
section
/-! DEFINITION. The values each block holds at power-on, as its chapter gives them. -/

namespace Sys2Proof.Machine

/-- A segment entry at its creation values (R8). -/
def Segment.created : Segment :=
  { wood := 0, minThickness := 2000, minWidth := 4000, maxWane := 0, knots := 0, defects := 0, unseen := false, grade := 0 }

/-- A FREE record slot: every field at its creation value, with lug 0 (R8, R13, R19). -/
def Record.blank : Record :=
  { lug := 0, state := .free, committed := false, forced := false, fallback := false, untrimmed := false, long := false,
    short := false, rescanFailed := false, contributed := 0, silent := 0, length := 0, present := 0,
    segments := List.replicate Config.segments Segment.created, forcedGrade := none, forcedTrim := none, chip := false,
    marks := 0, decision := none, held := [] }

/-- R3: the filtered level takes the raw level, no timer runs, the filter time is 1,023 microseconds. -/
def Filter.released (raw : Bool) : Filter :=
  { raw := raw, filtered := raw, timer := none, time := Config.powerOnFilterTime }

/-- R3, R189: the inputs at the release of RESET_N. -/
def Inputs.released (i : Inputs) : Inputs :=
  { lug := Filter.released i.lug.raw, eye := Filter.released i.eye.raw, almin := Filter.released i.almin.raw }

/-- R4, R6, R17, R18: lug number 0, every record slot FREE, every area IDLE with count 0. -/
def Tracker.powerOn : Tracker :=
  { lug := 0, records := List.replicate Config.recordSlots Record.blank,
    areas := List.replicate (Config.recordSlots + 1) { count := 0, pub := .idle }, everRan := false }

/-- R24, R29: no slot table, an empty queue, an idle engine. -/
def Intake.powerOn : Intake := { tables := List.replicate Config.heads none, queue := [], engine := none }

/-- R54: an empty close list. -/
def Measure.powerOn : Measure := { awaiting := [], finalising := [] }

/-- R102: an empty decision queue, the optimizer IDLE. -/
def Optimizer.powerOn : Optimizer := { queue := [], run := none }

/-- R127: empty FIFO and list, engine idle, no forced-trim entry, saw-test mask 0 with its timer stopped. -/
def Overrides.powerOn : Overrides :=
  { fifo := [], readback := .idle, waiting := [], trimEntries := List.replicate Config.recordSlots none, sawMask := 0, sawTimer := none }

/-- R143, R148: no held or waiting read, every bin count 0. -/
def Dispatch.powerOn : Dispatch := { held := [], waiting := [], counts := List.replicate 16 0 }

/-- R154: selector 0, IDLE, flags clear, queue empty, engine idle. -/
def Tally.powerOn : Tally :=
  { bank := false, swap := none, saturated0 := false, saturated1 := false, queue := [], engine := none, kept := false }

/-- R175: a guard flag with no note, counter 0, set indication and latch clear. -/
def GuardFlag.powerOn : GuardFlag := { notes := [], counter := 0, shown := false, latched := false }

def LineGuard.powerOn : LineGuard := { flags := List.replicate 6 GuardFlag.powerOn, force := false }

/-- R194, R195: no header state, overflow and pending flags clear. -/
def EventWriter.powerOn : EventWriter := { ring := none, overflow := false, classes := 0 }

/-- R186, R189: STARTING with a load begun. The shadow's words and the entries in force hold no value the spec gives:
DESIGN CHOICE all 0 (log 5), unsafe. -/
def Shadow.powerOn : Shadow :=
  { part := .starting, words := List.replicate Config.setupWords 0,
    entries := List.replicate 16 { base := 0, limit := 0, control := 0 },
    load := some { cause := .powerOn, words := [], awaitEvent := false, awaitTally := false },
    phase := .none, report := none, held := [] }

/-- The load's read of address 0 (R186). -/
def Burst.loadFormat : Burst := { addr := 0, access := .read 1, purpose := .loadFormat }

end Sys2Proof.Machine
end

