-- ==== Sys2Proof/Machine/State.lean ====
section
/-! DEFINITION. State, the fault and refusal reasons, and the state right after reset. -/

namespace Sys2Proof.Machine

/-- The part, the line memory behind its memory port, and the queue of commands waiting. Block by block, as 00_scope.md
lists what each block owns; INVENTORY.md names the rule of every field. -/
structure State where
  inputs : Inputs
  resetAsserted : Bool
  outputs : Outputs
  shadow : Shadow
  tracker : Tracker
  intake : Intake
  measure : Measure
  optimizer : Optimizer
  skip : Nat
  overrides : Overrides
  dispatch : Dispatch
  tally : Tally
  lineGuard : LineGuard
  events : EventWriter
  bus : Bus
  pending : List Instr
  deriving DecidableEq, Repr

/-- No command stops the part with a fault: what the part reports, it reports as an error response, an event, a result word or
a guard flag, each an effect on State. The type therefore has no constructor. -/
inductive Fault where
  deriving DecidableEq, Repr

/-- Why a command is refused. -/
inductive Refusal where
  /-- Raised by exec for a command without a meaning; no arm raises it. Safe. -/
  | notModelled (mnemonic : String)
  /-- Raised by a transaction of no word or of more than 16 words, which the chassis bus does not carry (00_scope.md,
  Discrete Lines: "bursts of 1 to 16 words"; log 12). Safe: the model stops where the bus has no such transaction. -/
  | burstLength (words : Nat)
  deriving DecidableEq, Repr

/-- The part right after the release of RESET_N (R189): power-on values, STARTING, and the load's read of address 0 granted.
The raw levels are a DESIGN CHOICE (log 4), line memory holds nothing listed (log 1). -/
def State.reset : State :=
  { inputs := { lug := Filter.released false, eye := Filter.released false, almin := Filter.released false },
    resetAsserted := false,
    outputs := { lskip := false, almout := true, attn := false },
    shadow := Shadow.powerOn, tracker := Tracker.powerOn, intake := Intake.powerOn, measure := Measure.powerOn,
    optimizer := Optimizer.powerOn, skip := 0, overrides := Overrides.powerOn, dispatch := Dispatch.powerOn,
    tally := Tally.powerOn, lineGuard := LineGuard.powerOn, events := EventWriter.powerOn,
    bus := { mem := [], through := [], internal := [], port := some Burst.loadFormat, lastGrant := some .internal,
             nextTxn := 0, answers := [] },
    pending := [] }

end Sys2Proof.Machine
end

