-- ==== Sys2Proof/Machine/Setup.lean ====
section
/-! DEFINITION. The setup image as the shadow holds it (R198): fields, values in use (R184), the grading tables, and the
window table with the windows in force (R177). Functions of the shadow's words and entries alone. -/

namespace Sys2Proof.Machine

def setupWord (ws : List Word) (n : Nat) : Word := ws.getD n 0

/-- Does word `n` of the setup image hold a field (R198)? Other words are not followed (Chapter 10, The Setup Shadow). -/
def holdsField (n : Nat) : Bool :=
  n ≤ 20 || (32 ≤ n && n ≤ 115) || (128 ≤ n && n ≤ 162) || (168 ≤ n && n ≤ 174) || (176 ≤ n && n ≤ 259) ||
    (264 ≤ n && n ≤ 335)

/-- Is word `n` of the grading tables (Chapter 5, Grading Table Writes; R198)? -/
def inGradingTables (n : Nat) : Bool :=
  n == 19 || (128 ≤ n && n ≤ 162) || (168 ≤ n && n ≤ 174) || (176 ≤ n && n ≤ 259) || (264 ≤ n && n ≤ 271)

/-! ### Values in use (R184) -/

/-- The range of the value in use of a field that fills word `n`, for the fields whose range stands alone. -/
def fieldRange (n : Nat) : Option (Nat × Nat) :=
  if n = 4 ∨ n = 5 ∨ n = 6 then some (0, 1023)
  else if n = 7 then some (2, 28)
  else if n = 8 then some (1, 65535)
  else if n = 10 then some (1, 32)
  else if n = 12 then some (1, 15)
  else if n = 14 then some (1, 32)
  else if n = 18 then some (0, 2000)
  else if n = 19 then some (1, 12)
  else if 80 ≤ n ∧ n ≤ 115 then
    if (n - 80) % 6 = 4 then some (0, 7320) else if (n - 80) % 6 = 5 then some (1, 4095) else none
  else if 128 ≤ n ∧ n ≤ 162 then
    if (n - 128) % 5 = 0 then some (0, 2000) else if (n - 128) % 5 = 1 then some (0, 4000)
    else if (n - 128) % 5 = 2 then some (0, 1275) else none
  else if 272 ≤ n ∧ n ≤ 335 then
    if (n - 272) % 4 = 1 ∨ (n - 272) % 4 = 2 then some (1, 12) else none
  else none

/-- The value of word `n` clamped to its own range. -/
def ownClamp (ws : List Word) (n : Nat) : Nat :=
  match fieldRange n with
  | some (lo, hi) => clamp lo hi (setupWord ws n).toNat
  | none => (setupWord ws n).toNat

/-- The value in use of the field that fills word `n` (R184): release (word 11) stays below skip-high in use, the refresh
threshold (word 13) below the skip quantum in use. -/
def inUse (ws : List Word) (n : Nat) : Nat :=
  if n = 11 then clamp 0 (ownClamp ws 10 - 1) (setupWord ws 11).toNat
  else if n = 13 then clamp 0 (ownClamp ws 12 - 1) (setupWord ws 13).toNat
  else ownClamp ws n

/-- Does the value in use of word `n` differ from its written value? -/
def isClamped (ws : List Word) (n : Nat) : Bool := inUse ws n != (setupWord ws n).toNat

/-! ### Fields by name (R198) -/

def writerMask (ws : List Word) : BitVec 8 := BitVec.ofNat 8 (bits (setupWord ws 1) 0 8)
def classEnable (ws : List Word) : BitVec 8 := BitVec.ofNat 8 (bits (setupWord ws 2) 0 8)
def decisionEventEnable (ws : List Word) : Bool := bit (setupWord ws 3) 0
/-- The fallback kind: CHIP 0, PASS 1 (R197). -/
def fallbackPass (ws : List Word) : Bool := bit (setupWord ws 3) 8
def filterTime (ws : List Word) : Input → Nat
  | .lug => inUse ws 4
  | .eye => inUse ws 5
  | .almin => inUse ws 6
/-- The commit position C. -/
def commitPosition (ws : List Word) : Nat := inUse ws 7
def holdLimit (ws : List Word) : Nat := inUse ws 8
def safetyTime (ws : List Word) : Nat := bits (setupWord ws 9) 0 8
def skipHigh (ws : List Word) : Nat := inUse ws 10
def release (ws : List Word) : Nat := inUse ws 11
def skipQuantum (ws : List Word) : Nat := inUse ws 12
def refreshThreshold (ws : List Word) : Nat := inUse ws 13
def backlogLimit (ws : List Word) : Nat := inUse ws 14
def guardEnable (ws : List Word) : BitVec 6 := BitVec.ofNat 6 (bits (setupWord ws 15) 0 6)
/-- The persistence setting k of guard flag `i` (words 16 and 17). -/
def persistence (ws : List Word) (i : Nat) : Nat :=
  if i < 4 then bits (setupWord ws 16) (8 * i) 8 else bits (setupWord ws 17) (8 * (i - 4)) 8
def airThreshold (ws : List Word) : Nat := inUse ws 18
def minimumLength (ws : List Word) : Nat := inUse ws 19
def rejectBin (ws : List Word) : Nat := bits (setupWord ws 20) 0 4
def remanBin (ws : List Word) : Nat := bits (setupWord ws 20) 8 4

/-- A 10-bit offset in two's complement. -/
def signedOffset (w : Word) : Int := (BitVec.ofNat 10 (bits w 0 10)).toInt
def thicknessOffset (ws : List Word) (h : Nat) : Int := signedOffset (setupWord ws (80 + 6 * h))
def thicknessGain (ws : List Word) (h : Nat) : Nat := bits (setupWord ws (81 + 6 * h)) 0 16
def widthOffset (ws : List Word) (h : Nat) : Int := signedOffset (setupWord ws (82 + 6 * h))
def widthGain (ws : List Word) (h : Nat) : Nat := bits (setupWord ws (83 + 6 * h)) 0 16
def zoneStart (ws : List Word) (h : Nat) : Nat := inUse ws (84 + 6 * h)
def zoneLength (ws : List Word) (h : Nat) : Nat := inUse ws (85 + 6 * h)

def limitThickness (ws : List Word) (g : Nat) : Nat := inUse ws (128 + 5 * g)
def limitWidth (ws : List Word) (g : Nat) : Nat := inUse ws (129 + 5 * g)
def limitWane (ws : List Word) (g : Nat) : Nat := inUse ws (130 + 5 * g)
def limitKnots (ws : List Word) (g : Nat) : Nat := bits (setupWord ws (131 + 5 * g)) 0 8
def segmentBudget (ws : List Word) (g : Nat) : Nat := bits (setupWord ws (132 + 5 * g)) 0 16
def pieceBudget (ws : List Word) (g : Nat) : Nat := bits (setupWord ws (168 + g)) 0 16
def price (ws : List Word) (g n : Nat) : Nat := bits (setupWord ws (176 + 12 * g + (n - 1))) 0 16
def classWeight (ws : List Word) (c : Nat) : Nat := bits (setupWord ws (264 + c)) 0 8

def binGrades (ws : List Word) (b : Nat) : Nat := bits (setupWord ws (272 + 4 * b)) 0 8
def binMinimum (ws : List Word) (b : Nat) : Nat := inUse ws (273 + 4 * b)
def binMaximum (ws : List Word) (b : Nat) : Nat := inUse ws (274 + 4 * b)
def binCapacity (ws : List Word) (b : Nat) : Nat := bits (setupWord ws (275 + 4 * b)) 0 16

/-! ### The window table (R177, R198) -/

def WindowKind.ofCode : Nat → WindowKind
  | 0 => .frame
  | 1 => .override
  | 2 => .record
  | 3 => .tally
  | 4 => .event
  | 5 => .trim
  | 6 => .sort
  | _ => .guarded

/-- The smallest size that makes a window of the kind valid (R177). -/
def WindowKind.minimum : WindowKind → Nat
  | .record => 8448
  | .tally => 2304
  | .frame => 2048
  | .event => 272
  | .trim => 128
  | .sort => 128
  | .override => 64
  | .guarded => 4

/-- Bits 1-0 of the base and limit words are ignored (R198). -/
def WindowEntry.start (e : WindowEntry) : Nat := bits e.base 2 30 * 4
def WindowEntry.top (e : WindowEntry) : Nat := bits e.limit 2 30 * 4
/-- limit - base + 4 bytes (R177); meaningful when the base is at or below the limit. -/
def WindowEntry.size (e : WindowEntry) : Nat := e.top + 4 - e.start
def WindowEntry.kind (e : WindowEntry) : WindowKind := WindowKind.ofCode (bits e.control 0 3)
def WindowEntry.head (e : WindowEntry) : Nat := bits e.control 4 3
def WindowEntry.readMask (e : WindowEntry) : BitVec 8 := BitVec.ofNat 8 (bits e.control 8 8)
def WindowEntry.writeMask (e : WindowEntry) : BitVec 8 := BitVec.ofNat 8 (bits e.control 16 8)
def WindowEntry.enabled (e : WindowEntry) : Bool := bit e.control 31
def WindowEntry.covers (e : WindowEntry) (a : Nat) : Bool := e.start ≤ a && a ≤ e.top + 3

/-- Why an entry is not valid (R177), in the order of the cause codes of R206: order 1, size 2, head 3. -/
def WindowEntry.invalidCause (e : WindowEntry) : Option Nat :=
  if e.top < e.start then some 1
  else if e.size < e.kind.minimum then some 2
  else if e.kind = .frame ∧ 5 < e.head then some 3
  else none

/-- Two entries that would be the window in force of the same kind, or of the same head for FRAME. -/
def WindowEntry.sameTarget (e f : WindowEntry) : Bool := e.kind == f.kind && (e.kind != .frame || e.head == f.head)

/-- Entry `i` of the entries in force. -/
def entryAt (es : List WindowEntry) (i : Nat) : WindowEntry := es.getD i { base := 0, limit := 0, control := 0 }

/-- Enabled and valid. -/
def entryStands (es : List WindowEntry) (i : Nat) : Bool :=
  (entryAt es i).enabled && (entryAt es i).invalidCause.isNone

/-- Why entry `i`, taken as enabled, is ignored (R177): its own cause, or duplicate 4. -/
def ignoredCause (es : List WindowEntry) (i : Nat) : Option Nat :=
  match (entryAt es i).invalidCause with
  | some c => some c
  | none => if (List.range i).any fun j => entryStands es j && (entryAt es j).sameTarget (entryAt es i) then some 4 else none

/-- Entry `i` is a window in force: enabled, valid and the lowest of its kind, or of its head (R177). -/
def isInForce (es : List WindowEntry) (i : Nat) : Bool := (entryAt es i).enabled && (ignoredCause es i).isNone

/-- The index of the window in force of a kind other than FRAME. -/
def windowIndex (es : List WindowEntry) (k : WindowKind) : Option Nat :=
  (List.range 16).find? fun i => isInForce es i && (entryAt es i).kind == k

/-- The index of the FRAME window in force of a head. -/
def frameIndex (es : List WindowEntry) (h : Nat) : Option Nat :=
  (List.range 16).find? fun i => isInForce es i && (entryAt es i).kind == .frame && (entryAt es i).head == h

/-- The window in force of a kind other than FRAME. -/
def windowOf (es : List WindowEntry) (k : WindowKind) : Option WindowEntry := (windowIndex es k).map (entryAt es)

/-- The FRAME window in force of a head. -/
def frameWindow (es : List WindowEntry) (h : Nat) : Option WindowEntry := (frameIndex es h).map (entryAt es)

/-- Frame slots of a FRAME window (R23). -/
def frameSlots (e : WindowEntry) : Nat := min (e.size / 1024) 32

/-- Entries of an OVERRIDE window (R104). -/
def overrideEntries (e : WindowEntry) : Nat := min (e.size / 16) 1024

/-- Capacity of the event ring (R191). -/
def ringCapacity (e : WindowEntry) : Nat := min ((e.size - 16) / 16) 4096

/-- Byte address `off` bytes above a window's base. -/
def windowAddr (e : WindowEntry) (off : Nat) : Word := BitVec.ofNat 32 (e.start + off)

/-- What makes a window of another kind take force or move (R20, R163): its entry and base. -/
def windowKey (es : List WindowEntry) (k : WindowKind) : Option (Nat × Nat) :=
  (windowIndex es k).map fun i => (i, (entryAt es i).start)

/-! ### Words into the shadow -/

/-- The entry that words 32 + 3i to 34 + 3i hold. -/
def entryFromWords (ws : List Word) (i : Nat) : WindowEntry :=
  { base := setupWord ws (32 + 3 * i), limit := setupWord ws (33 + 3 * i), control := setupWord ws (34 + 3 * i) }

/-- Every entry as a load takes it (R186). -/
def entriesFromWords (ws : List Word) : List WindowEntry := (List.range 16).map (entryFromWords ws)

/-- The shadow a load forms from the words it read (R186): the words that hold fields. -/
def shadowFromLoad (read : List Word) : List Word :=
  (List.range Config.setupWords).map fun n => if holdsField n then read.getD n 0 else 0

/-- The words of the setup image that a permitted write carries (R183): its full words that hold a field. -/
def setupCarried (w : BusWrite) : List (Nat × Word) :=
  (carried w).filterMap fun c => if Beat.isFull c.2 && holdsField (c.1 / 4) then some (c.1 / 4, c.2.data) else none

/-- R183: every field that the write carries takes the written value. -/
def followWords (ws : List Word) (c : List (Nat × Word)) : List Word :=
  c.foldl (fun ws p => ws.set p.1 p.2) ws

/-- Does the write carry the control word of entry `i`? -/
def carriesControl (c : List (Nat × Word)) (i : Nat) : Bool := c.any fun p => p.1 == 34 + 3 * i

/-- R177: an entry in force changes at a write that carries its control word. -/
def followEntries (es : List WindowEntry) (ws : List Word) (c : List (Nat × Word)) : List WindowEntry :=
  (List.range 16).map fun i => if carriesControl c i then entryFromWords ws i else entryAt es i

/-- R184: the words whose SETUP_ERR a write gives, in ascending order: a carried field whose value in use differs from its
written value, and release or the refresh threshold when a write of skip-high or the skip quantum changes its value in use (log 21). -/
def clampedByWrite (old new : List Word) (c : List (Nat × Word)) : List Nat :=
  let carries n := c.any fun p => p.1 == n
  (List.range Config.setupWords).filter fun n =>
    (carries n && isClamped new n) ||
    (n == 11 && !carries 11 && carries 10 && inUse old 11 != inUse new 11) ||
    (n == 13 && !carries 13 && carries 12 && inUse old 13 != inUse new 13)

/-- R184: the words whose SETUP_ERR a load gives, in ascending order. -/
def clampedByLoad (ws : List Word) : List Nat := (List.range Config.setupWords).filter fun n => isClamped ws n

/-- R177: the enabled entries a load ignores, in index order, each with its cause. -/
def ignoredByLoad (es : List WindowEntry) : List (Nat × Nat) :=
  (List.range 16).filterMap fun i =>
    if (entryAt es i).enabled then (ignoredCause es i).map fun c => (i, c) else none

/-- R177: the entries a write carries and leaves enabled and ignored. -/
def ignoredByWrite (es : List WindowEntry) (c : List (Nat × Word)) : List (Nat × Nat) :=
  (ignoredByLoad es).filter fun p => carriesControl c p.1

end Sys2Proof.Machine
end

