-- ==== Sys2Proof/Machine/Grading.lean ====
section
/-! DEFINITION. Grading and trim selection (Chapter 4): segment grades, candidates, the choice, forced grade, forced trim and chip,
and the saw mask of every outcome. Functions of a record and of the grading tables it is graded under. -/

namespace Sys2Proof.Machine

def Record.segment (r : Record) (i : Nat) : Segment := r.segments.getD i Segment.created

/-! ### Segment grades -/

/-- R65: the five tests of a segment against row `g`. -/
def passesRow (ws : List Word) (g : Nat) (e : Segment) : Bool :=
  limitThickness ws g ≤ e.minThickness && limitWidth ws g ≤ e.minWidth && e.maxWane ≤ limitWane ws g &&
    e.knots ≤ limitKnots ws g && e.defects ≤ segmentBudget ws g

/-- R64, R65: grade 7 for a segment not present, unseen or marked; else the smallest grade whose row it passes, else 7. -/
def segmentGrade (ws : List Word) (r : Record) (i : Nat) : Nat :=
  if r.present ≤ i ∨ (r.segment i).unseen ∨ r.marks.getLsbD i then 7
  else ((List.range 7).find? fun g => passesRow ws g (r.segment i)).getD 7

/-! ### Candidates (R67-R70) -/

/-- R68: the largest segment grade of [a, b). -/
def worstGrade (ws : List Word) (r : Record) (a b : Nat) : Nat :=
  ((List.range (b - a)).map fun j => segmentGrade ws r (a + j)).foldl max 0

/-- R68: the defect total of [a, b). -/
def defectTotal (r : Record) (a b : Nat) : Nat := ((List.range (b - a)).map fun j => (r.segment (a + j)).defects).sum

/-- R69: the smallest grade from worst to 6 whose piece budget the defect total keeps. -/
def budgetGrade (ws : List Word) (worst total n : Nat) : Option Nat :=
  (List.range 7).find? fun g => worst ≤ g && total ≤ pieceBudget ws g * n

/-- A valid candidate: its piece, piece grade and value (R70). -/
structure Candidate where
  a : Nat
  b : Nat
  grade : Nat
  value : Nat
  deriving DecidableEq, Repr

/-- R68-R70, R73: the candidate [a, b), if it is valid. A forced grade takes the place of the budget test. -/
def candidate (ws : List Word) (r : Record) (a b : Nat) : Option Candidate :=
  if 7 ≤ worstGrade ws r a b then none
  else
    let graded := match r.forcedGrade with
      | some g => some g
      | none => budgetGrade ws (worstGrade ws r a b) (defectTotal r a b) (b - a)
    match graded with
    | some g => if price ws g (b - a) = 0 then none else some { a := a, b := b, grade := g, value := price ws g (b - a) }
    | none => none

/-- R67: the pairs (a, b) with 0 ≤ a < b ≤ P and b - a at or above the minimum length. -/
def candidatePairs (p minimum : Nat) : List (Nat × Nat) :=
  (List.range p).flatMap fun a =>
    (List.range (p + 1)).filterMap fun b => if a < b ∧ minimum ≤ b - a then some (a, b) else none

def validCandidates (ws : List Word) (r : Record) : List Candidate :=
  (candidatePairs r.present (minimumLength ws)).filterMap fun c => candidate ws r c.1 c.2

/-- R71: higher value, then larger n, then smaller a. -/
def Candidate.beats (c d : Candidate) : Bool :=
  d.value < c.value ||
    (d.value == c.value && (d.b - d.a < c.b - c.a || (d.b - d.a == c.b - c.a && c.a < d.a)))

/-- R71: the choice among the valid candidates. -/
def choose : List Candidate → Option Candidate
  | [] => none
  | c :: rest => match choose rest with
    | some d => some (if d.beats c then d else c)
    | none => some c

/-! ### Saw masks (R80-R83) -/

/-- R80: the last saw within the board; 0 for length 0. -/
def lastSaw (length : Nat) : Nat := (length - 1) / Config.segmentMm

/-- R81: every saw k with k ≤ a, and every k with b ≤ k ≤ last. -/
def pieceSaws (length a b : Nat) : Saws := maskOf 13 fun k => k ≤ a || (b ≤ k && k ≤ lastSaw length)

/-- R82: every saw from 0 to last. -/
def rejectSaws (length : Nat) : Saws := maskOf 13 fun k => k ≤ lastSaw length

/-- R83: CHIP drops all thirteen saws, PASS none. -/
def fallbackSaws (ws : List Word) : Saws := if fallbackPass ws then 0 else maskOf 13 fun _ => true

/-! ### Decisions -/

/-- R72, R76: a REJECT decision. -/
def rejectDecision (r : Record) : Decision :=
  { verdict := .reject, a := 0, b := 0, grade := 7, value := 0, saws := rejectSaws r.length }

/-- R71, R84: the PIECE decision of the chosen candidate. -/
def pieceDecision (r : Record) (c : Candidate) : Decision :=
  { verdict := .piece, a := c.a, b := c.b, grade := c.grade, value := c.value, saws := pieceSaws r.length c.a c.b }

/-- R83: a fallback decision. -/
def fallbackDecision (ws : List Word) : Decision :=
  { verdict := .fallback, a := 0, b := 0, grade := 7, value := 0, saws := fallbackSaws ws }

/-- R71-R74: the decision of a run that searches the candidates, or of a forced grade of 7 alone. -/
def searchDecision (ws : List Word) (r : Record) : Decision :=
  if r.forcedGrade = some 7 then rejectDecision r
  else match choose (validCandidates ws r) with
    | some c => pieceDecision r c
    | none => rejectDecision r

/-- R77: the grade of a forced trim's piece: the forced grade, else the piece grade of the one candidate, else 7. -/
def trimGrade (ws : List Word) (r : Record) (a b : Nat) : Nat := match r.forcedGrade with
  | some g => g
  | none => match candidate ws r a b with
    | some c => c.grade
    | none => 7

/-- R77: price[grade][n] for a grade from 0 to 6, and 0 for grade 7. -/
def gradeValue (ws : List Word) (g n : Nat) : Nat := if g < 7 then price ws g n else 0

/-- R78: the forced trim reaches beyond the board. -/
def trimBeyond (r : Record) : Bool := match r.forcedTrim with
  | some (_, b) => r.present < b
  | none => false

/-- R75-R78: the forced decision of a record that holds chip or a forced trim. -/
def forcedDecision (ws : List Word) (r : Record) : Decision := match r.forcedTrim with
  | some (a, b) =>
    if r.present < b then rejectDecision r
    else { verdict := .piece, a := a, b := b, grade := trimGrade ws r a b, value := gradeValue ws (trimGrade ws r a b) (b - a),
           saws := pieceSaws r.length a b }
  | none => rejectDecision r

/-- R58, R79: does the record hold chip or a forced trim? -/
def Record.isForced (r : Record) : Bool := r.chip || r.forcedTrim.isSome

/-- R66: the twelve segment entries with the grades of a decision. -/
def gradedSegments (ws : List Word) (r : Record) : List Segment :=
  (List.range Config.segments).map fun i => { r.segment i with grade := segmentGrade ws r i }

/-- R84: the record with a decision written in one change: decision, segment grades, forced flag, DECIDED. -/
def Record.decide (r : Record) (d : Decision) (segs : List Segment) (forced : Bool) : Record :=
  { r with decision := some d, segments := segs, forced := forced, state := .decided }

end Sys2Proof.Machine
end

