-- ==== Sys2Proof/Machine/Measurement.lean ====
section
/-! DEFINITION. Measurement (Chapter 3): calibration, slice conversion, merging of a frame into a record, and the results of a
close. Functions of a record and of the setup words in force. -/

namespace Sys2Proof.Machine

/-! ### Slice conversion (R46-R48) -/

/-- R46: offset, gain and limit; the sum below 0 is taken as 0, the product is carried whole. -/
def convert (raw : Nat) (offset : Int) (gain limit : Nat) : Nat :=
  min ((Int.toNat (Int.ofNat raw + offset)) * gain / 16384) limit

def sliceThickness (ws : List Word) (h : Nat) (c : Slice) : Nat :=
  convert c.thickness (thicknessOffset ws h) (thicknessGain ws h) 2000

def sliceWidth (ws : List Word) (h : Nat) (c : Slice) : Nat := convert c.width (widthOffset ws h) (widthGain ws h) 4000

/-- R47: raw wane times 5. -/
def sliceWane (c : Slice) : Nat := c.wane * 5

/-- R47: the absolute position; a position at or above the zone length is taken as zone length - 1. -/
def slicePosition (ws : List Word) (h : Nat) (c : Slice) : Nat := zoneStart ws h + min c.position (zoneLength ws h - 1)

/-- R48: a slice at or above the air threshold is wood. -/
def sliceIsWood (ws : List Word) (h : Nat) (c : Slice) : Bool := airThreshold ws ≤ sliceThickness ws h c

/-! ### Merging (R49-R53) -/

/-- R51: what a slice adds to the defect sum. -/
def sliceDefect (ws : List Word) (c : Slice) : Nat :=
  if c.defectClass = 0 then 0 else classWeight ws c.defectClass * c.defectSize / 16

/-- R50, R51: one wood slice merged into a segment entry. -/
def mergeSegment (ws : List Word) (h : Nat) (c : Slice) (e : Segment) : Segment :=
  { e with
    wood := min (e.wood + 1) 255
    minThickness := min e.minThickness (sliceThickness ws h c)
    minWidth := min e.minWidth (sliceWidth ws h c)
    maxWane := max e.maxWane (sliceWane c)
    knots := if c.defectClass = 1 ∧ c.defectStart then min (e.knots + 1) 255 else e.knots
    defects := min (e.defects + sliceDefect ws c) 65535 }

/-- R48, R50-R53: one slice merged into a record. -/
def mergeSlice (ws : List Word) (h : Nat) (r : Record) (c : Slice) : Record :=
  if sliceIsWood ws h c then
    let x := slicePosition ws h c
    if x < Config.maxLength then
      { r with
        segments := r.segments.set (x / Config.segmentMm) (mergeSegment ws h c (r.segment (x / Config.segmentMm)))
        length := max r.length (x + 1) }
    else { r with long := true, length := Config.maxLength }
  else r

/-- R49: the merge of a frame, taken whole: the head joins the head-contributed mask, every slice is merged. -/
def mergeFrame (ws : List Word) (h : Nat) (slices : List Slice) (r : Record) : Record :=
  slices.foldl (mergeSlice ws h) { r with contributed := r.contributed ||| BitVec.twoPow 6 h }

/-! ### Judging a frame's form (R31, R32, R200) -/

/-- R31: the first check a frame fails: format 1, head 2, count 3 (R206). -/
def badFrame (h : Nat) (header trailer : Word) : Option Nat :=
  if headerMarker header ≠ Config.frameMarker then some 1
  else if headerHead header ≠ h then some 2
  else if trailerCount trailer ≠ headerCount header then some 3
  else none

/-- R32: the slice count used. -/
def slicesUsed (header : Word) : Nat := min (headerCount header) Config.maxSlices

/-- R32: the frame is truncated. -/
def truncated (header : Word) : Bool := Config.maxSlices < headerCount header

/-- R30: the bursts of the slice words of a frame slot at `addr`: 16 words each and a last one of what remains. -/
def sliceBursts (addr : Word) (n : Nat) : List Burst :=
  let words := 2 * n
  let count := (words + 15) / 16
  (List.range count).map fun i =>
    { addr := addr + BitVec.ofNat 32 (8 + 64 * i), access := .read (min 16 (words - 16 * i)),
      purpose := .frameSlices (i + 1 == count) }

/-! ### The close (R56, R57) -/

/-- R57: head `h` is silent: its zone overlaps the board and it is not in the head-contributed mask. -/
def headIsSilent (ws : List Word) (r : Record) (h : Nat) : Bool := zoneStart ws h < r.length && !r.contributed.getLsbD h

def silentMask (ws : List Word) (r : Record) : BitVec 6 := maskOf 6 (headIsSilent ws r)

/-- R56: unseen flags of the twelve segments for a board of `p` present segments. -/
def closedSegments (r : Record) (p : Nat) : List Segment :=
  (List.range Config.segments).map fun i => { r.segment i with unseen := decide (i < p) && (r.segment i).wood == 0 }

/-- R56, R57: the results of a close written into the record. -/
def finalise (ws : List Word) (r : Record) : Record :=
  { r with
    present := r.length / Config.segmentMm
    segments := closedSegments r (r.length / Config.segmentMm)
    short := decide (r.length / Config.segmentMm < minimumLength ws)
    silent := silentMask ws r }

/-- R39: the record's measurement returned to its creation values, its decision and forced flag cleared; the override parts
and the held-slot list are kept. The record enters CLOSING. -/
def Record.reopen (r : Record) : Record :=
  { r with
    contributed := 0, silent := 0, length := 0, present := 0
    segments := List.replicate Config.segments Segment.created
    long := false, short := false, rescanFailed := false
    decision := none, forced := false, state := .closing }

end Sys2Proof.Machine
end

