-- ==== Sys2Proof/Machine/Flags.lean ====
section
/-! DEFINITION. Levels and flags computed from the state: records' positions, the backlog, the free-slot mask, the guard flags'
counting and latching, the skip count, and the three output lines. -/

namespace Sys2Proof.Machine

/-! ### Records -/

/-- The record of record slot `k`. -/
def State.record (s : State) (k : Nat) : Record := s.tracker.records.getD k Record.blank

/-- Live: in any state other than FREE. -/
def Record.live (r : Record) : Bool := r.state != .free

/-- The position of a lug (R5): (c - L) mod 65,536. -/
def position (c lug : Lug) : Nat := (c - lug).toNat

/-- The record slot of a lug: lug mod 32 (The Record Table). -/
def slotOf (lug : Lug) : Nat := lug.toNat % 32

/-- R98: QUEUED or OPTIMIZING. -/
def Record.inBacklog (r : Record) : Bool := r.state == .queued || r.state == .optimizing

/-- The backlog (R98): the number of records QUEUED or OPTIMIZING. -/
def backlog (s : State) : Nat := s.tracker.records.countP Record.inBacklog

/-- The free-slot mask (R43): a head's bit is set while it has a slot table with at least one FREE slot. -/
def freeSlotMask (s : State) : BitVec 6 :=
  maskOf 6 fun h => match s.intake.tables.getD h none with
    | some slots => slots.any fun x => x == .free
    | none => false

/-! ### Line guard (R165-R170) -/

def GuardName.index : GuardName → Nat
  | .silent => 0
  | .missync => 1
  | .fallback => 2
  | .unsorted => 3
  | .backlog => 4
  | .chain => 5

def State.flag (s : State) (i : Nat) : GuardFlag := s.lineGuard.flags.getD i GuardFlag.powerOn

/-- R165: a report makes one note for the lug it carries. -/
def GuardFlag.report (f : GuardFlag) (lug : Lug) : GuardFlag :=
  { f with notes := if f.notes.contains lug then f.notes else f.notes ++ [lug] }

/-- R167: count, set or clear the indication, discard the notes of the ended lug. -/
def GuardFlag.count (f : GuardFlag) (present : Bool) (ended : Lug) : GuardFlag :=
  { f with
    notes := f.notes.filter fun l => l != ended
    counter := if present then min (f.counter + 1) 255 else 0
    shown := present }

/-- R168, R169: with k above 0 and the latch clear, the flag latches when its counter is at or above k. -/
def GuardFlag.latches (f : GuardFlag) (k : Nat) : Bool := 0 < k && !f.latched && k ≤ f.counter

/-- R167, R168: one flag through one lug event. -/
def GuardFlag.evaluate (f : GuardFlag) (present : Bool) (ended : Lug) (k : Nat) : GuardFlag :=
  let g := f.count present ended
  if g.latches k then { g with latched := true } else g

/-- R170: ACK clears the latch and the persistence counter. -/
def GuardFlag.acknowledge (f : GuardFlag) : GuardFlag := { f with counter := 0, latched := false }

/-- Is the condition of flag `i` present in the lug `ended` (R165, R166, R167)? -/
def guardPresent (s : State) (i : Nat) (ended : Lug) : Bool :=
  if i = GuardName.backlog.index then backlogLimit s.shadow.words ≤ backlog s
  else if i = GuardName.chain.index then s.inputs.almin.filtered
  else (s.flag i).notes.contains ended

/-! ### Pacing (R100) -/

/-- The three steps of R100 on the skip count. -/
def nextSkip (ws : List Word) (blog skip : Nat) : Nat :=
  let counted := skip - 1
  if skipHigh ws ≤ blog ∧ counted ≤ refreshThreshold ws then skipQuantum ws
  else if blog ≤ release ws then 0
  else counted

/-! ### Output lines -/

/-- A latched flag whose bit of the guard enable mask is set (R172). -/
def enabledLatch (s : State) : Bool :=
  (List.range 6).any fun i => (s.flag i).latched && (guardEnable s.shadow.words).getLsbD i

/-- R172, R189: the causes that assert ALMOUT. -/
def almoutLevel (s : State) : Bool :=
  s.resetAsserted || s.shadow.part != .running || s.lineGuard.force || s.inputs.almin.filtered || enabledLatch s

/-- R101, R187, R189: LSKIP is asserted while the skip count is above 0. -/
def lskipLevel (s : State) : Bool := !s.resetAsserted && s.shadow.part == .running && 0 < s.skip

/-- R194, R187, R189: ATTN is asserted while a pending class is enabled. -/
def attnLevel (s : State) : Bool :=
  !s.resetAsserted && s.shadow.part != .transparent && (s.events.classes &&& classEnable s.shadow.words) != 0

/-- The output lines follow the state at the end of every change (R101, R172, R194). -/
def drivePins (s : State) : State :=
  { s with outputs := { lskip := lskipLevel s, almout := almoutLevel s, attn := attnLevel s } }

end Sys2Proof.Machine
end

