-- ==== Sys2Proof/Machine/Formats.lean ====
section
/-! DEFINITION. The words the part writes and answers: record mirror and status block (R203), answer words (R204), tally header
(R205), event entries and the producer word (R206). Every bit no table names is 0 (R197). -/

namespace Sys2Proof.Machine

def RecordState.code : RecordState → Nat
  | .free => 0
  | .scanning => 1
  | .closing => 2
  | .queued => 3
  | .optimizing => 4
  | .decided => 5
  | .dispatched => 6

def Verdict.code : Verdict → Nat
  | .piece => 1
  | .reject => 2
  | .fallback => 3

/-- The outcome code of a decision; absent is 0 (R197). -/
def outcomeCode (d : Option Decision) : Nat := match d with
  | some d => d.verdict.code
  | none => 0

def PartState.code : PartState → Nat
  | .starting => 0
  | .transparent => 1
  | .running => 2

def EventClass.code : EventClass → Nat
  | .frame => 0
  | .decision => 1
  | .override => 2
  | .dispatch => 3
  | .tally => 4
  | .guard => 5
  | .setup => 6
  | .line => 7

def StartCause.code : StartCause → Nat
  | .powerOn => 0
  | .lineReset => 1
  | .formatWord => 2

/-! ### Line status block and record mirror (R203) -/

/-- Body words 1-63 of the line status block. -/
def statusBody (s : State) : List Word :=
  [ wordOf [place s.tracker.lug.toNat 0 16, place s.shadow.part.code 16 2, placeBit s.tally.bank 20, placeBit s.lineGuard.force 24,
      placeBit s.inputs.almin.filtered 25, placeBit s.overrides.sawTimer.isSome 26],
    wordOf [place (backlog s) 0 6, place s.skip 8 4, place (freeSlotMask s).toNat 16 6],
    wordOf [place s.overrides.sawMask.toNat 0 13],
    wordOf [place (maskOf 6 fun i => (s.flag i).shown).toNat 0 6, place (maskOf 6 fun i => (s.flag i).latched).toNat 8 6] ]
  ++ List.replicate 59 0

/-- The three words of segment entry `s`. -/
def segmentWords (g : Segment) : List Word :=
  [ wordOf [place g.wood 0 8, place g.knots 8 8, place g.defects 16 16],
    wordOf [place g.minThickness 0 11, place g.minWidth 16 12, place g.grade 28 3, placeBit g.unseen 31],
    wordOf [place g.maxWane 0 11] ]

/-- The byte of held-slot entry `j`: head in bits 7-5, frame slot in bits 4-0; 0 beyond the list. -/
def heldByte (held : List (Nat × Nat)) (j : Nat) : Nat := match held[j]? with
  | some (h, i) => place h 5 3 + place i 0 5
  | none => 0

/-- Word 8 + w of the mirror: held-slot entries 4w to 4w + 3. -/
def heldWord (held : List (Nat × Nat)) (w : Nat) : Word :=
  wordOf ((List.range 4).map fun j => place (heldByte held (4 * w + j)) (8 * j) 8)

/-- Words 5 and 6: the decision; an absent one shows 0. -/
def decisionWords (d : Option Decision) : List Word := match d with
  | some d => [ wordOf [place d.verdict.code 24 2, place d.a 0 4, place d.b 4 4, place d.grade 8 3],
                wordOf [place d.value 0 16, place d.saws.toNat 16 13] ]
  | none => [0, 0]

/-- Word 4: the override parts (R203). The value bits of an absent forced grade or forced trim are 0: the spec gives them no content, and
this is the model's choice (log 44). -/
def partsWord (r : Record) : Word :=
  wordOf [ match r.forcedGrade with
            | some g => place g 0 3 + placeBit true 31
            | none => 0,
           match r.forcedTrim with
            | some (a, b) => place a 8 4 + place b 12 4 + placeBit true 30
            | none => 0,
           placeBit r.chip 29, place r.marks.toNat 16 12 ]

/-- Body words 1-63 of a record mirror. -/
def recordBody (r : Record) : List Word :=
  [ wordOf [place r.lug.toNat 0 16, place r.state.code 16 3],
    wordOf [placeBit r.committed 0, placeBit r.forced 1, placeBit r.fallback 2, placeBit r.untrimmed 3, placeBit r.long 4,
      placeBit r.short 5, placeBit r.rescanFailed 6, place r.contributed.toNat 8 6, place r.silent.toNat 16 6],
    wordOf [place r.length 0 13, place r.present 16 4],
    partsWord r ]
  ++ decisionWords r.decision
  ++ [ wordOf [place r.held.length 0 4], heldWord r.held 0, heldWord r.held 1, heldWord r.held 2 ]
  ++ ((List.range Config.segments).flatMap fun i => segmentWords (r.segments.getD i Segment.created))
  ++ List.replicate 17 0

/-! ### Answer words (R204) -/

/-- Status codes of the trim answer. -/
inductive TrimStatus where
  | empty | piece | reject | fallback | test
  deriving DecidableEq, Repr

def TrimStatus.code : TrimStatus → Nat
  | .empty => 0
  | .piece => 1
  | .reject => 2
  | .fallback => 3
  | .test => 4

def Verdict.trimStatus : Verdict → TrimStatus
  | .piece => .piece
  | .reject => .reject
  | .fallback => .fallback

def trimWord (saws : Saws) (status : TrimStatus) (lug : Lug) : Word :=
  wordOf [place saws.toNat 0 13, place status.code 13 3, place lug.toNat 16 16]

/-- Status codes of the sort answer. -/
inductive SortStatus where
  | empty | sorted | reject | reman | untrimmed
  deriving DecidableEq, Repr

def SortStatus.code : SortStatus → Nat
  | .empty => 0
  | .sorted => 1
  | .reject => 2
  | .reman => 3
  | .untrimmed => 4

def sortWord (bin : Nat) (status : SortStatus) (lug : Lug) : Word :=
  wordOf [place bin 0 4, place status.code 13 3, place lug.toNat 16 16]

/-- The trim answer of a record with a decision (R136). -/
def decisionAnswer (d : Decision) (lug : Lug) : Word := trimWord d.saws d.verdict.trimStatus lug

/-- R134: the lug a FREE record slot `k` would hold at a position from 0 to 31. -/
def freeSlotLug (c : Lug) (k : Nat) : Lug := c - ((c - BitVec.ofNat 16 k) &&& 31#16)

/-! ### Tally header (R205) and event ring (R206) -/

def tallyHeaderWord (t : Tally) : Word :=
  wordOf [place t.bank.toNat 0 8, placeBit t.swap.isSome 8, placeBit t.saturated0 9, placeBit t.saturated1 10]

/-- Byte offset of a bank within the TALLY window (Chapter 8). -/
def bankOffset (bank : Bool) : Nat := 256 + 1024 * bank.toNat

def producerWord (index : Nat) (overflow : Bool) : Word := wordOf [place index 0 16, placeBit overflow 31]

def eventWords (e : Event) : List Word :=
  [wordOf [place e.code 0 8, place e.cls.code 8 3], wordOf [place e.lug.toNat 0 16], e.a, e.b]

end Sys2Proof.Machine
end

