-- ==== Sys2Proof/Machine/Ops.lean ====
section
/-! DEFINITION. The named operations every block is built from: registers of the record table, the two streams and the answers of
the bus path, the event writer, the line guard's notes, and the memory port. -/

namespace Sys2Proof.Machine

/-! ### Record table -/

def State.setRecord (s : State) (k : Nat) (r : Record) : State :=
  { s with tracker := { s.tracker with records := s.tracker.records.set k r } }

/-! ### Bus path -/

/-- A burst joins the internal stream (R181). -/
def issue (b : Burst) (s : State) : State := { s with bus := { s.bus with internal := s.bus.internal ++ [b] } }

def issueAll (bs : List Burst) (s : State) : State := { s with bus := { s.bus with internal := s.bus.internal ++ bs } }

/-- A write of full words by the part. -/
def writeBurst (addr : Word) (words : List Word) (purpose : Purpose) : Burst :=
  { addr := addr, access := .write (words.map Beat.full), purpose := purpose }

def readBurst (addr : Word) (n : Nat) (purpose : Purpose) : Burst :=
  { addr := addr, access := .read n, purpose := purpose }

/-- The master receives its answer (R182). -/
def answer (txn : Nat) (master : Master) (reply : Reply) (s : State) : State :=
  { s with bus := { s.bus with answers := s.bus.answers ++ [{ txn := txn, master := master, reply := reply }] } }

/-- A transaction joins the through stream (R181, R182). -/
def pass (txn : Nat) (t : Transaction) (format : Bool) (s : State) : State :=
  { s with bus := { s.bus with through := s.bus.through ++
      [{ addr := Transaction.addr t, access := Transaction.access t,
         purpose := .chassis txn (Transaction.master t) format }] } }

/-- A refused transaction is not forwarded; the master receives an error response (R180). -/
def refuse (txn : Nat) (t : Transaction) (s : State) : State := answer txn (Transaction.master t) .error s

/-- The port grants when it is free and a burst waits: the only waiting stream, else the one not granted last; when both wait
and none was granted yet, the through stream (R181). -/
def grant (s : State) : State :=
  match s.bus.port with
  | some _ => s
  | none =>
    match s.bus.through, s.bus.internal with
    | [], [] => s
    | b :: rest, [] => { s with bus := { s.bus with port := some b, through := rest, lastGrant := some .through } }
    | [], b :: rest => { s with bus := { s.bus with port := some b, internal := rest, lastGrant := some .internal } }
    | b :: rest, c :: cs =>
      if s.bus.lastGrant = some .through then { s with bus := { s.bus with port := some c, internal := cs, lastGrant := some .internal } }
      else { s with bus := { s.bus with port := some b, through := rest, lastGrant := some .through } }

/-- Outstanding bursts of a purpose concern nobody any more (log 17): their completion does nothing but the access itself. -/
def Burst.orphan (p : Purpose → Bool) (b : Burst) : Burst := if p b.purpose then { b with purpose := .plain } else b

def orphanBursts (p : Purpose → Bool) (s : State) : State :=
  { s with bus := { s.bus with internal := s.bus.internal.map (Burst.orphan p), port := s.bus.port.map (Burst.orphan p) } }

/-! ### Windows in force -/

def State.window (s : State) (k : WindowKind) : Option WindowEntry := windowOf s.shadow.entries k

/-! ### Event writer (R192) -/

/-- An event handed to the event writer: written at the producer index and followed by the producer word, or dropped on a
full ring or without header state with the overflow flag set. Its class's pending flag is set in every case. -/
def emit (e : Event) (s : State) : State :=
  let classes := s.events.classes ||| BitVec.twoPow 8 e.cls.code
  match s.events.ring, s.window .event with
  | some r, some w =>
    let next := (r.producer + 1) % ringCapacity w
    if next ≠ r.consumer then
      issueAll [writeBurst (windowAddr w (16 + 16 * r.producer)) (eventWords e) .plain,
                writeBurst (windowAddr w 0) [producerWord next s.events.overflow] .plain]
        { s with events := { s.events with ring := some { r with producer := next }, classes := classes } }
    else if s.events.overflow then { s with events := { s.events with classes := classes } }
    else issue (writeBurst (windowAddr w 0) [producerWord r.producer true] .plain)
           { s with events := { s.events with overflow := true, classes := classes } }
  | _, _ => { s with events := { s.events with overflow := true, classes := classes } }

/-- An event of a class and code (R206) with its lug and details. -/
def event (cls : EventClass) (code : Nat) (lug : Lug) (a b : Word) : Event :=
  { cls := cls, code := code, lug := lug, a := a, b := b }

/-- An event whose lug field holds the current lug number. -/
def emitNow (cls : EventClass) (code : Nat) (a b : Word) (s : State) : State :=
  emit (event cls code s.tracker.lug a b) s

/-! ### Line guard -/

/-- A report of an incident condition carries the current lug number (R165). -/
def report (g : GuardName) (s : State) : State :=
  { s with lineGuard := { s.lineGuard with
      flags := s.lineGuard.flags.set g.index ((s.flag g.index).report s.tracker.lug) } }

end Sys2Proof.Machine
end

