-- ==== Sys2Proof/Machine/Records.lean ====
section
/-! DEFINITION. The work that rules of several chapters share on one record: decision queue and runs (Chapter 5), intake queue, frame
slots and close marks (Chapter 2), the close list (Chapter 3), decisions written into a record with the held reads they answer
(R139, R142), and the freeing of a record slot (R13). -/

namespace Sys2Proof.Machine

/-! ### Decision queue and runs -/

/-- R87: an entry goes after every entry of greater position and before every entry of smaller position. -/
def insertByAge (c : Lug) (e : QueueEntry) : List QueueEntry → List QueueEntry
  | [] => [e]
  | x :: rest => if position c x.lug < position c e.lug then e :: x :: rest else x :: insertByAge c e rest

def leaveDecisionQueue (k : Nat) (s : State) : State :=
  { s with optimizer := { s.optimizer with queue := s.optimizer.queue.filter fun e => e.slot != k } }

/-- R91: a run of record slot `k` ends without a result. -/
def abandonRun (k : Nat) (s : State) : State :=
  match s.optimizer.run with
  | some r => if r.slot = k then { s with optimizer := { s.optimizer with run := none } } else s
  | none => s

/-- R87: record `k` enters QUEUED with its decision absent and joins the decision queue by age. -/
def joinQueue (k : Nat) (s : State) : State :=
  let r := s.record k
  let s := s.setRecord k { r with state := .queued, decision := none }
  { s with optimizer := { s.optimizer with
      queue := insertByAge s.tracker.lug { slot := k, lug := r.lug } s.optimizer.queue } }

/-- R92: a record that is OPTIMIZING or DECIDED is sent back to QUEUED; a QUEUED one keeps its place. -/
def requeue (k : Nat) (s : State) : State :=
  match (s.record k).state with
  | .optimizing => joinQueue k (abandonRun k s)
  | .decided => joinQueue k s
  | _ => s

/-- R89: the IDLE optimizer takes the head of the queue while the part is RUNNING, and reads what R63 names. -/
def startOptimizer (s : State) : State :=
  match s.shadow.part, s.optimizer.run, s.optimizer.queue with
  | .running, none, e :: rest =>
    let r := s.record e.slot
    let s := s.setRecord e.slot { r with state := .optimizing }
    { s with optimizer := { queue := rest, run := some { slot := e.slot, lug := e.lug, record := r, tables := s.shadow.words } } }
  | _, _, _ => s

/-! ### Frame slots -/

def setFrameSlot (h i : Nat) (st : SlotState) (s : State) : State :=
  match s.intake.tables.getD h none with
  | some slots => { s with intake := { s.intake with tables := s.intake.tables.set h (some (slots.set i st)) } }
  | none => s

def frameSlot (s : State) (h i : Nat) : Option SlotState :=
  (s.intake.tables.getD h none).bind fun slots => slots[i]?

/-! ### Close marks and notices (R37, R55) -/

def IntakeEntry.key (e : IntakeEntry) : Nat × Nat := (e.head, e.slot)

/-- R37: where a mark on `mark` goes when the entries with the property `gone` leave the queue: it stays if its entry stays, else it
passes to the nearest entry ahead of it that remains, if any. -/
def passMark (queue : List IntakeEntry) (gone : IntakeEntry → Bool) (mark : Nat × Nat) : Option (Nat × Nat) :=
  let ahead := queue.takeWhile fun e => e.key != mark
  let own := (queue.dropWhile fun e => e.key != mark).take 1
  (((ahead ++ own).filter fun e => !gone e).getLast?).map IntakeEntry.key

/-- R55: notices of one change are taken in order of position, greatest first. -/
def insertByPosition (c : Lug) (x : Close) : List Close → List Close
  | [] => [x]
  | y :: rest => if position c y.lug < position c x.lug then x :: y :: rest else y :: insertByPosition c x rest

def sortByPosition (c : Lug) (xs : List Close) : List Close := xs.foldr (insertByPosition c) []

/-- The mark of a close after the entries `gone` have left. -/
def Close.passed (queue : List IntakeEntry) (gone : IntakeEntry → Bool) (x : Close) : Close :=
  { x with mark := x.mark.bind (passMark queue gone) }

/-- Entries leave the intake queue. Each mark is passed on; a close whose mark has no entry left is told that its frames are
taken in, and moves to FINALISING (R37, R55). -/
def leaveIntakeQueue (gone : IntakeEntry → Bool) (s : State) : State :=
  let moved := s.measure.awaiting.map (Close.passed s.intake.queue gone)
  { s with
    intake := { s.intake with queue := s.intake.queue.filter fun e => !gone e }
    measure := { awaiting := moved.filter fun x => x.mark.isSome
                 finalising := s.measure.finalising ++ sortByPosition s.tracker.lug (moved.filter fun x => x.mark.isNone) } }

/-- The engine's current entry has left the queue: its reads run on, and its completion is dropped (R38, R41, R42). -/
def dropEngine (gone : IntakeRun → Bool) (s : State) : State :=
  match s.intake.engine with
  | some e => if gone e then { s with intake := { s.intake with engine := some { e with dropped := true } } } else s
  | none => s

/-- R38: the slots of a held-slot list are released in one change; read-back entries for them leave the queue unread, and their
notices are taken together (R55). -/
def releaseHeldSlots (ps : List (Nat × Nat)) (s : State) : State :=
  if ps.isEmpty then s else
  let s := ps.foldl (fun s p => setFrameSlot p.1 p.2 .free s) s
  let s := leaveIntakeQueue (fun e => ps.contains e.key && e.kind != .fresh) s
  dropEngine (fun e => ps.contains (e.head, e.slot) && e.kind != .fresh) s

/-! ### The close list (R54, R60) -/

/-- A close begins for record slot `k` with its mark; an empty mark is a notice at once (R37, R54). -/
def beginClose (k : Nat) (lug : Lug) (rescan : Bool) (mark : Option (Nat × Nat)) (s : State) : State :=
  let x : Close := { slot := k, lug := lug, rescan := rescan, mark := mark }
  match mark with
  | some _ => { s with measure := { s.measure with awaiting := s.measure.awaiting ++ [x] } }
  | none => { s with measure := { s.measure with finalising := s.measure.finalising ++ [x] } }

/-- R60: the close of record slot `k`, if any, leaves the close list without completing. -/
def endClose (k : Nat) (s : State) : State :=
  { s with measure := { awaiting := s.measure.awaiting.filter fun x => x.slot != k
                        finalising := s.measure.finalising.filter fun x => x.slot != k } }

/-- What was in flight for the record of slot `k` ends: its place in the decision queue, its run, its close (R12, R88, R91, R60). -/
def endWork (k : Nat) (s : State) : State := endClose k (abandonRun k (leaveDecisionQueue k s))

/-! ### Held trim reads and decisions -/

/-- Every held read of slot `k` is answered with `word`, in order of arrival, and leaves the list (R139, R140, R142). -/
def answerHeld (k : Nat) (word : Word) (s : State) : State :=
  { s with
    dispatch := { s.dispatch with held := s.dispatch.held.filter fun h => h.slot != k }
    bus := { s.bus with answers := s.bus.answers ++
      (s.dispatch.held.filter fun h => h.slot == k).map fun h => { txn := h.txn, master := h.master, reply := .data [word] } } }

def hasHeld (s : State) (k : Nat) : Bool := s.dispatch.held.any fun h => h.slot == k

/-- A decision is written into record `k` (R75, R84). Held reads of the slot take it as their answer in the same change, and
the record then stands DISPATCHED and committed (R139). -/
def writeDecision (k : Nat) (d : Decision) (segs : List Segment) (forced : Bool) (s : State) : State :=
  let r := (s.record k).decide d segs forced
  if hasHeld s k then
    answerHeld k (decisionAnswer d r.lug) (s.setRecord k { r with state := .dispatched, committed := true })
  else s.setRecord k r

/-- R78: event TRIM_RANGE with the record's lug, the forced trim's a and b, and P. -/
def emitTrimRange (r : Record) (s : State) : State := match r.forcedTrim with
  | some (a, b) => emit (event .decision 4 r.lug (pair a b) (single r.present)) s
  | none => s

/-- R75-R78: the forced decision of record `k`, formed from the record as it stands and the tables in force. `own`: it is made within
the judgement of its own TRIM, whose result word is still to be written, so that no TRIM_RANGE is written. -/
def forceDecision (k : Nat) (own : Bool) (s : State) : State :=
  let r := s.record k
  let ws := s.shadow.words
  let s := writeDecision k (forcedDecision ws r) (gradedSegments ws r) true s
  if trimBeyond r && !own then emitTrimRange r s else s

/-- R142, R83: at a retire, held reads of the slot are answered with the fallback, with event FALLBACK and its condition. -/
def fallbackAtRetire (k : Nat) (s : State) : State :=
  if hasHeld s k then
    let r := s.record k
    let s := answerHeld k (trimWord (fallbackSaws s.shadow.words) .fallback r.lug) s
    report .fallback (emit (event .dispatch 2 r.lug (single r.state.code) (single (fallbackPass s.shadow.words).toNat)) s)
  else s

/-! ### Freeing (R13) -/

/-- A record slot is freed: its work ends, its held slots are released, every field returns to its creation value with lug 0, and
its forced-trim entry is cleared (R13, R38, R115). -/
def freeRecord (k : Nat) (s : State) : State :=
  let r := s.record k
  let s := endWork k s
  let s := releaseHeldSlots r.held s
  let s := s.setRecord k Record.blank
  { s with overrides := { s.overrides with trimEntries := s.overrides.trimEntries.set k none } }

end Sys2Proof.Machine
end

