-- ==== Sys2Proof/Machine/TallyUnit.lean ====
section
/-! DEFINITION. The tally unit (Chapter 8): the tally queue, the saturating update, header writes, the bank swap and its zeroing. -/

namespace Sys2Proof.Machine

def Tally.saturated (t : Tally) (bank : Bool) : Bool := if bank then t.saturated1 else t.saturated0

def Tally.setSaturated (t : Tally) (bank v : Bool) : Tally :=
  if bank then { t with saturated1 := v } else { t with saturated0 := v }

/-- R154: the header is written, with the values as they stand, when a TALLY window is in force. -/
def writeTallyHeader (s : State) : State := match s.window .tally with
  | some w => issue (writeBurst (windowAddr w 0) [tallyHeaderWord s.tally] .plain) s
  | none => s

/-! ### Handing an update in (R155) -/

/-- An update joins the tail of the tally queue. -/
def joinTally (u : TallyUpdate) (s : State) : State := { s with tally := { s.tally with queue := s.tally.queue ++ [u] } }

/-- R155: a retire at position 31 hands its update in while the queue holds fewer than 64 entries; else TALLY_LOST. -/
def handUnsorted (lug : Lug) (s : State) : State :=
  if s.tally.queue.length < Config.tallyQueueLimit then
    joinTally { bank := s.tally.bank, key := .unsorted, forced := false, lug := lug } s
  else emit (event .tally 3 lug (single s.tally.bank.toNat) 0) s

/-! ### The update (R157, R158) -/

/-- The words an update changes and by how much, access by access: the first word's index within the bank and the amounts of the
access's one or two words (R157, R158, R205). A REJECT changes only the pieces of entry (7, 0); that it reads and writes back the length
word beside it, with amount 0, in the burst of 2 that R158 gives a grade-table entry, is the model's choice (log 40). -/
def updateAccesses (u : TallyUpdate) : List (Nat × List Nat) :=
  [(208, [1])] ++
  (match u.key with
    | .piece g n => [(2 * (13 * g + n), [1, n * Config.segmentMm])]
    | .reject => [(2 * (13 * 7 + 0), [1, 0])]
    | .fallback => [(209, [1])]
    | .untrimmed => [(210, [1])]
    | .unsorted => [(211, [1])]) ++
  (if u.forced then [(212, [1])] else [])

/-- The byte address of word `i` of a bank in the window at `base`. -/
def bankWordAddr (base : Nat) (bank : Bool) (i : Nat) : Word := BitVec.ofNat 32 (base + bankOffset bank + 4 * i)

def updateReads (base : Nat) (u : TallyUpdate) : List Burst :=
  let accs := updateAccesses u
  (List.range accs.length).map fun j =>
    let acc := accs.getD j (0, [])
    readBurst (bankWordAddr base u.bank acc.1) acc.2.length (.tallyRead (j + 1 == accs.length))

/-- R158, R159: a value read plus its amount, saturating. -/
def saturatingSum (v amount : Nat) : Nat := min (v + amount) Config.counterMax

/-- The word indices and amounts of an update, word by word. -/
def updateWords (u : TallyUpdate) : List (Nat × Nat) :=
  (updateAccesses u).flatMap fun acc => (List.range acc.2.length).map fun j => (acc.1 + j, acc.2.getD j 0)

/-- The first word whose sum would pass the largest counter value (R159). When several words of one update do, the spec does not say which
one SATURATED names: the first in read order is the model's choice (log 41). -/
def firstSaturated (u : TallyUpdate) (values : List Word) : Option Nat :=
  ((updateWords u).zip values).findSome? fun p => if Config.counterMax < p.2.toNat + p.1.2 then some p.1.1 else none

/-- The new values of an update's words, given the values read in the same order. -/
def updateSums (u : TallyUpdate) (values : List Word) : List Word :=
  ((updateWords u).zip values).map fun p => BitVec.ofNat 32 (saturatingSum p.2.toNat p.1.2)

/-- The writes of an update, in the order of its reads (R158), given its new values word by word. -/
def updateWrites (base : Nat) (u : TallyUpdate) (sums : List Word) : List Burst :=
  let accs := updateAccesses u
  (List.range accs.length).map fun j =>
    let acc := accs.getD j (0, [])
    let before := ((accs.take j).map fun a => a.2.length).sum
    writeBurst (bankWordAddr base u.bank acc.1) ((sums.drop before).take acc.2.length) (.tallyWrite (j + 1 == accs.length))

/-- R156: does the update engine run in this state of the part: RUNNING, or working off the queue at a line reset (R164)? -/
def tallyWorks (s : State) : Bool := s.shadow.part == .running || s.shadow.phase == .draining

/-- R156, R162: an update for the new bank waits until the swap ends. -/
def heldBySwap (t : Tally) (u : TallyUpdate) : Bool := t.swap.isSome && u.bank == t.bank

/-- R156: the idle engine takes the oldest update, if a TALLY window is in force and no swap holds the update back. -/
def startTally (s : State) : State :=
  match s.tally.engine, s.tally.queue, s.window .tally with
  | none, u :: _, some w =>
    if tallyWorks s && !heldBySwap s.tally u then
      issueAll (updateReads w.start u) { s with tally := { s.tally with engine := some { base := w.start, values := [] } } }
    else s
  | _, _, _ => s

/-! ### The swap (R161-R163) -/

def zeroBurst (base : Nat) (bank : Bool) (i : Nat) : Burst :=
  writeBurst (bankWordAddr base bank (16 * i)) (List.replicate 16 0) (.zeroing i)

/-- The zeroing of the new active bank begins from its first burst, if a TALLY window is in force; else it waits for one. -/
def beginZeroing (s : State) : State :=
  match s.tally.swap with
  | some w =>
    if w.zeroing = .ended then s
    else match s.window .tally with
      | some e => issue (zeroBurst e.start s.tally.bank 0)
                    { s with tally := { s.tally with swap := some { w with zeroing := .running e.start } } }
      | none => { s with tally := { s.tally with swap := some { w with zeroing := .waiting } } }
  | none => s

/-- R161: a swap begins: selector, swap state, the new active bank's saturated flag, the header, and the zeroing. -/
def beginSwap (s : State) : State :=
  let t := s.tally
  let s := { s with tally := { t.setSaturated (!t.bank) false with bank := !t.bank, swap := some { zeroing := .waiting, done := 0 } } }
  beginZeroing (writeTallyHeader s)

/-- R162: the swap ends when its zeroing has ended and no update for the old bank remains in the queue. -/
def endSwapIfDone (s : State) : State :=
  match s.tally.swap with
  | some w =>
    if w.zeroing = .ended ∧ (s.tally.queue.all fun u => u.bank == s.tally.bank) then
      let s := writeTallyHeader { s with tally := { s.tally with swap := none } }
      emitNow .tally 2 (single s.tally.bank.toNat) (single w.done) s
    else s
  | none => s

/-- R163: a TALLY window takes force, moves or goes: outstanding zeroing bursts complete where they were issued; the header is
written into the new window, and a zeroing in progress begins again there. -/
def tallyWindowChanged (s : State) : State :=
  beginZeroing (writeTallyHeader (orphanBursts (fun p => match p with | .zeroing _ => true | _ => false) s))

/-- R164: the queue is worked off and any swap has ended. -/
def tallyDrained (s : State) : Bool := s.tally.queue.isEmpty && s.tally.swap.isNone && s.tally.engine.isNone

end Sys2Proof.Machine
end

