-- ==== Sys2Proof/Machine/Publish.lean ====
section
/-! DEFINITION. Publication into the RECORD window (R15-R20) and the close of every step: idle engines start, changed areas are
published, the free port grants, the output lines follow. -/

namespace Sys2Proof.Machine

def State.area (s : State) (k : Nat) : Area := s.tracker.areas.getD k { count := 0, pub := .idle }

def State.setArea (s : State) (k : Nat) (a : Area) : State :=
  { s with tracker := { s.tracker with areas := s.tracker.areas.set k a } }

/-- The body of area `k` as it stands: record slot `k`'s mirror, or the line status block (R203). -/
def areaBody (s : State) (k : Nat) : List Word :=
  if k = Config.statusArea then statusBody s else recordBody (s.record k)

/-- Byte offset of area `k` in the RECORD window: the status block at 0, the mirror of record slot k at 256 x (k + 1). -/
def areaOffset (k : Nat) : Nat := if k = Config.statusArea then 0 else 256 * (k + 1)

/-- The six accesses of a mirror write of area `k` (R16): the count raised by 1, the body in bursts of 16, 16, 16 and 15 words, the
count raised by 1 again. -/
def mirrorBursts (w : WindowEntry) (k : Nat) (count : Word) (body : List Word) : List Burst :=
  let at_ off := windowAddr w (areaOffset k + off)
  [ writeBurst (at_ 0) [count + 1] (.mirror k false),
    writeBurst (at_ 4) (body.take 16) (.mirror k false),
    writeBurst (at_ 68) ((body.drop 16).take 16) (.mirror k false),
    writeBurst (at_ 132) ((body.drop 32).take 16) (.mirror k false),
    writeBurst (at_ 196) ((body.drop 48).take 15) (.mirror k false),
    writeBurst (at_ 0) [count + 2] (.mirror k true) ]

/-- A write of area `k` begins with the area as it stands; without a RECORD window in force no write begins (R16, R20). -/
def beginMirror (k : Nat) (s : State) : State :=
  match s.window .record with
  | some w =>
    issueAll (mirrorBursts w k (s.area k).count (areaBody s k))
      (s.setArea k { count := (s.area k).count + 2, pub := .writing })
  | none => s

/-- R17: a change to area `k` is taken. -/
def publishArea (k : Nat) (s : State) : State :=
  match (s.area k).pub with
  | .idle => beginMirror k s
  | _ => s.setArea k { s.area k with pub := .writingDirty }

/-- R20: every area is written: the status block and every record slot. -/
def publishAll (s : State) : State :=
  (List.range Config.recordSlots).foldl (fun s k => publishArea k s) (publishArea Config.statusArea s)

/-- R16: the record slots whose record a change from `s0` to `s1` has changed in any field. -/
def changedSlots (s0 s1 : State) : List Nat :=
  (List.range Config.recordSlots).filter fun k => s0.record k != s1.record k

/-- R15: has the change altered any item of the line status block? -/
def statusChanged (s0 s1 : State) : Bool := statusBody s0 != statusBody s1

/-- Every area is written: a setup write has made a RECORD window take force or move (R20), or the part has entered RUNNING for the
first time since power-on (R19). -/
def publishesAll (s0 s1 : State) : Bool :=
  (s0.shadow.part == .running && windowKey s0.shadow.entries .record != windowKey s1.shadow.entries .record) ||
    (!s0.tracker.everRan && s1.tracker.everRan)

/-- R15, R16: while RUNNING, each record slot and the status block that the change from `s0` to `s1` has altered is published,
once, as the whole change left it (log 19). -/
def publish (s0 s1 : State) : State :=
  if s1.shadow.part = .running then
    if publishesAll s0 s1 then publishAll s1
    else
      let s := (changedSlots s0 s1).foldl (fun s k => publishArea k s) s1
      if statusChanged s0 s1 then publishArea Config.statusArea s else s
  else s1

/-- R89: the idle optimizer takes the head of the queue. The start is a change of its own, published behind the change that let it happen:
a record that joins the queue shows QUEUED first, and its start begins a write or is noted (R16, R17, R87). -/
def startRun (s : State) : State := publish s (startOptimizer s)

/-- What ends every change from `s0` to `s1`: the idle update engine starts (R156), what the change altered is published, and the
idle optimizer starts (R89). -/
def settle (s0 s1 : State) : State := startRun (publish s0 (startTally s1))

/-- What ends every step: a free port grants (R181) and the output lines follow. -/
def finish (s : State) : State := drivePins (grant s)

end Sys2Proof.Machine
end

