-- ==== Sys2Proof/Machine/DispatchUnit.lean ====
section
/-! DEFINITION. The dispatch unit (Chapter 7): trim answers, held reads, hold expiry, bins, sort answers and retire. -/

namespace Sys2Proof.Machine

/-! ### Trim reads -/

/-- R135: the answer for a FREE record slot: EMPTY, or TEST with the saw-test mask while it is not 0. -/
def freeTrimWord (s : State) (k : Nat) : Word :=
  if s.overrides.sawMask = 0 then trimWord 0 .empty (freeSlotLug s.tracker.lug k)
  else trimWord s.overrides.sawMask .test (freeSlotLug s.tracker.lug k)

/-- R137: a read that finds its record undecided is held, or refused with HOLD_FULL. -/
def holdRead (txn : Nat) (m : Master) (k : Nat) (s : State) : State :=
  let r := s.record k
  if s.dispatch.held.length < Config.maxHeldReads then
    { s with dispatch := { s.dispatch with held := s.dispatch.held ++
        [{ txn := txn, master := m, slot := k, lug := r.lug, hold := holdLimit s.shadow.words }] } }
  else emitNow .dispatch 1 (pair k r.state.code) (single m.toNat) (answer txn m .error s)

/-- A trim read of record slot `k` while RUNNING (R135-R137). -/
def trimReadSlot (txn : Nat) (m : Master) (k : Nat) (s : State) : State :=
  let r := s.record k
  match r.state, r.decision with
  | .free, _ => answer txn m (.data [freeTrimWord s k]) s
  | .decided, some d =>
    answer txn m (.data [decisionAnswer d r.lug]) (s.setRecord k { r with state := .dispatched, committed := true })
  | .dispatched, some d => answer txn m (.data [decisionAnswer d r.lug]) s
  | _, _ => holdRead txn m k s

/-! ### Hold expiry (R140) -/

/-- R140: the states in which a hold expiry takes a record. -/
def RecordState.undecided : RecordState → Bool
  | .scanning | .closing | .queued | .optimizing => true
  | _ => false

/-- R140: the record takes the fallback. -/
def Record.fallBack (r : Record) (d : Decision) : Record :=
  { r with decision := some d, fallback := true, committed := true, state := .dispatched }

/-- The expired read is answered first, then the other held reads of its slot, in order of arrival (R140). -/
def answerExpired (h : HeldRead) (word : Word) (s : State) : State :=
  let s := answer h.txn h.master (.data [word]) s
  let s := { s with dispatch := { s.dispatch with held := s.dispatch.held.filter fun x => x.txn != h.txn } }
  answerHeld h.slot word s

/-- R96: event LATE for a record lost to the queue or to its run. -/
def emitLate (r : Record) (blog : Nat) (s : State) : State :=
  if r.inBacklog then emit (event .decision 3 r.lug (single r.state.code) (single blog)) s else s

/-- The expiry of the hold timer of held read `h` (R140). -/
def expireHold (h : HeldRead) (s : State) : State :=
  let r := s.record h.slot
  if r.state.undecided && r.lug == h.lug then
    let d := fallbackDecision s.shadow.words
    let blog := backlog s
    let s := endWork h.slot s
    let s := s.setRecord h.slot (r.fallBack d)
    let s := answerExpired h (decisionAnswer d r.lug) s
    let s := emitLate r blog s
    let s := emit (event .dispatch 2 r.lug (single r.state.code) (single (fallbackPass s.shadow.words).toNat)) s
    report .fallback s
  else s

/-! ### Bins (R145-R147) -/

/-- R145: bin `b` matches a piece of grade `g` and length `n`. -/
def binMatches (ws : List Word) (b g n : Nat) : Bool :=
  0 < binCapacity ws b && (binGrades ws b).testBit g && binMinimum ws b ≤ n && n ≤ binMaximum ws b

/-- The reject bin and the reman bin are exempt from capacity. -/
def binExempt (ws : List Word) (b : Nat) : Bool := b == rejectBin ws || b == remanBin ws

def binCount (s : State) (b : Nat) : Nat := s.dispatch.counts.getD b 0

/-- R145: a non-exempt bin is full when its count is at or above its capacity. -/
def binFull (s : State) (b : Nat) : Bool :=
  !binExempt s.shadow.words b && binCapacity s.shadow.words b ≤ binCount s b

/-- R146: the first bin that matches and is not full. -/
def chooseBin (s : State) (g n : Nat) : Option Nat :=
  (List.range 16).find? fun b => binMatches s.shadow.words b g n && !binFull s b

/-- R146: the bins that matched and were full. -/
def fullMatching (s : State) (g n : Nat) : BitVec 16 :=
  maskOf 16 fun b => binMatches s.shadow.words b g n && binFull s b

/-- R147: the bin's count rises by 1, staying at 65,535. -/
def raiseBin (b : Nat) (s : State) : State :=
  { s with dispatch := { s.dispatch with counts := s.dispatch.counts.set b (min (binCount s b + 1) 65535) } }

/-- R147: event BIN_FULL when this answer has brought a non-exempt bin to its capacity. -/
def emitBinFull (b : Nat) (lug : Lug) (s : State) : State :=
  if binFull s b then emit (event .dispatch 4 lug (single b) (single (binCapacity s.shadow.words b))) s else s

/-! ### Retire and the sort answer (R144, R149, R150) -/

/-- R149: the key of a retire at a sort answer, and whether it counts forced. -/
def retireKey (r : Record) : TallyKey × Bool :=
  if r.untrimmed then (.untrimmed, false)
  else if r.fallback then (.fallback, false)
  else match r.decision with
    | some d => match d.verdict with
      | .piece => (.piece d.grade (d.b - d.a), r.forced)
      | .reject => (.reject, r.forced)
      | .fallback => (.fallback, false)
    | none => (.untrimmed, false)

/-- The bin and status of a sort answer (the table of Chapter 7, The Sort Answer), and whether no bin had room. -/
def sortChoice (s : State) (r : Record) : Nat × SortStatus × Bool :=
  let ws := s.shadow.words
  if r.state ≠ .dispatched then (rejectBin ws, .untrimmed, false)
  else match r.decision with
    | some d => match d.verdict with
      | .piece => match chooseBin s d.grade (d.b - d.a) with
        | some b => (b, .sorted, false)
        | none => (rejectBin ws, .reject, true)
      | .reject => (rejectBin ws, .reject, false)
      | .fallback => (remanBin ws, .reman, false)
    | none => (rejectBin ws, .reject, false)

/-- R146: event NO_BIN. -/
def emitNoBin (r : Record) (s : State) : State := match r.decision with
  | some d =>
    emit (event .dispatch 3 r.lug (pair d.grade (d.b - d.a)) (single (fullMatching s d.grade (d.b - d.a)).toNat)) s
  | none => s

/-- R150: event UNTRIMMED; detail B is the outcome of a DECIDED record, and of any other the code of an absent one (log 26). -/
def emitUntrimmed (r : Record) (s : State) : State :=
  emit (event .dispatch 5 r.lug (single r.state.code) (single (outcomeCode r.decision))) s

/-- The sort answer of record slot `k`, judged now (R144, R146, R147, R149, R150). Trim reads still held for the record are answered by its
retire (R142), behind the sort answer: the spec gives both in one change, and this order is the model's choice (log 39). -/
def judgeSort (txn : Nat) (m : Master) (k : Nat) (s : State) : State :=
  let r := s.record k
  if r.state = .free then answer txn m (.data [sortWord 0 .empty (freeSlotLug s.tracker.lug k)]) s
  else
    let c := sortChoice s r
    let s := answer txn m (.data [sortWord c.1 c.2.1 r.lug]) s
    let s := if c.2.2 then emitNoBin r s else s
    let s := raiseBin c.1 s
    let s := if c.2.1 = .sorted then emitBinFull c.1 r.lug s else s
    let s := if r.state = .dispatched then s else emitUntrimmed r s
    let r' := { r with untrimmed := decide (r.state ≠ .dispatched) }
    let s := joinTally { bank := s.tally.bank, key := (retireKey r').1, forced := (retireKey r').2, lug := r.lug } s
    freeRecord k (fallbackAtRetire k s)

/-- R151: would the sort answer of slot `k` find room: it retires nothing, or the tally queue is below 32 entries? -/
def sortReady (s : State) (k : Nat) : Bool :=
  !(s.record k).live || s.tally.queue.length < Config.tallySortLimit

/-- A sort read of record slot `k` while RUNNING (R151). -/
def sortReadSlot (txn : Nat) (m : Master) (k : Nat) (s : State) : State :=
  if s.dispatch.waiting.isEmpty && sortReady s k then judgeSort txn m k s
  else if s.dispatch.waiting.length < Config.maxSortWaiting then
    { s with dispatch := { s.dispatch with waiting := s.dispatch.waiting ++ [{ txn := txn, master := m, slot := k }] } }
  else emitNow .dispatch 6 (single k) (single m.toNat) (answer txn m .error s)

/-- R151: the reads at the head of the waiting list are judged in turn while the tally queue stays below 32 entries or the next
answer would be EMPTY; `fuel` bounds the turns by the list's length. -/
def judgeWaiting : Nat → State → State
  | 0, s => s
  | fuel + 1, s =>
    match s.dispatch.waiting with
    | [] => s
    | w :: rest =>
      if sortReady s w.slot then
        judgeWaiting fuel (judgeSort w.txn w.master w.slot { s with dispatch := { s.dispatch with waiting := rest } })
      else s

end Sys2Proof.Machine
end

