-- ==== Sys2Proof/Machine/LugEvent.lean ====
section
/-! DEFINITION. The lug event (R4): the lug tracker's work, the pending-override list (R120, R121), the pacing logic (R100) and the
line guard's evaluation (R167, R168); and the input filters that bring it (R2, R3). -/

namespace Sys2Proof.Machine

/-! ### Result words (R111) -/

/-- The write of a result word into word 3 of an entry. -/
def resultBurst (addr : Word) (tag : BitVec 15) (code : ResultCode) (purpose : Purpose) : Burst :=
  writeBurst (addr + 12#32) [resultWord code tag] purpose

/-! ### Override parts of a record -/

/-- R114-R116: the override parts of a record after a GRADE, TRIM, CHIP, MARK or CLEAR; other kinds change none. -/
def Record.applyPart (r : Record) (kind : OverrideKind) (arg : Word) : Record :=
  match kind with
  | .grade => { r with forcedGrade := some arg.toNat }
  | .trim => { r with forcedTrim := some (trimArg arg), chip := false }
  | .chip => { r with chip := true, forcedTrim := none }
  | .mark => { r with marks := r.marks ||| markArg arg }
  | .clear => { r with forcedGrade := none, forcedTrim := none, chip := false, marks := 0 }
  | .rescan | .binEmpty | .shift | .ack | .alarmTest | .sawTest | .lineReset => r

/-- R115, R116: the forced-trim entry of record slot `k` after an override applied to it. -/
def setTrimEntry (k : Nat) (kind : OverrideKind) (addr : Word) (tag : BitVec 15) (s : State) : State :=
  match kind with
  | .trim => { s with overrides := { s.overrides with trimEntries := s.overrides.trimEntries.set k (some { addr := addr, tag := tag }) } }
  | .chip | .clear => { s with overrides := { s.overrides with trimEntries := s.overrides.trimEntries.set k none } }
  | _ => s

/-- An override's part is taken into record `k`, and the forced-trim entry follows. -/
def applyPart (k : Nat) (kind : OverrideKind) (arg addr : Word) (tag : BitVec 15) (s : State) : State :=
  setTrimEntry k kind addr tag (s.setRecord k ((s.record k).applyPart kind arg))

/-! ### The lug tracker's work -/

/-- R12: the record that stands at position 31 is retired as unsorted. -/
def retireUnsorted (k : Nat) (s : State) : State :=
  let r := s.record k
  let s := handUnsorted r.lug s
  let s := emit (event .line 1 r.lug 0 0) s
  let s := report .unsorted s
  freeRecord k (fallbackAtRetire k s)

/-- R12: is record slot `k` brought to position 31? -/
def retiresAt (s : State) (k : Nat) : Bool :=
  (s.record k).live && position s.tracker.lug (s.record k).lug == Config.retirePosition

def retireStep (s : State) : State :=
  let k := slotOf (s.tracker.lug - 31#16)
  if retiresAt s k then retireUnsorted k s else s

/-- R10, R37: a SCANNING record brought to position 1 enters CLOSING and its close begins, marked with the newest entry of the intake
queue. -/
def closeStep (s : State) : State :=
  let k := slotOf (s.tracker.lug - 1#16)
  let r := s.record k
  if r.state = .scanning ∧ position s.tracker.lug r.lug = 1 then
    beginClose k r.lug false (s.intake.queue.getLast?.map IntakeEntry.key) (s.setRecord k { r with state := .closing })
  else s

/-- R11: every live uncommitted record whose position is C or more is committed. -/
def Record.commitAt (r : Record) (c : Lug) (commit : Nat) : Record :=
  if r.live ∧ commit ≤ position c r.lug then { r with committed := true } else r

def commitStep (s : State) : State :=
  { s with tracker := { s.tracker with
      records := s.tracker.records.map fun r => r.commitAt s.tracker.lug (commitPosition s.shadow.words) } }

/-- R8: a new record of lug `c`. -/
def Record.created (c : Lug) : Record := { Record.blank with lug := c, state := .scanning }

/-- R120: the pending entries of the new lug are applied to the new record in list order; RESCAN changes nothing. -/
def applyWaiting (k : Nat) (ps : List PendingOverride) (s : State) : State :=
  ps.foldl (fun s p => applyPart k p.kind p.arg p.addr p.tag s) s

def waitingFor (s : State) : List PendingOverride := s.overrides.waiting.filter fun p => p.lug == s.tracker.lug

/-- R8, R9, R120, R121: with filtered EYE asserted a record is created and the pending entries for its lug applied; else there is none,
and the entries leave the list. -/
def createStep (s : State) : State :=
  let ps := waitingFor s
  let s' := { s with overrides := { s.overrides with waiting := s.overrides.waiting.filter fun p => p.lug != s.tracker.lug } }
  if s.inputs.eye.filtered then
    let k := slotOf s.tracker.lug
    applyWaiting k ps (s'.setRecord k (Record.created s.tracker.lug))
  else s'

/-- R120, R121: the result words of the pending entries of the new lug: DONE when a record was created, else NO_BOARD. -/
def waitingResults (s : State) (ps : List PendingOverride) : List Burst :=
  ps.map fun p => resultBurst p.addr p.tag (if s.inputs.eye.filtered then .done else .noBoard) .plain

/-- The lug tracker's work at a lug event, with the override unit's (R8-R12, R120, R121). -/
def trackerStep (s : State) : State := createStep (commitStep (closeStep (retireStep s)))

/-! ### Pacing logic and line guard -/

def pacingStep (s : State) : State := { s with skip := nextSkip s.shadow.words (backlog s) s.skip }

/-- R168: event FLAG_LATCHED of flag `i`. Detail A is the flag's bit position 0-5 as a number: the spec gives the flags no other code, and
this is the model's choice (log 42). -/
def emitLatched (i : Nat) (s : State) : State :=
  emitNow .guard 1 (single i) (pair (persistence s.shadow.words i) (s.flag i).counter) s

/-- R167, R168: the six flags evaluated in one change for the lug that has ended, with their events in bit order. -/
def guardStep (ended : Lug) (s : State) : State :=
  let flags := (List.range 6).map fun i => (s.flag i).evaluate (guardPresent s i ended) ended (persistence s.shadow.words i)
  let latched := (List.range 6).filter fun i => ((s.flag i).count (guardPresent s i ended) ended).latches (persistence s.shadow.words i)
  latched.foldl (fun s i => emitLatched i s) { s with lineGuard := { s.lineGuard with flags := flags } }

/-! ### The lug event (R4) -/

/-- The lug number rises by 1 and each block takes the event: pacing logic and line guard before or after the lug tracker's changes,
as `o` says (R98, R100, R166; log 18). Result words go out behind the mirrors (R111). -/
def lugEvent (o : LugOrder) (s0 : State) : State :=
  let ended := s0.tracker.lug
  let s := { s0 with tracker := { s0.tracker with lug := s0.tracker.lug + 1 } }
  let results := waitingResults s (waitingFor s)
  let s := if o.pacingFirst then pacingStep s else s
  let s := if o.guardFirst then guardStep ended s else s
  let s := trackerStep s
  let s := if o.pacingFirst then s else pacingStep s
  let s := if o.guardFirst then s else guardStep ended s
  issueAll results (settle s0 s)

/-! ### Input filters (R2, R3) -/

def Inputs.get (i : Inputs) : Input → Filter
  | .lug => i.lug
  | .eye => i.eye
  | .almin => i.almin

def Inputs.set (i : Inputs) (p : Input) (f : Filter) : Inputs := match p with
  | .lug => { i with lug := f }
  | .eye => { i with eye := f }
  | .almin => { i with almin := f }

def State.setFilter (s : State) (p : Input) (f : Filter) : State := { s with inputs := s.inputs.set p f }

/-- R2: the filter at a change of the raw level. -/
def Filter.rawChange (f : Filter) (level : Bool) : Filter :=
  if level = f.raw then f
  else if level = f.filtered then { f with raw := level, timer := none }
  else if f.time = 0 then { f with raw := level, filtered := level, timer := none }
  else { f with raw := level, timer := some f.time }

/-- R2: the filter at the expiry of its timer; with no timer running there is no expiry. -/
def Filter.expire (f : Filter) : Filter := match f.timer with
  | some _ => { f with filtered := f.raw, timer := none }
  | none => f

/-- R4: does this change of a filter bring the lug event? -/
def bringsLugEvent (s : State) (p : Input) (f f' : Filter) : Bool :=
  p == .lug && !f.filtered && f'.filtered && s.shadow.part == .running

/-- A filter changes; a rise of filtered LUG while RUNNING is the lug event (R4). -/
def filterStep (p : Input) (f' : Filter) (o : LugOrder) (s : State) : State :=
  if bringsLugEvent s p (s.inputs.get p) f' then lugEvent o (s.setFilter p f')
  else settle s (s.setFilter p f')

end Sys2Proof.Machine
end

