-- ==== Sys2Proof/Machine/OverrideUnit.lean ====
section
/-! DEFINITION. The override unit (Chapter 6): the read-back of a post, its judgement, and what each kind does. -/

namespace Sys2Proof.Machine

/-! ### Board kinds -/

/-- R39: an accepted RESCAN of record `k`. -/
def acceptRescan (k : Nat) (s : State) : State :=
  let r := s.record k
  let s := abandonRun k (leaveDecisionQueue k s)
  let s := s.setRecord k r.reopen
  let entries := r.held.map fun p => ({ head := p.1, slot := p.2, kind := .readBack r.lug, awaiting := none } : IntakeEntry)
  let s := beginClose k r.lug true r.held.getLast? s
  { s with intake := { s.intake with queue := s.intake.queue ++ entries } }

/-- The record is SCANNING or CLOSING: its measurement is still being taken (R113). -/
def RecordState.open_ : RecordState → Bool
  | .scanning | .closing => true
  | _ => false

/-- R113: a board kind that R112 applies to the uncommitted live record of slot `k`, and its result. -/
def applyOverride (kind : OverrideKind) (k : Nat) (arg addr : Word) (tag : BitVec 15) (s : State) : State × ResultCode :=
  let r := s.record k
  if r.state.open_ then
    if kind = .rescan then (s, .busy) else (applyPart k kind arg addr tag s, .done)
  else match kind with
    | .rescan => (acceptRescan k s, .done)
    | .trim | .chip =>
      let s := applyPart k kind arg addr tag s
      let beyond := trimBeyond (s.record k)
      (forceDecision k true (abandonRun k (leaveDecisionQueue k s)), if beyond then .outOfRange else .done)
    | _ => (requeue k (applyPart k kind arg addr tag s), .done)

/-- R112: the result of a board kind by lug distance, or `none` when it is applied to the record of its lug. -/
def lugJudgement (s : State) (lug : Lug) : Option ResultCode :=
  let d := position s.tracker.lug lug
  let ahead := position lug s.tracker.lug
  let r := s.record (slotOf lug)
  if d < commitPosition s.shadow.words then
    if !r.live || r.lug != lug then some .noBoard
    else if r.committed then some .tooLate
    else none
  else if d ≤ 31 then some .tooLate
  else if 1 ≤ ahead ∧ ahead ≤ 8 then
    if s.overrides.waiting.length < Config.maxPendingOverrides then some .pending else some .pendingFull
  else some .outOfRange

/-- R119: an entry joins the pending-override list. -/
def joinWaiting (p : PendingOverride) (s : State) : State :=
  { s with overrides := { s.overrides with waiting := s.overrides.waiting ++ [p] } }

/-- R112, R113, R119: the judgement of a board kind. -/
def judgeBoard (kind : OverrideKind) (lug : Lug) (arg addr : Word) (tag : BitVec 15) (s : State) : State × ResultCode :=
  match lugJudgement s lug with
  | none => applyOverride kind (slotOf lug) arg addr tag s
  | some .pending => (joinWaiting { lug := lug, kind := kind, arg := arg, addr := addr, tag := tag } s, .pending)
  | some c => (s, c)

/-! ### Requests without a board (R122-R129) -/

/-- R122, R148: the bin's count becomes 0. -/
def emptyBin (b : Nat) (s : State) : State := { s with dispatch := { s.dispatch with counts := s.dispatch.counts.set b 0 } }

/-- R123: a swap begins, or is answered BUSY while one is in progress. -/
def judgeShift (s : State) : State × ResultCode := if s.tally.swap.isSome then (s, .busy) else (beginSwap s, .done)

/-- R170: the named flags lose their latches and persistence counters. -/
def acknowledgeFlags (mask : BitVec 6) (s : State) : State :=
  { s with lineGuard := { s.lineGuard with
      flags := (List.range 6).map fun i => if mask.getLsbD i then (s.flag i).acknowledge else s.flag i } }

/-- R171: FORCE set by 1, cleared by 0. -/
def setForce (on : Bool) (s : State) : State := { s with lineGuard := { s.lineGuard with force := on } }

/-- R128, R129: the saw-test mask and its timer. -/
def judgeSawTest (mask : Saws) (s : State) : State × ResultCode :=
  if safetyTime s.shadow.words = 0 then (s, .refused)
  else
    let timer :=
      if mask = 0 then none
      else if s.overrides.sawMask = 0 then some (safetyTime s.shadow.words)
      else s.overrides.sawTimer
    ({ s with overrides := { s.overrides with sawMask := mask, sawTimer := timer } }, .done)

/-- R126: accepted for a master in the setup writer mask. -/
def judgeLineReset (m : Master) (s : State) : State × ResultCode :=
  if (writerMask s.shadow.words).getLsbD m.toNat then
    ({ s with shadow := { s.shadow with phase := .accepted m } }, .done)
  else (s, .refused)

/-! ### The judgement of a post (R109-R111) -/

/-- R110: the checks of an entry as read back, and what its kind does when it passes them. -/
def judgeEntry (p : Post) (w0 w1 w2 : Word) (s : State) : State × ResultCode :=
  if postMarker w2 ∧ postTag w2 = p.tag then
    match kindOfCode (entryKindCode w0) with
    | none => (s, .outOfRange)
    | some kind =>
      if argOutOfRange kind (entryKey w0) w1 then (s, .outOfRange)
      else match kind with
        | .binEmpty => (emptyBin (entryKey w0) s, .done)
        | .shift => judgeShift s
        | .ack => (acknowledgeFlags (ackArg w1) s, .done)
        | .alarmTest => (setForce (w1 == 1) s, .done)
        | .sawTest => judgeSawTest (sawArg w1) s
        | .lineReset => judgeLineReset p.master s
        | .grade | .trim | .chip | .mark | .clear | .rescan => judgeBoard kind (lugTag w0) w1 p.addr p.tag s
  else (emitNow .override 3 (single p.index) w2 s, .refused)

/-- The purpose of the result word's write: an accepted LINERESET starts when its DONE is in memory (R126). -/
def resultPurpose (s : State) : Purpose := match s.shadow.phase with
  | .accepted _ => .lineResetDone
  | _ => .plain

/-- R109: the read-back of the head post has returned its three words. The post leaves the FIFO, is judged, and its result word goes
out behind the mirrors of what it changed (R111). -/
def completeReadback (w0 w1 w2 : Word) (s0 : State) : State :=
  match s0.overrides.readback, s0.overrides.fifo with
  | .reading, p :: rest =>
    let s := { s0 with overrides := { s0.overrides with fifo := rest, readback := .idle } }
    let j := judgeEntry p w0 w1 w2 s
    issue (resultBurst p.addr p.tag j.2 (resultPurpose j.1)) (settle s0 j.1)
  | _, _ => { s0 with overrides := { s0.overrides with readback := .idle } }

/-- R109, R126: the idle read-back engine takes the head post once its write is complete in memory, and issues its read. While a
LINERESET stands accepted no further post is taken. -/
def startReadback (s : State) : State :=
  match s.shadow.part, s.shadow.phase, s.overrides.readback, s.overrides.fifo with
  | .running, .none, .idle, p :: _ =>
    if p.awaiting.isNone then
      issue (readBurst p.addr 3 .overrideRead) { s with overrides := { s.overrides with readback := .reading } }
    else s
  | _, _, _, _ => s

/-- R129: the safety timer expires. -/
def expireSawTest (s : State) : State :=
  match s.overrides.sawTimer with
  | some t =>
    let mask := s.overrides.sawMask
    emitNow .override 4 (single mask.toNat) (single t) { s with overrides := { s.overrides with sawMask := 0, sawTimer := none } }
  | none => s

end Sys2Proof.Machine
end

