-- ==== Sys2Proof/Machine/BusPath.lean ====
section
/-! DEFINITION. The bus path (Chapter 10): classification and checks of chassis transactions (R178-R180), the handling of each window
kind (R179), frame slot writes (R25-R28), posts (R105-R107), consumer writes (R193), and the setup writes the shadow follows with what
they act on (R94, R95, R177, R183, R184). -/

namespace Sys2Proof.Machine

/-! ### Classification (R178) -/

/-- Where a word lies: the setup window, the window in force of an index, or no window. -/
inductive Region where
  | setup
  | window (i : Nat)
  | outside
  deriving DecidableEq, Repr

/-- R178: the first of the three that holds for a word's address. -/
def classify (es : List WindowEntry) (a : Nat) : Region :=
  if a < Config.setupBytes then .setup
  else match (List.range 16).find? fun i => isInForce es i && (entryAt es i).covers a with
    | some i => .window i
    | none => .outside

/-- The classes of the words a transaction touches. -/
def regionsOf (es : List WindowEntry) (t : Transaction) : List Region :=
  (touchedWords (Transaction.addr t) (Transaction.words t)).map (classify es)

/-- The class of the transaction's first byte. -/
def firstRegion (es : List WindowEntry) (t : Transaction) : Region :=
  classify es (4 * ((Transaction.addr t).toNat / 4))

/-! ### Checks (R178-R180) -/

/-- The causes of event ACCESS, in the order of R180. -/
inductive AccessCause where
  | span | align | mask | partial_ | owned | burst | range
  deriving DecidableEq, Repr

def AccessCause.code : AccessCause → Nat
  | .span => 1
  | .align => 2
  | .mask => 3
  | .partial_ => 4
  | .owned => 5
  | .burst => 6
  | .range => 7

/-- The mask of a region for reads or writes: the setup window admits every read, and writes by the setup writer mask. -/
def regionMask (sh : Shadow) (r : Region) (write : Bool) : BitVec 8 := match r with
  | .setup => if write then writerMask sh.words else 0xFF#8
  | .window i => if write then (entryAt sh.entries i).writeMask else (entryAt sh.entries i).readMask
  | .outside => 0xFF#8

/-- Byte offset of a word within a window. -/
def offsetIn (e : WindowEntry) (a : Nat) : Nat := a - e.start

/-- R179: the watched words of a window, by byte offset. -/
def watchedOffset (e : WindowEntry) (off : Nat) : Bool := match e.kind with
  | .frame => off / 1024 < frameSlots e && (off % 1024 == 0 || off % 1024 == 1020)
  | .override => off / 16 < overrideEntries e && off % 16 == 8
  | .event => off == 4
  | .record | .tally | .trim | .sort | .guarded => false

/-- R179, R153, R191: the words a master may not write, by byte offset. -/
def ownedOffset (t : Tally) (e : WindowEntry) (off : Nat) : Bool := match e.kind with
  | .record => off < 8448
  | .tally => off < 256 || (bankOffset t.bank ≤ off && off < bankOffset t.bank + 1024)
  | .event => off < 16 + 16 * ringCapacity e && off != 4
  | .trim | .sort => off < 128
  | .frame | .override | .guarded => false

def watchedWord (sh : Shadow) (r : Region) (a : Nat) : Bool := match r with
  | .setup => true
  | .window i => watchedOffset (entryAt sh.entries i) (offsetIn (entryAt sh.entries i) a)
  | .outside => false

def ownedWord (sh : Shadow) (t : Tally) (r : Region) (a : Nat) : Bool := match r with
  | .window i => ownedOffset t (entryAt sh.entries i) (offsetIn (entryAt sh.entries i) a)
  | _ => false

/-- R133: the answered words of a TRIM or SORT window. -/
def answeredWord (sh : Shadow) (r : Region) (a : Nat) : Bool := match r with
  | .window i =>
    let e := entryAt sh.entries i
    (e.kind == .trim || e.kind == .sort) && offsetIn e a < 128
  | _ => false

/-- R179: a write carries a watched word, and has partial byte enables in any word (log 15). -/
def partialWrite (sh : Shadow) (r : Region) (t : Transaction) : Bool :=
  (ownWords (Transaction.addr t) (Transaction.words t)).any (watchedWord sh r) && (Transaction.beats t).any Beat.isPartial

/-- R191: a consumer write with a value at or above the ring's capacity. -/
def consumerBeyond (sh : Shadow) (r : Region) (t : Transaction) : Bool := match r, t with
  | .window i, .write w =>
    let e := entryAt sh.entries i
    e.kind == .event && (carried w).any fun c => offsetIn e c.1 == 4 && Beat.isFull c.2 && ringCapacity e ≤ c.2.data.toNat
  | _, _ => false

/-- R178-R180: the first check that a transaction fails, in the order of R180. -/
def accessCause (sh : Shadow) (ty : Tally) (t : Transaction) : Option AccessCause :=
  let r := firstRegion sh.entries t
  let own := ownWords (Transaction.addr t) (Transaction.words t)
  if (regionsOf sh.entries t).any fun x => x != r then some .span
  else if r = .outside then none
  else if (Transaction.addr t).toNat % 4 ≠ 0 then some .align
  else if !(regionMask sh r (Transaction.isWrite t)).getLsbD (Transaction.master t).toNat then some .mask
  else if Transaction.isWrite t && partialWrite sh r t then some .partial_
  else if Transaction.isWrite t && own.any (ownedWord sh ty r) then some .owned
  else if !Transaction.isWrite t && 2 ≤ Transaction.words t && own.any (answeredWord sh r) then some .burst
  else if consumerBeyond sh r t then some .range
  else none

/-- R180: event ACCESS of a refused transaction. -/
def emitAccess (t : Transaction) (c : AccessCause) (s : State) : State :=
  emitNow .setup 1 (Transaction.addr t)
    (triple (Transaction.master t).toNat (Transaction.isWrite t).toNat c.code) s

/-! ### Frame slot writes (R25-R28) -/

/-- A beat of a write with the frame slot and the word of the slot that it writes. -/
structure SlotBeat where
  slot : Nat
  word : Nat
  beat : Beat
  deriving DecidableEq, Repr

/-- The beats of a write that lie in a frame slot of the window; bytes beyond the last slot belong to none (R23). -/
def slotBeats (e : WindowEntry) (w : BusWrite) : List SlotBeat :=
  (carried w).filterMap fun c =>
    let off := offsetIn e c.1
    if off / 1024 < frameSlots e then some { slot := off / 1024, word := off % 1024 / 4, beat := c.2 } else none

/-- R25: a full-word write of word 0. -/
def SlotBeat.isHeader (b : SlotBeat) : Bool := b.word == 0 && Beat.isFull b.beat

/-- R26, R200: a full-word write of word 255 with the complete marker set. -/
def SlotBeat.isTrailer (b : SlotBeat) : Bool := b.word == 255 && Beat.isFull b.beat && trailerComplete b.beat.data

/-- The fresh entries of the intake queue (R26). -/
def freshCount (s : State) : Nat := s.intake.queue.countP fun e => e.kind == .fresh

/-- R25, R26: what one beat does to its frame slot. -/
def moveSlot (h txn : Nat) (b : SlotBeat) (s : State) : State :=
  if b.isHeader then setFrameSlot h b.slot .filling s
  else if b.isTrailer then
    let s := setFrameSlot h b.slot .held s
    { s with intake := { s.intake with queue := s.intake.queue ++
        [{ head := h, slot := b.slot, kind := .fresh, awaiting := some txn }] } }
  else s

/-- R25-R28: a permitted write to the FRAME window in force of head `h`. -/
def frameWrite (txn : Nat) (e : WindowEntry) (h : Nat) (w : BusWrite) (s : State) : State :=
  let bs := slotBeats e w
  match bs.find? fun b => frameSlot s h b.slot == some .held with
  | some b => emitNow .frame 2 (pair h b.slot) (single w.master.toNat) (refuse txn (.write w) s)
  | none =>
    match bs.find? SlotBeat.isTrailer with
    | some b =>
      if freshCount s + bs.countP SlotBeat.isTrailer ≤ Config.maxFresh then
        bs.foldl (fun s b => moveSlot h txn b s) (pass txn (.write w) false s)
      else emitNow .frame 1 (pair h b.slot) (single w.master.toNat) (refuse txn (.write w) s)
    | none => bs.foldl (fun s b => moveSlot h txn b s) (pass txn (.write w) false s)

/-! ### Posts (R105-R107) -/

/-- A beat of a write with the entry and the word of the entry that it writes. -/
structure EntryBeat where
  index : Nat
  addr : Word
  word : Nat
  beat : Beat
  deriving DecidableEq, Repr

def entryBeats (e : WindowEntry) (w : BusWrite) : List EntryBeat :=
  (carried w).filterMap fun c =>
    let off := offsetIn e c.1
    if off / 16 < overrideEntries e then
      some { index := off / 16, addr := windowAddr e (16 * (off / 16)), word := off % 16 / 4, beat := c.2 }
    else none

/-- R105, R202: a full-word write of word 2 with the post marker set. -/
def EntryBeat.isPost (b : EntryBeat) : Bool := b.word == 2 && Beat.isFull b.beat && postMarker b.beat.data

/-- R106: the beat writes word 0, 1 or 2 of an entry whose post stands in the FIFO (log 30). -/
def EntryBeat.isBusy (s : State) (b : EntryBeat) : Bool := b.word != 3 && s.overrides.fifo.any fun p => p.addr == b.addr

/-- The posts a write makes, in ascending address order (R107). -/
def postsOf (txn : Nat) (m : Master) (bs : List EntryBeat) : List Post :=
  (bs.filter EntryBeat.isPost).map fun b =>
    { addr := b.addr, index := b.index, tag := postTag b.beat.data, master := m, awaiting := some txn }

/-- R105-R107: a permitted write to the OVERRIDE window in force. R131 gives the refusal's event one entry index: of a burst that makes
several posts or touches several posted entries it is, by the model's choice (log 38), the first in ascending order. -/
def overrideWrite (txn : Nat) (e : WindowEntry) (w : BusWrite) (s : State) : State :=
  let bs := entryBeats e w
  let posts := postsOf txn w.master bs
  match bs.find? (EntryBeat.isBusy s) with
  | some b => emitNow .override 2 (single b.index) (single w.master.toNat) (refuse txn (.write w) s)
  | none =>
    if s.overrides.fifo.length + posts.length ≤ Config.maxPosts then
      let s := pass txn (.write w) false s
      { s with overrides := { s.overrides with fifo := s.overrides.fifo ++ posts } }
    else
      let first := ((bs.find? EntryBeat.isPost).map EntryBeat.index).getD 0
      emitNow .override 1 (single first) (single w.master.toNat) (refuse txn (.write w) s)

/-! ### The consumer word (R193) -/

/-- R193: a consumer write sets c; when c then equals p, every pending flag and the overflow flag are cleared, and the producer word is
written when the overflow flag was set. Without header state there is no c to set (log 27). -/
def takeConsumer (e : WindowEntry) (c : Nat) (s : State) : State :=
  match s.events.ring with
  | some r =>
    if c = r.producer then
      let t := { s with events := { ring := some { r with consumer := c }, overflow := false, classes := 0 } }
      if s.events.overflow then issue (writeBurst (windowAddr e 0) [producerWord r.producer false] .plain) t else t
    else { s with events := { s.events with ring := some { r with consumer := c } } }
  | none => s

def eventWrite (txn : Nat) (e : WindowEntry) (w : BusWrite) (s : State) : State :=
  let s := pass txn (.write w) false s
  match (carried w).find? fun c => offsetIn e c.1 == 4 && Beat.isFull c.2 with
  | some c => takeConsumer e c.2.data.toNat s
  | none => s

/-! ### Setup writes (R183) -/

/-- R177, R184: event SETUP_ERR of an ignored window entry, and of a clamped field. -/
def emitIgnored (p : Nat × Nat) (s : State) : State :=
  emitNow .setup 2 (wordOf [place p.1 0 31, placeBit true 31]) (single p.2) s

def emitClamped (n : Nat) (s : State) : State := emitNow .setup 2 (single (4 * n)) (single (inUse s.shadow.words n)) s

/-- What makes a FRAME slot table stand or fall (R41): the window's entry, base and limit. -/
def frameKey (es : List WindowEntry) (h : Nat) : Option (Nat × Nat × Nat) :=
  (frameIndex es h).map fun i => (i, (entryAt es i).start, (entryAt es i).top)

/-- Every slot FREE (R24), for a head with a FRAME window in force. -/
def freshTable (es : List WindowEntry) (h : Nat) : Option (List SlotState) :=
  (frameWindow es h).map fun e => List.replicate (frameSlots e) .free

/-- R41: the heads whose FRAME window in force has changed from that of `old`. -/
def changedHeads (old new : List WindowEntry) : List Nat :=
  (List.range Config.heads).filter fun h => frameKey old h != frameKey new h

/-- R41, R44: event WINDOW_LOST of head `h`, with the number of entries removed. -/
def emitLost (h removed : Nat) (s : State) : State := emitNow .frame 8 (single h) (single removed) s

/-- R41: the heads `hs` lose their slot tables in one change: their entries leave the queue and the notices are taken together (R55),
their slots leave every held-slot list, and WINDOW_LOST is written for each. -/
def loseTables (hs : List Nat) (s0 : State) : State :=
  if hs.isEmpty then s0 else
  let s := leaveIntakeQueue (fun e => hs.contains e.head) s0
  let s := dropEngine (fun e => hs.contains e.head) s
  let s := { s with tracker := { s.tracker with
      records := s.tracker.records.map fun r => { r with held := r.held.filter fun p => !hs.contains p.1 } } }
  hs.foldl (fun s h => emitLost h (s0.intake.queue.countP fun e => e.head == h) s) s

/-- R24, R41: the slot tables after a change of the entries in force from `old`: each head whose window has changed loses its table, and
has a new one if a window is in force for it. -/
def frameWindowsChanged (old : List WindowEntry) (s : State) : State :=
  let hs := changedHeads old s.shadow.entries
  let s := loseTables (hs.filter fun h => (frameKey old h).isSome) s
  { s with intake := { s.intake with
      tables := hs.foldl (fun ts h => ts.set h (freshTable s.shadow.entries h)) s.intake.tables } }

/-- The same with its size, for EVENT (R195). -/
def eventKey (es : List WindowEntry) : Option (Nat × Nat × Nat) :=
  (windowIndex es .event).map fun i => (i, (entryAt es i).start, (entryAt es i).size)

/-- R195: the header of the EVENT window in force is read; until it returns there is no header state. -/
def askEventHeader (s : State) : State :=
  let s := orphanBursts (fun p => p == .eventHeader) { s with events := { s.events with ring := none } }
  match s.window .event with
  | some w => issue (readBurst (windowAddr w 0) 2 .eventHeader) s
  | none => s

/-- R192, R195: an EVENT window that takes force, moves, changes size or goes leaves the event writer without header state from the write
on: every event of the write is dropped, none goes into the new window at an index of the old ring (log 22). -/
def eventWindowChanged (old : List WindowEntry) (s : State) : State :=
  if eventKey old ≠ eventKey s.shadow.entries then askEventHeader s else s

/-- R177: what frame intake and the tally unit do when windows in force have changed from those of `old`. The RECORD window's mirrors are
written when the whole change is published (R20, `publishesAll`), and the event writer has taken its window first. -/
def windowsChanged (old : List WindowEntry) (s : State) : State :=
  let s := frameWindowsChanged old s
  if windowKey old .tally ≠ windowKey s.shadow.entries .tally then tallyWindowChanged s else s

/-- R94: the records a grading table write sends back. -/
def sentBack (s : State) : List Nat :=
  (List.range Config.recordSlots).filter fun k =>
    !(s.record k).committed && ((s.record k).state == .decided || (s.record k).state == .optimizing)

/-- R95: the lug of the run the write abandons; 0xFFFF_FFFF shows none (R206). -/
def abandonedLug (s : State) : Word := match s.optimizer.run with
  | some r =>
    if (s.record r.slot).state = .optimizing ∧ !(s.record r.slot).committed then single r.lug.toNat else 0xFFFFFFFF#32
  | none => 0xFFFFFFFF#32

/-- R94, R95: a grading table write. -/
def gradingWrite (s : State) : State :=
  let ks := sentBack s
  let lost := abandonedLug s
  let s := ks.foldl (fun s k => requeue k s) s
  if ks.isEmpty then s else emitNow .decision 2 (single ks.length) lost s

/-- R183: the shadow, the filter times and the entries in force follow a permitted setup write; each block acts on it. The order of the
events of one write is log 22. -/
def followSetup (w : BusWrite) (s : State) : State :=
  let c := setupCarried w
  let oldWords := s.shadow.words
  let oldEntries := s.shadow.entries
  let ws := followWords oldWords c
  let es := followEntries oldEntries ws c
  let s := { s with shadow := { s.shadow with words := ws, entries := es }
                    inputs := { lug := { s.inputs.lug with time := filterTime ws .lug }
                                eye := { s.inputs.eye with time := filterTime ws .eye }
                                almin := { s.inputs.almin with time := filterTime ws .almin } } }
  let s := eventWindowChanged oldEntries s
  let s := (ignoredByWrite es c).foldl (fun s p => emitIgnored p s) s
  let s := (clampedByWrite oldWords ws c).foldl (fun s n => emitClamped n s) s
  let s := windowsChanged oldEntries s
  if c.any fun p => inGradingTables p.1 then gradingWrite s else s

/-! ### Handling (R179) -/

/-- A transaction that passes the checks, in the region it is classified to (R179). -/
def handle (txn : Nat) (t : Transaction) (r : Region) (s : State) : State :=
  match r, t with
  | .setup, .write w => followSetup w (pass txn t false s)
  | .window i, .write w =>
    let e := entryAt s.shadow.entries i
    match e.kind with
    | .frame => frameWrite txn e e.head w s
    | .override => overrideWrite txn e w s
    | .event => eventWrite txn e w s
    | .record | .tally | .trim | .sort | .guarded => pass txn t false s
  | .window i, .read b =>
    let e := entryAt s.shadow.entries i
    let off := offsetIn e b.addr.toNat
    if e.kind = .trim ∧ off < 128 then trimReadSlot txn b.master (off / 4) s
    else if e.kind = .sort ∧ off < 128 then sortReadSlot txn b.master (off / 4) s
    else pass txn t false s
  | _, _ => pass txn t false s

/-- A transaction arriving while RUNNING (R178-R180). -/
def judge (txn : Nat) (t : Transaction) (s : State) : State :=
  settle s (match accessCause s.shadow s.tally t with
    | some c => emitAccess t c (refuse txn t s)
    | none => handle txn t (firstRegion s.shadow.entries t) s)

/-! ### Arrival (R176, R188, R189) -/

/-- A chassis transaction arrives: refused while RESET_N is asserted; while STARTING a write whose first byte falls in the setup window
is held and all else passes plain; while TRANSPARENT all passes plain, a format word write being watched; while RUNNING it is judged. -/
def arrive (t : Transaction) (s : State) : State :=
  let txn := s.bus.nextTxn
  let s := { s with bus := { s.bus with nextTxn := s.bus.nextTxn + 1 } }
  if s.resetAsserted then refuse txn t s
  else match s.shadow.part with
    | .starting => match t with
      | .write w =>
        if w.addr.toNat < Config.setupBytes then
          { s with shadow := { s.shadow with held := s.shadow.held ++ [{ txn := txn, write := w }] } }
        else pass txn t false s
      | .read _ => pass txn t false s
    | .transparent => match t with
      | .write w => pass txn t (carriesFormatWord w) s
      | .read _ => pass txn t false s
    | .running => judge txn t s

end Sys2Proof.Machine
end

