-- ==== Sys2Proof/Machine/FrameIntake.lean ====
section
/-! DEFINITION. The intake engine and the judgement of frames (R30-R36, R40), the completion of a close (R56-R58), and the completion of
an optimizer run (R90). -/

namespace Sys2Proof.Machine

/-! ### The intake engine (R30) -/

/-- R30: the idle engine takes the head entry, once its trailer write is complete in memory, and issues its first two reads. -/
def startIntake (s : State) : State :=
  match s.shadow.part, s.intake.engine, s.intake.queue with
  | .running, none, e :: _ =>
    match e.awaiting, frameWindow s.shadow.entries e.head with
    | none, some w =>
      let addr := windowAddr w (1024 * e.slot)
      let run : IntakeRun := { head := e.head, slot := e.slot, kind := e.kind, addr := addr, header := 0, lugWord := 0,
                               trailer := 0, slices := [], dropped := false }
      issueAll [readBurst addr 2 .frameHead, readBurst (addr + 1020#32) 1 .frameTrailer]
        { s with intake := { s.intake with engine := some run } }
    | _, _ => s
  | _, _, _ => s

/-! ### Judging (R31-R36, R40) -/

/-- The entry at the engine leaves the queue by judgement. -/
def leaveByJudgement (e : IntakeRun) (s : State) : State := leaveIntakeQueue (fun x => x.key == (e.head, e.slot)) s

/-- R33: the record takes the frame: SCANNING, or CLOSING with a close begun at position 1 that the entry is part of. An entry at
judgement is the oldest of the queue, so it is part of every such close that still awaits its mark. -/
def mergesInto (s : State) (lug : Lug) : Bool :=
  let r := s.record (slotOf lug)
  r.lug == lug &&
    (r.state == .scanning ||
      (r.state == .closing && s.measure.awaiting.any fun c => c.slot == slotOf lug && c.lug == lug && !c.rescan))

/-- The slices the engine has read. -/
def IntakeRun.frame (e : IntakeRun) : List Slice := slicesOf (e.slices.take (2 * slicesUsed e.header))

/-- R32: event TRUNCATED of a merged frame. -/
def emitTruncated (e : IntakeRun) (lug : Lug) (s : State) : State :=
  if truncated e.header then emit (event .frame 4 lug (pair e.head e.slot) (single (headerCount e.header))) s else s

/-- R33, R49: a fresh frame is merged; its slot joins the held-slot list, or enters FREE when the list is full. -/
def mergeFresh (e : IntakeRun) (lug : Lug) (s : State) : State :=
  let k := slotOf lug
  let r := mergeFrame s.shadow.words e.head e.frame (s.record k)
  if r.held.length < Config.maxHeldSlots then s.setRecord k { r with held := r.held ++ [(e.head, e.slot)] }
  else setFrameSlot e.head e.slot .free (s.setRecord k r)

/-- R34: a frame that is not merged is LATE_FRAME or MISSYNC; both report the MISSYNC condition. -/
def discardFresh (e : IntakeRun) (lug : Lug) (s : State) : State :=
  let r := s.record (slotOf lug)
  let s := setFrameSlot e.head e.slot .free s
  let s := if r.live && r.lug == lug then emit (event .frame 5 lug (pair e.head e.slot) (single r.state.code)) s
           else emit (event .frame 6 lug (pair e.head e.slot) (single s.tracker.lug.toNat)) s
  report .missync s

/-- R31-R35: the judgement of a fresh entry. -/
def judgeFresh (e : IntakeRun) (s : State) : State :=
  let lug := lugTag e.lugWord
  match badFrame e.head e.header e.trailer with
  | some cause =>
    emit (event .frame 3 lug (pair e.head e.slot) (single cause)) (leaveByJudgement e (setFrameSlot e.head e.slot .free s))
  | none =>
    if mergesInto s lug then leaveByJudgement e (emitTruncated e lug (mergeFresh e lug s))
    else leaveByJudgement e (discardFresh e lug s)

/-- R40: a read-back that failed. -/
def failReadBack (e : IntakeRun) (lug : Lug) (s : State) : State :=
  let k := slotOf lug
  let r := s.record k
  let s := s.setRecord k { r with rescanFailed := true, held := r.held.filter fun p => p != (e.head, e.slot) }
  emit (event .frame 7 lug (pair e.head e.slot) e.lugWord) (setFrameSlot e.head e.slot .free s)

/-- R40: the judgement of a read-back entry carrying `lug`. -/
def judgeReadBack (e : IntakeRun) (lug : Lug) (s : State) : State :=
  let k := slotOf lug
  let r := s.record k
  if r.state = .closing ∧ r.lug = lug then
    if badFrame e.head e.header e.trailer = none ∧ lugTag e.lugWord = lug then
      leaveByJudgement e (emitTruncated e lug (s.setRecord k (mergeFrame s.shadow.words e.head e.frame r)))
    else leaveByJudgement e (failReadBack e lug s)
  else leaveByJudgement e s

/-- R30: the last read of the intake has returned; the entry is judged, or dropped when it has left the queue meanwhile. -/
def completeIntake (s0 : State) : State :=
  match s0.intake.engine with
  | none => s0
  | some e =>
    let s := { s0 with intake := { s0.intake with engine := none } }
    if e.dropped then s
    else settle s0 (match e.kind with
      | .fresh => judgeFresh e s
      | .readBack lug => judgeReadBack e lug s)

/-! ### Close completion (R56-R58) -/

/-- R57: event HEAD_SILENT and the SILENT condition. -/
def reportSilent (r : Record) (s : State) : State :=
  if r.silent = 0 then s
  else report .silent (emit (event .frame 9 r.lug (single r.silent.toNat) (single r.contributed.toNat)) s)

/-- The completion of the close being finalised. A completion that finds no CLOSING record of its lug is dropped (R13). -/
def completeClose (s0 : State) : State :=
  match s0.measure.finalising with
  | [] => s0
  | c :: rest =>
    let s := { s0 with measure := { s0.measure with finalising := rest } }
    let r := s.record c.slot
    if r.state = .closing ∧ r.lug = c.lug then
      let r := finalise s.shadow.words r
      let s := reportSilent r (s.setRecord c.slot r)
      settle s0 (if r.isForced then forceDecision c.slot false s else joinQueue c.slot s)
    else s

/-! ### Run completion (R90) -/

/-- The decision of a run, from what it read (R63, R71-R79). -/
def Run.decision (r : Run) : Decision :=
  if r.record.isForced then forcedDecision r.tables r.record else searchDecision r.tables r.record

/-- R90, R103: event DECIDED, when its enable is set. -/
def emitDecided (d : Decision) (lug : Lug) (s : State) : State :=
  if decisionEventEnable s.shadow.words then
    emit (event .decision 1 lug (triple d.verdict.code d.a d.b) (pair d.grade d.value)) s
  else s

/-- The completion of the run in flight (R84, R90). -/
def completeRun (s0 : State) : State :=
  match s0.optimizer.run with
  | none => s0
  | some run =>
    let s := { s0 with optimizer := { s0.optimizer with run := none } }
    let r := s.record run.slot
    if r.state = .optimizing ∧ r.lug = run.lug then
      let s := writeDecision run.slot run.decision (gradedSegments run.tables run.record) run.record.isForced s
      let s := if trimBeyond run.record then emitTrimRange run.record s else s
      settle s0 (emitDecided run.decision run.lug s)
    else settle s0 s

end Sys2Proof.Machine
end

