-- ==== Sys2Proof/Machine/StartUp.lean ====
section
/-! DEFINITION. Part states and their changes (Chapter 10, Start-up): the load, the entries to RUNNING and TRANSPARENT, the format word
write, RESET_N, and the line reset. -/

namespace Sys2Proof.Machine

/-! ### The load (R186) -/

/-- A load begins: STARTING, the event writer's flags cleared and its header state dropped (R195), the read of address 0 issued. -/
def beginLoad (cause : StartCause) (s : State) : State :=
  let ld : Load := { cause := cause, words := [], awaitEvent := false, awaitTally := false }
  let s := orphanBursts (fun p => p == .eventHeader)
    { s with
      shadow := { s.shadow with part := .starting, phase := .none, load := some ld }
      events := { ring := none, overflow := false, classes := 0 } }
  issue Burst.loadFormat s

/-- R186: words 1-1,023, as one burst of 15 words and then 63 of 16. -/
def setupBursts : List Burst :=
  readBurst 4#32 15 (.loadSetup false) ::
    (List.range 63).map fun i => readBurst (BitVec.ofNat 32 (64 * (i + 1))) 16 (.loadSetup (i == 62))

/-- R188: held writes released as the load ends in TRANSPARENT pass plain, up to a format word write; those behind it stay held, for the
load it starts (log 28). -/
def releasePlain : List HeldWrite → State → State
  | [], s => { s with shadow := { s.shadow with held := [] } }
  | h :: rest, s =>
    let s := pass h.txn (.write h.write) (carriesFormatWord h.write) s
    if carriesFormatWord h.write then { s with shadow := { s.shadow with held := rest } } else releasePlain rest s

/-- R187: the load ends in TRANSPARENT. -/
def enterTransparent (s : State) : State :=
  releasePlain s.shadow.held { s with shadow := { s.shadow with part := .transparent, load := none } }

/-- R154, R164: the tally unit at the entry to RUNNING: with what it kept through a reset that began without a TALLY window, header written
and swap resumed in a window now in force; after any other load without a window, power-on values. -/
def tallyAtRunning (s : State) : State :=
  let s' := if s.tally.kept then beginZeroing (writeTallyHeader s)
    else if (s.window .tally).isSome then s
    else { s with tally := { s.tally with bank := false, swap := none, saturated0 := false, saturated1 := false } }
  { s' with tally := { s'.tally with kept := false } }

/-- R196: event LINE_RESET at the first entry to RUNNING since a line reset. -/
def emitLineReset (s : State) : State := match s.shadow.report with
  | some r =>
    emitNow .line 3 (single r.master.toNat) (pair r.posts r.pendings) { s with shadow := { s.shadow with report := none } }
  | none => s

/-- R186: the events of the entry to RUNNING: START, LINE_RESET, and the SETUP_ERR events in the order of R177 and R184. -/
def startEvents (cause : StartCause) (s : State) : State :=
  let s := emitNow .line 2 (setupWord s.shadow.words 0) (single cause.code) s
  let s := emitLineReset s
  let s := (ignoredByLoad s.shadow.entries).foldl (fun s p => emitIgnored p s) s
  (clampedByLoad s.shadow.words).foldl (fun s n => emitClamped n s) s

/-- R188: a held write released as the load ends in RUNNING is judged as one arriving then. -/
def releaseHeld (hs : List HeldWrite) (s : State) : State := hs.foldl (fun s h => judge h.txn (.write h.write) s) s

/-- R186: the part enters RUNNING in one change and each block takes its entry work: slot tables (R24), filter times (R3), the tally
(R154), status block and mirrors (R19); then the events; then the held writes. -/
def enterRunning (ld : Load) (s0 : State) : State :=
  let s := tallyAtRunning s0
  let ws := s.shadow.words
  let s := { s with
    shadow := { s.shadow with part := .running, load := none, held := [] }
    intake := { s.intake with tables := (List.range Config.heads).map (freshTable s.shadow.entries) }
    inputs := { lug := { s.inputs.lug with time := filterTime ws .lug }
                eye := { s.inputs.eye with time := filterTime ws .eye }
                almin := { s.inputs.almin with time := filterTime ws .almin } }
    tracker := { s.tracker with everRan := true } }
  releaseHeld s0.shadow.held (startEvents ld.cause (settle s0 s))

/-- R186: the load ends in RUNNING when no header read is awaited. -/
def endLoad (s : State) : State := match s.shadow.load with
  | some ld => if ld.awaitEvent || ld.awaitTally then s else enterRunning ld s
  | none => s

/-- R186: the read of address 0 has returned. -/
def formatWordRead (w : Word) (s : State) : State := match s.shadow.load with
  | some ld =>
    if w = Config.formatWord then
      issueAll setupBursts { s with shadow := { s.shadow with load := some { ld with words := [w] } } }
    else enterTransparent s
  | none => s

/-- R186: the last setup word has returned: the shadow takes every field, the entries in force are worked out, and the headers are
asked for, each where its window is in force (R154 for a load that reads no tally header). -/
def setupRead (ld : Load) (s : State) : State :=
  let ws := shadowFromLoad ld.words
  let es := entriesFromWords ws
  let s := { s with shadow := { s.shadow with words := ws, entries := es } }
  let s := askEventHeader s
  let tally := if s.tally.kept then none else s.window .tally
  let s := match tally with
    | some w => issue (readBurst (windowAddr w 0) 1 .tallyHeader) s
    | none => s
  let ld : Load := { ld with awaitEvent := (s.window .event).isSome, awaitTally := tally.isSome }
  endLoad { s with shadow := { s.shadow with load := some ld } }

/-- R195: the header of the event ring has returned, in a load or while RUNNING. -/
def takeEventHeader (prod cons : Word) (s : State) : State := match s.window .event with
  | some w =>
    let cap := ringCapacity w
    let pRead := bits prod 0 16
    let oRead := bit prod 31
    let c := if cons.toNat < cap then cons.toNat else if pRead < cap then pRead else 0
    let p := if pRead < cap then pRead else c
    let overflow := if s.shadow.part = .running then s.events.overflow || oRead else oRead
    let s := { s with events := { s.events with ring := some { producer := p, consumer := c }, overflow := overflow } }
    if p = pRead ∧ overflow = oRead then s
    else issue (writeBurst (windowAddr w 0) [producerWord p overflow] .plain) s
  | none => s

/-- R154: the tally header has returned. -/
def takeTallyHeader (w : Word) (s : State) : State :=
  let bank := bits w 0 8 == 1
  let swapping := bit w 8
  let t : Tally := { s.tally with
    bank := bank, saturated0 := bit w 9, saturated1 := bit w 10
    swap := if swapping then some { zeroing := .waiting, done := 0 } else none }
  let t := if swapping then t.setSaturated bank false else t
  beginZeroing (writeTallyHeader { s with tally := t })

/-- The load no longer awaits the header read. -/
def headerReturned (tally : Bool) (s : State) : State := match s.shadow.load with
  | some ld =>
    let ld := if tally then { ld with awaitTally := false } else { ld with awaitEvent := false }
    endLoad { s with shadow := { s.shadow with load := some ld } }
  | none => s

/-- R187: a full-word write of the format word has been written to memory while TRANSPARENT. The change of part state is published
(R176), and a load begins behind it. -/
def formatWordWritten (s : State) : State :=
  if s.shadow.part = .transparent then
    beginLoad .formatWord (publishArea Config.statusArea { s with shadow := { s.shadow with part := .starting } })
  else s

/-! ### RESET_N (R189) -/

/-- The transaction a burst at the port or in the through stream belongs to. -/
def Burst.transaction (b : Burst) : Option (Nat × Master) := match b.purpose with
  | .chassis txn m _ => some (txn, m)
  | _ => none

/-- The open transactions: at the port, in the through stream, held setup writes, held trim reads, waiting sort reads. -/
def openTransactions (s : State) : List (Nat × Master) :=
  (s.bus.port.toList ++ s.bus.through).filterMap Burst.transaction ++
    s.shadow.held.map (fun h => (h.txn, h.write.master)) ++ s.dispatch.held.map (fun h => (h.txn, h.master)) ++
    s.dispatch.waiting.map (fun h => (h.txn, h.master))

def stopTimer (f : Filter) : Filter := { f with timer := none }

/-- R189: RESET_N is asserted: every open transaction is refused, no access is issued; the port completes the burst it holds and its
result is discarded. R24 and R189 give power-on values at the release only: that slot tables, intake queue and every other table stay as
they were until then, and that the part shows STARTING meanwhile, is the model's choice (log 29). -/
def assertReset (s : State) : State :=
  if s.resetAsserted then s
  else { s with
    resetAsserted := true
    inputs := { lug := stopTimer s.inputs.lug, eye := stopTimer s.inputs.eye, almin := stopTimer s.inputs.almin }
    shadow := { s.shadow with part := .starting, load := none, phase := .none, held := [] }
    dispatch := { s.dispatch with held := [], waiting := [] }
    bus := { s.bus with
      through := [], internal := [], port := s.bus.port.map (Burst.orphan fun _ => true)
      answers := s.bus.answers ++ (openTransactions s).map fun t => { txn := t.1, master := t.2, reply := .error } } }

/-- R189: RESET_N is released: every block takes its power-on values, the filtered levels take the raw levels (R3), the part enters
STARTING and a load begins. Line memory, the answers given and a burst still at the port stay. -/
def releaseReset (s : State) : State :=
  if s.resetAsserted then
    { State.reset with
      inputs := s.inputs.released
      bus := { s.bus with through := [], internal := [Burst.loadFormat], lastGrant := none }
      pending := s.pending }
  else s

/-! ### The line reset (R190) -/

/-- R164, R190, R15: the tally unit's work is done: the STARTING image of the status block is written and the load begins behind it. When
a status block write is still outstanding the image waits for it (R17; log 20). -/
def finishReset (s : State) : State := match s.window .record, (s.area Config.statusArea).pub with
  | none, _ => beginLoad .lineReset s
  | some _, .idle => beginLoad .lineReset (beginMirror Config.statusArea s)
  | some _, _ =>
    let s := s.setArea Config.statusArea { s.area Config.statusArea with pub := .writingDirty }
    { s with shadow := { s.shadow with phase := .statusDue } }

/-- R164: while draining, the reset goes on once the queue is worked off and any swap has ended. -/
def drainStep (s : State) : State :=
  if s.shadow.phase = .draining ∧ tallyDrained s = true then finishReset s else s

/-- R17: a line reset drops the noted changes; writes already issued complete. -/
def Area.dropNote (a : Area) : Area := match a.pub with
  | .writingDirty => { a with pub := .writing }
  | _ => a

def Readback.reset : Readback → Readback
  | .idle => .idle
  | .reading => .dropping
  | .dropping => .dropping

/-- R127: the ABANDONED words: every post in FIFO order, then every pending entry in list order. -/
def abandonedWords (o : Overrides) : List Burst :=
  o.fifo.map (fun p => resultBurst p.addr p.tag .abandoned .plain) ++
    o.waiting.map (fun p => resultBurst p.addr p.tag .abandoned .plain)

/-- R190: the start of a line reset asked for by master `m`, block by block. -/
def clearForReset (m : Master) (s : State) : State :=
  { s with
    shadow := { s.shadow with
      part := .starting, phase := .draining
      report := some { master := m, posts := s.overrides.fifo.length, pendings := s.overrides.waiting.length } }
    dispatch := Dispatch.powerOn
    overrides := { Overrides.powerOn with readback := s.overrides.readback.reset }
    tracker := { s.tracker with
      lug := 0, records := List.replicate Config.recordSlots Record.blank, areas := s.tracker.areas.map Area.dropNote }
    measure := Measure.powerOn
    optimizer := Optimizer.powerOn
    intake := { tables := List.replicate Config.heads none, queue := []
                engine := s.intake.engine.map fun e => { e with dropped := true } }
    skip := 0
    lineGuard := LineGuard.powerOn
    tally := { s.tally with kept := (s.window .tally).isNone }
    bus := { s.bus with
      internal := s.bus.internal ++ abandonedWords s.overrides
      answers := s.bus.answers ++
        s.dispatch.held.map (fun h => { txn := h.txn, master := h.master, reply := .error }) ++
        s.dispatch.waiting.map (fun h => { txn := h.txn, master := h.master, reply := .error }) } }

/-- R190, R164: the DONE of an accepted LINERESET is in memory and the reset begins. With no TALLY window in force the queue cannot be
worked off and the reset proceeds. -/
def startLineReset (m : Master) (s0 : State) : State :=
  let s := clearForReset m s0
  if s.tally.kept then finishReset s else drainStep (settle s0 s)

end Sys2Proof.Machine
end

