-- ==== Sys2Proof/Machine/Port.lean ====
section
/-! DEFINITION. The completion of the burst at the memory port (R181, R182) and what it means to the block that issued it. -/

namespace Sys2Proof.Machine

/-! ### Chassis transactions -/

/-- What waited for transaction `txn` waits no longer. -/
def landed (txn : Nat) (awaiting : Option Nat) : Option Nat := if awaiting = some txn then none else awaiting

def IntakeEntry.landed (txn : Nat) (e : IntakeEntry) : IntakeEntry :=
  { e with awaiting := Sys2Proof.Machine.landed txn e.awaiting }

def Post.landed (txn : Nat) (p : Post) : Post := { p with awaiting := Sys2Proof.Machine.landed txn p.awaiting }

/-- The write of transaction `txn` is complete in memory: the intake entry and the posts that waited for it may be read back
(R30, R109). -/
def writeLanded (txn : Nat) (s : State) : State :=
  { s with
    intake := { s.intake with queue := s.intake.queue.map (IntakeEntry.landed txn) }
    overrides := { s.overrides with fifo := s.overrides.fifo.map (Post.landed txn) } }

/-- R182: a read is answered with the data, a write when memory has written it. -/
def replyOf (a : Access) (words : List Word) : Reply := match a with
  | .read _ => .data words
  | .write _ => .written

/-- R182, R187: a chassis transaction completes at the port. -/
def chassisDone (txn : Nat) (m : Master) (format : Bool) (reply : Reply) (s : State) : State :=
  let s := writeLanded txn (answer txn m reply s)
  if format then formatWordWritten s else s

/-! ### Publication (R17) -/

/-- R17: the closing count word of area `k` completes: IDLE, or a new write of the area as it now stands when a change was noted. A load
that waits for the STARTING image of the status block begins behind that image (R15, R190; log 20). -/
def mirrorClosed (k : Nat) (s : State) : State :=
  let a := s.area k
  let s' := s.setArea k { a with pub := .idle }
  match a.pub with
  | .idle => s
  | .writing => s'
  | .writingDirty =>
    let t := beginMirror k s'
    if k = Config.statusArea ∧ s.shadow.phase = .statusDue then beginLoad .lineReset t else t

/-! ### Start-up -/

/-- A word of a load has returned. -/
def loadSetupRead (last : Bool) (words : List Word) (s : State) : State := match s.shadow.load with
  | some ld =>
    let ld : Load := { ld with words := ld.words ++ words }
    let s := { s with shadow := { s.shadow with load := some ld } }
    if last then setupRead ld s else s
  | none => s

/-- R195: the event ring header has returned; a load no longer awaits it. -/
def eventHeaderRead (prod cons : Word) (s : State) : State :=
  let t := takeEventHeader prod cons s
  if s.shadow.part = .starting then headerReturned false t else t

/-- R154: the tally header has returned to the load that asked for it, which no longer awaits it. -/
def tallyHeaderRead (w : Word) (s : State) : State := match s.shadow.load with
  | some _ => headerReturned true (takeTallyHeader w s)
  | none => s

/-- R126, R190: the DONE of an accepted LINERESET is in memory. -/
def lineResetDone (s : State) : State := match s.shadow.part, s.shadow.phase with
  | .running, .accepted m => startLineReset m s
  | _, _ => s

/-! ### Intake reads (R30) -/

def setEngine (e : IntakeRun) (s : State) : State := { s with intake := { s.intake with engine := some e } }

def frameHeadRead (header lugWord : Word) (s : State) : State := match s.intake.engine with
  | some e => setEngine { e with header := header, lugWord := lugWord } s
  | none => s

/-- R30: does a frame with this header and trailer cost no slice reads: bad, or of zero slices? -/
def noSliceReads (e : IntakeRun) (trailer : Word) : Bool :=
  (badFrame e.head e.header trailer).isSome || slicesUsed e.header == 0

/-- R30: word 255 has returned: the intake completes, or the slice reads go out. -/
def frameTrailerRead (trailer : Word) (s : State) : State := match s.intake.engine with
  | some e =>
    let t := setEngine { e with trailer := trailer } s
    if noSliceReads e trailer then completeIntake t else issueAll (sliceBursts e.addr (slicesUsed e.header)) t
  | none => s

def frameSlicesRead (last : Bool) (words : List Word) (s : State) : State := match s.intake.engine with
  | some e =>
    let t := setEngine { e with slices := e.slices ++ words } s
    if last then completeIntake t else t
  | none => s

/-! ### Tally accesses (R158, R159, R162, R164) -/

/-- R159: the first counter that saturates in a bank whose flag is clear sets the flag, with the header and event SATURATED. -/
def markSaturated (u : TallyUpdate) (values : List Word) (s : State) : State :=
  match firstSaturated u values with
  | some w =>
    if s.tally.saturated u.bank then s
    else
      let s := writeTallyHeader { s with tally := s.tally.setSaturated u.bank true }
      emit (event .tally 1 u.lug (single u.bank.toNat) (single w)) s
  | none => s

/-- R158: all the reads of the update have returned: the new values are formed and their writes issued. -/
def tallyReadsDone (s : State) : State := match s.tally.engine, s.tally.queue with
  | some r, u :: _ => markSaturated u r.values (issueAll (updateWrites r.base u (updateSums u r.values)) s)
  | _, _ => s

def tallyRead (last : Bool) (words : List Word) (s : State) : State := match s.tally.engine with
  | some r =>
    let t := { s with tally := { s.tally with engine := some { r with values := r.values ++ words } } }
    if last then tallyReadsDone t else t
  | none => s

/-- R162: an update of the old bank of a swap counts among those completed since it began. -/
def countOldBank (u : TallyUpdate) (t : Tally) : Option Swap :=
  t.swap.map fun w => if u.bank = t.bank then w else { w with done := w.done + 1 }

/-- R158, R162, R151, R164: the last write of the update has been written: the update leaves the queue, a swap may end, waiting sort
reads are judged when the queue has fallen below 32 entries, and a line reset goes on when the work is done. -/
def tallyUpdateDone (s0 : State) : State := match s0.tally.engine, s0.tally.queue with
  | some _, u :: rest =>
    let s := { s0 with tally := { s0.tally with engine := none, queue := rest, swap := countOldBank u s0.tally } }
    let s := endSwapIfDone s
    let fell := rest.length < Config.tallySortLimit && Config.tallySortLimit ≤ s0.tally.queue.length
    let s := if fell then judgeWaiting s.dispatch.waiting.length s else s
    drainStep (settle s0 s)
  | _, _ => s0

/-- R162: zeroing burst `i` has been written: the next goes out, or the zeroing has ended. -/
def zeroingWritten (i : Nat) (s0 : State) : State := match s0.tally.swap with
  | some w => match w.zeroing with
    | .running base =>
      if i < 15 then issue (zeroBurst base s0.tally.bank (i + 1)) s0
      else
        let s := endSwapIfDone { s0 with tally := { s0.tally with swap := some { w with zeroing := .ended } } }
        drainStep (settle s0 s)
    | _ => s0
  | none => s0

/-! ### The port -/

/-- What a completed burst means to the block that issued it, with the words it returned. -/
def afterBurst (b : Burst) (words : List Word) (s : State) : State :=
  match b.purpose with
  | .chassis txn m format => chassisDone txn m format (replyOf b.access words) s
  | .plain => s
  | .mirror k closing => if closing then mirrorClosed k s else s
  | .lineResetDone => lineResetDone s
  | .loadFormat => formatWordRead (words.getD 0 0) s
  | .loadSetup last => loadSetupRead last words s
  | .eventHeader => eventHeaderRead (words.getD 0 0) (words.getD 1 0) s
  | .tallyHeader => tallyHeaderRead (words.getD 0 0) s
  | .frameHead => frameHeadRead (words.getD 0 0) (words.getD 1 0) s
  | .frameTrailer => frameTrailerRead (words.getD 0 0) s
  | .frameSlices last => frameSlicesRead last words s
  | .overrideRead => completeReadback (words.getD 0 0) (words.getD 1 0) (words.getD 2 0) s
  | .tallyRead last => tallyRead last words s
  | .tallyWrite last => if last then tallyUpdateDone s else s
  | .zeroing i => zeroingWritten i s

/-- Memory completes burst `b`, which the port held: the access itself, and the port free again (R181). -/
def landBurst (b : Burst) (s : State) : State :=
  { s with bus := { s.bus with port := none, mem := (Burst.perform s.bus.mem b).1 } }

/-- R181, R182: memory completes the burst the port holds; with a free port nothing completes. -/
def completePort (s : State) : State := match s.bus.port with
  | some b => afterBurst b (Burst.perform s.bus.mem b).2 (landBurst b s)
  | none => s

/-- A completion row acts when the burst at the port is the one it names; else nothing completes (log 10, 11). -/
def completeIf (p : State → Burst → Bool) (s : State) : State := match s.bus.port with
  | some b => if p s b then completePort s else s
  | none => s

/-! ### The bursts that the completion rows name -/

/-- The word that a read at the port will return first. -/
def returnedWord (s : State) (b : Burst) : Word := ((Burst.perform s.bus.mem b).2).getD 0 0

/-- R30: is this the last read of the intake at the engine? -/
def endsIntake (s : State) (b : Burst) : Bool := match b.purpose, s.intake.engine with
  | .frameTrailer, some e => noSliceReads e (returnedWord s b)
  | .frameSlices last, some _ => last
  | _, _ => false

/-- R109, R110: the read-back of the head post, with this kind code in the entry as memory holds it. -/
def endsReadback (code : Nat → Bool) (s : State) (b : Burst) : Bool :=
  b.purpose == .overrideRead && s.overrides.readback == .reading && code (entryKindCode (returnedWord s b))

/-- The read-back of a post of one of the twelve kinds. -/
def readsKind (k : OverrideKind) (s : State) (b : Burst) : Bool := endsReadback (fun c => kindOfCode c == some k) s b

/-- R187: the write of the format word while TRANSPARENT. -/
def writesFormatWord (s : State) (b : Burst) : Bool := match b.purpose with
  | .chassis _ _ format => format && s.shadow.part == .transparent
  | _ => false

/-- R126: the DONE write of the accepted LINERESET. -/
def startsLineReset (s : State) (b : Burst) : Bool :=
  b.purpose == .lineResetDone && s.shadow.part == .running && (match s.shadow.phase with
    | .accepted _ => true
    | _ => false)

/-- R17: the closing count word of an area. -/
def closesMirror (b : Burst) : Bool := match b.purpose with
  | .mirror _ closing => closing
  | _ => false

/-! ### The frame of a command -/

/-- Record work, timers of the override and dispatch units and the work in time of the record blocks are taken while the part is RUNNING
(R176). -/
def whenRunning (f : State → State) (s : State) : State := if s.shadow.part = .running then f s else s

/-- The next state a command gives. -/
def done (s : State) : Host.Outcome State Fault Refusal := .next (finish s)

/-- A chassis transaction arrives; a burst of no word or of more than 16 is none that the bus carries (log 12). -/
def arrival (t : Transaction) (s : State) : Host.Outcome State Fault Refusal :=
  if 1 ≤ Transaction.words t ∧ Transaction.words t ≤ Config.maxBurst then done (arrive t s)
  else .refused (.burstLength (Transaction.words t))

end Sys2Proof.Machine
end

