-- ==== Sys2Proof/Machine/AnswerCommands.lean ====
section
/-! DEFINITION. The commands of the dispatch unit. -/

namespace Sys2Proof.Machine

/-- R136: a single-word read of the TRIM window arrives. -/
def execTrimRead (m : Master) (addr : Word) (s : State) : Host.Outcome State Fault Refusal :=
  arrival (.read { master := m, addr := addr, words := 1 }) s

/-- R140: the hold timer of the held read at place `index` of the held-read list expires. -/
def execHoldExpiry (index : Nat) (s : State) : Host.Outcome State Fault Refusal :=
  done (whenRunning (fun s => match s.dispatch.held[index]? with
    | some h => settle s (expireHold h s)
    | none => s) s)

/-- R144: a single-word read of the SORT window arrives. -/
def execSortRead (m : Master) (addr : Word) (s : State) : Host.Outcome State Fault Refusal :=
  arrival (.read { master := m, addr := addr, words := 1 }) s

end Sys2Proof.Machine
end

