-- ==== Sys2Proof/Machine/BusCommands.lean ====
section
/-! DEFINITION. The commands of the bus path, the memory port, the setup shadow and the event ring. The rows of the table that name one
kind of write are arrivals like any other: what the write is follows from its address and words, and R178 to R180 judge it (log 9). -/

namespace Sys2Proof.Machine

/-- R188: a write arrives whose first byte falls in the setup window; while STARTING it is held. -/
def execSetupWriteHeld (w : BusWrite) (s : State) : Host.Outcome State Fault Refusal := arrival (.write w) s

/-- R178: a chassis transaction arrives. -/
def execChassisTransaction (t : Transaction) (s : State) : Host.Outcome State Fault Refusal := arrival t s

/-- R181, R182: memory completes the granted burst. -/
def execMemoryBurstDone (s : State) : Host.Outcome State Fault Refusal := done (completePort s)

/-- R183: a write to the setup window arrives. -/
def execSetupWrite (w : BusWrite) (s : State) : Host.Outcome State Fault Refusal := arrival (.write w) s

/-- R177: a setup write that carries a window control word arrives. -/
def execWindowEntryWrite (w : BusWrite) (s : State) : Host.Outcome State Fault Refusal := arrival (.write w) s

/-- R94: a write to the grading tables arrives. -/
def execGradingTableWrite (w : BusWrite) (s : State) : Host.Outcome State Fault Refusal := arrival (.write w) s

/-- R172: a write of the guard enable mask arrives. -/
def execGuardEnableMaskWrite (w : BusWrite) (s : State) : Host.Outcome State Fault Refusal := arrival (.write w) s

/-- R194: a write of the event class enable mask arrives. -/
def execEventClassEnableWrite (w : BusWrite) (s : State) : Host.Outcome State Fault Refusal := arrival (.write w) s

/-- R193: a write of the consumer word arrives. -/
def execConsumerWrite (w : BusWrite) (s : State) : Host.Outcome State Fault Refusal := arrival (.write w) s

/-- R17: the closing count word of a mirror or status block write completes. -/
def execMirrorWriteComplete (s : State) : Host.Outcome State Fault Refusal :=
  done (completeIf (fun _ b => closesMirror b) s)

end Sys2Proof.Machine
end

