-- ==== Sys2Proof/Machine/FrameCommands.lean ====
section
/-! DEFINITION. The commands of frame intake, the measurement unit and the trim optimizer. -/

namespace Sys2Proof.Machine

/-- R25: a write of word 0 of a frame slot arrives. -/
def execFrameHeaderWrite (w : BusWrite) (s : State) : Host.Outcome State Fault Refusal := arrival (.write w) s

/-- R26: a write of word 255 of a frame slot arrives. -/
def execTrailerWrite (w : BusWrite) (s : State) : Host.Outcome State Fault Refusal := arrival (.write w) s

/-- R30: the idle intake engine takes the head entry. -/
def execIntakeStart (s : State) : Host.Outcome State Fault Refusal := done (startIntake s)

/-- R30: the last read of an intake returns. -/
def execIntakeComplete (s : State) : Host.Outcome State Fault Refusal := done (completeIf endsIntake s)

/-- R58: the finalisation of a close ends. -/
def execCloseComplete (s : State) : Host.Outcome State Fault Refusal := done (whenRunning completeClose s)

/-- R90: a run completes. -/
def execOptimizerComplete (s : State) : Host.Outcome State Fault Refusal := done (whenRunning completeRun s)

end Sys2Proof.Machine
end

