-- ==== Sys2Proof/Machine/LineCommands.lean ====
section
/-! DEFINITION. The commands of the discrete lines: RAW_LEVEL_CHANGE, FILTER_TIMER_EXPIRY, RESET_N_ASSERT, RESET_N_RELEASE. -/

namespace Sys2Proof.Machine

/-- R2, R189: the raw level of an input changes; while RESET_N is asserted the new level is only kept (log 35). -/
def execRawLevelChange (pin : Input) (level : Bool) (order : LugOrder) (s : State) : Host.Outcome State Fault Refusal :=
  let f := s.inputs.get pin
  if s.resetAsserted then done (s.setFilter pin { f with raw := level })
  else done (filterStep pin (f.rawChange level) order s)

/-- R2: the timer of an input's filter expires. -/
def execFilterTimerExpiry (pin : Input) (order : LugOrder) (s : State) : Host.Outcome State Fault Refusal :=
  done (filterStep pin (s.inputs.get pin).expire order s)

/-- R189: RESET_N is asserted. -/
def execResetNAssert (s : State) : Host.Outcome State Fault Refusal := done (assertReset s)

/-- R189: RESET_N is released. -/
def execResetNRelease (s : State) : Host.Outcome State Fault Refusal := done (releaseReset s)

end Sys2Proof.Machine
end

