-- ==== Sys2Proof/Machine/OverrideCommands.lean ====
section
/-! DEFINITION. The commands of the override unit: the post, its read-back and, kind by kind, the judgement at which the read-back
ends (R109, R110). What each kind does stands in OverrideUnit.lean, under the rules named here. -/

namespace Sys2Proof.Machine

/-- R105: a write of word 2 of an override entry arrives. -/
def execPost (w : BusWrite) (s : State) : Host.Outcome State Fault Refusal := arrival (.write w) s

/-- R109: the idle read-back engine takes the head post. -/
def execPostReadbackStart (s : State) : Host.Outcome State Fault Refusal := done (startReadback s)

/-- R114: the read-back of a GRADE ends. -/
def execGrade (s : State) : Host.Outcome State Fault Refusal := done (completeIf (readsKind .grade) s)

/-- R115: the read-back of a TRIM ends. -/
def execTrim (s : State) : Host.Outcome State Fault Refusal := done (completeIf (readsKind .trim) s)

/-- R115: the read-back of a CHIP ends. -/
def execChip (s : State) : Host.Outcome State Fault Refusal := done (completeIf (readsKind .chip) s)

/-- R116: the read-back of a MARK ends. -/
def execMark (s : State) : Host.Outcome State Fault Refusal := done (completeIf (readsKind .mark) s)

/-- R116: the read-back of a CLEAR ends. -/
def execClear (s : State) : Host.Outcome State Fault Refusal := done (completeIf (readsKind .clear) s)

/-- R117: the read-back of a RESCAN ends. -/
def execRescan (s : State) : Host.Outcome State Fault Refusal := done (completeIf (readsKind .rescan) s)

/-- R122: the read-back of a BINEMPTY ends. -/
def execBinEmpty (s : State) : Host.Outcome State Fault Refusal := done (completeIf (readsKind .binEmpty) s)

/-- R123: the read-back of a SHIFT ends. -/
def execShift (s : State) : Host.Outcome State Fault Refusal := done (completeIf (readsKind .shift) s)

/-- R124, R170: the read-back of a ACK ends. -/
def execAck (s : State) : Host.Outcome State Fault Refusal := done (completeIf (readsKind .ack) s)

/-- R125, R171: the read-back of a ALARMTEST ends. -/
def execAlarmTest (s : State) : Host.Outcome State Fault Refusal := done (completeIf (readsKind .alarmTest) s)

/-- R128: the read-back of a SAWTEST ends. -/
def execSawTest (s : State) : Host.Outcome State Fault Refusal := done (completeIf (readsKind .sawTest) s)

/-- R126: the read-back of a LINERESET ends. -/
def execLineReset (s : State) : Host.Outcome State Fault Refusal := done (completeIf (readsKind .lineReset) s)

/-- R110: the read-back of an entry whose kind code is none of the twelve ends. -/
def execKindCodeOutOfRange (s : State) : Host.Outcome State Fault Refusal :=
  done (completeIf (endsReadback fun c => kindOfCode c == none) s)

/-- R129: the safety timer of the saw test expires. -/
def execSawTestExpiry (s : State) : Host.Outcome State Fault Refusal :=
  done (whenRunning (fun s => settle s (expireSawTest s)) s)

end Sys2Proof.Machine
end

