-- ==== Sys2Proof/Machine/StartUpCommands.lean ====
section
/-! DEFINITION. The completions of start-up and of the line reset's beginning. -/

namespace Sys2Proof.Machine

/-- R186: the load's read of address 0 returns. -/
def execFormatWordReadDone (s : State) : Host.Outcome State Fault Refusal :=
  done (completeIf (fun _ b => b.purpose == .loadFormat) s)

/-- R186: the last read of the setup image returns. -/
def execSetupReadDone (s : State) : Host.Outcome State Fault Refusal :=
  done (completeIf (fun _ b => b.purpose == .loadSetup true) s)

/-- R195: the read of the event ring header returns. -/
def execEventHeaderReadDone (s : State) : Host.Outcome State Fault Refusal :=
  done (completeIf (fun _ b => b.purpose == .eventHeader) s)

/-- R154: the read of the tally header returns. -/
def execTallyHeaderReadDone (s : State) : Host.Outcome State Fault Refusal :=
  done (completeIf (fun _ b => b.purpose == .tallyHeader) s)

/-- R187: the write of the format word while TRANSPARENT completes in memory. -/
def execFormatWordWrite (s : State) : Host.Outcome State Fault Refusal := done (completeIf writesFormatWord s)

/-- R190: the DONE write of an accepted LINERESET completes. -/
def execLineResetStart (s : State) : Host.Outcome State Fault Refusal := done (completeIf startsLineReset s)

end Sys2Proof.Machine
end

