-- ==== Sys2Proof/Machine/TallyCommands.lean ====
section
/-! DEFINITION. The completions of the tally unit's accesses. -/

namespace Sys2Proof.Machine

/-- R158: the last read of an update returns. -/
def execTallyReadsDone (s : State) : Host.Outcome State Fault Refusal :=
  done (completeIf (fun _ b => b.purpose == .tallyRead true) s)

/-- R158: the last write of an update completes. -/
def execTallyUpdateComplete (s : State) : Host.Outcome State Fault Refusal :=
  done (completeIf (fun _ b => b.purpose == .tallyWrite true) s)

/-- R162: the last zeroing burst is written. -/
def execZeroingDone (s : State) : Host.Outcome State Fault Refusal :=
  done (completeIf (fun _ b => b.purpose == .zeroing 15) s)

end Sys2Proof.Machine
end

