-- ==== Sys2Proof/Machine/Dispatch.lean ====
section
/-! DEFINITION. Every command to its meaning: one arm per constructor of Instr, one meaning per arm. -/

namespace Sys2Proof.Machine

def exec (i : Instr) (s : State) : Host.Outcome State Fault Refusal :=
  match i with
  | .rawLevelChange pin level order => Sys2Proof.Machine.execRawLevelChange pin level order s
  | .filterTimerExpiry pin order => Sys2Proof.Machine.execFilterTimerExpiry pin order s
  | .resetNAssert => Sys2Proof.Machine.execResetNAssert s
  | .resetNRelease => Sys2Proof.Machine.execResetNRelease s
  | .formatWordReadDone => Sys2Proof.Machine.execFormatWordReadDone s
  | .setupReadDone => Sys2Proof.Machine.execSetupReadDone s
  | .eventHeaderReadDone => Sys2Proof.Machine.execEventHeaderReadDone s
  | .tallyHeaderReadDone => Sys2Proof.Machine.execTallyHeaderReadDone s
  | .formatWordWrite => Sys2Proof.Machine.execFormatWordWrite s
  | .setupWriteHeld w => Sys2Proof.Machine.execSetupWriteHeld w s
  | .chassisTransaction t => Sys2Proof.Machine.execChassisTransaction t s
  | .memoryBurstDone => Sys2Proof.Machine.execMemoryBurstDone s
  | .setupWrite w => Sys2Proof.Machine.execSetupWrite w s
  | .windowEntryWrite w => Sys2Proof.Machine.execWindowEntryWrite w s
  | .gradingTableWrite w => Sys2Proof.Machine.execGradingTableWrite w s
  | .guardEnableMaskWrite w => Sys2Proof.Machine.execGuardEnableMaskWrite w s
  | .eventClassEnableWrite w => Sys2Proof.Machine.execEventClassEnableWrite w s
  | .frameHeaderWrite w => Sys2Proof.Machine.execFrameHeaderWrite w s
  | .trailerWrite w => Sys2Proof.Machine.execTrailerWrite w s
  | .intakeStart => Sys2Proof.Machine.execIntakeStart s
  | .intakeComplete => Sys2Proof.Machine.execIntakeComplete s
  | .closeComplete => Sys2Proof.Machine.execCloseComplete s
  | .optimizerComplete => Sys2Proof.Machine.execOptimizerComplete s
  | .post w => Sys2Proof.Machine.execPost w s
  | .postReadbackStart => Sys2Proof.Machine.execPostReadbackStart s
  | .grade => Sys2Proof.Machine.execGrade s
  | .trim => Sys2Proof.Machine.execTrim s
  | .chip => Sys2Proof.Machine.execChip s
  | .mark => Sys2Proof.Machine.execMark s
  | .clear => Sys2Proof.Machine.execClear s
  | .rescan => Sys2Proof.Machine.execRescan s
  | .binEmpty => Sys2Proof.Machine.execBinEmpty s
  | .shift => Sys2Proof.Machine.execShift s
  | .ack => Sys2Proof.Machine.execAck s
  | .alarmTest => Sys2Proof.Machine.execAlarmTest s
  | .sawTest => Sys2Proof.Machine.execSawTest s
  | .lineReset => Sys2Proof.Machine.execLineReset s
  | .lineResetStart => Sys2Proof.Machine.execLineResetStart s
  | .sawTestExpiry => Sys2Proof.Machine.execSawTestExpiry s
  | .trimRead m addr => Sys2Proof.Machine.execTrimRead m addr s
  | .holdExpiry index => Sys2Proof.Machine.execHoldExpiry index s
  | .sortRead m addr => Sys2Proof.Machine.execSortRead m addr s
  | .tallyReadsDone => Sys2Proof.Machine.execTallyReadsDone s
  | .tallyUpdateComplete => Sys2Proof.Machine.execTallyUpdateComplete s
  | .zeroingDone => Sys2Proof.Machine.execZeroingDone s
  | .mirrorWriteComplete => Sys2Proof.Machine.execMirrorWriteComplete s
  | .consumerWrite w => Sys2Proof.Machine.execConsumerWrite w s
  | .kindCodeOutOfRange => Sys2Proof.Machine.execKindCodeOutOfRange s

end Sys2Proof.Machine
end

