-- ==== Sys2Proof/Machine/Step.lean ====
section
/-! DEFINITION. One step: the command at the front of the queue, with the rest of the queue left in the state. -/

namespace Sys2Proof.Machine

/-- The state with this queue of waiting commands. -/
def State.withPending (s : State) (q : List Instr) : State := { s with pending := q }

/-- The command at the front of the queue is taken off it and run. On an empty queue the part idles: DESIGN CHOICE (log 7), since the
table has no row for a tick. -/
def step (s : State) : Host.Outcome State Fault Refusal := match s.pending with
  | [] => .next s
  | c :: rest => exec c (s.withPending rest)

/-- The command that the word spells, put at the front of the queue; no word spells one (log 36). -/
def State.withFetchWord (s : State) (nbits w : Nat) : State := match decodeTableWord nbits w with
  | some c => s.withPending (c :: s.pending)
  | none => s

end Sys2Proof.Machine
end

