-- ==== Sys2Proof/Safety.lean ====
section
/-! DEFINITION. What counts as a safe state of the part: the conditions that hold at reset and that every step keeps, in the terms the
claims use. -/

namespace Sys2Proof.Machine

/-- Line memory keeps its one canonical form. -/
abbrev State.memoryWf (s : State) : Prop := Memory.wf s.bus.mem

/-- The limits of the part's lists: posts (R105, R108), pending overrides (R119), held trim reads (R137), waiting sort reads (R151), tally
updates (R155), fresh entries of the intake queue (R26); and both indices of the event ring below its capacity, with a window in force
(R191, R195: the ninth law's ring). -/
structure State.WithinLimits (s : State) : Prop where
  posts : s.overrides.fifo.length ≤ Config.maxPosts
  pendings : s.overrides.waiting.length ≤ Config.maxPendingOverrides
  heldReads : s.dispatch.held.length ≤ Config.maxHeldReads
  sortReads : s.dispatch.waiting.length ≤ Config.maxSortWaiting
  updates : s.tally.queue.length ≤ Config.tallyQueueLimit
  fresh : freshCount s ≤ Config.maxFresh
  ring : ∀ r, s.events.ring = some r →
    ∃ w, s.window .event = some w ∧ r.producer < ringCapacity w ∧ r.consumer < ringCapacity w

/-- Every table of the part keeps its number of places. -/
structure State.Sized (s : State) : Prop where
  records : s.tracker.records.length = Config.recordSlots
  areas : s.tracker.areas.length = Config.recordSlots + 1
  words : s.shadow.words.length = Config.setupWords
  entries : s.shadow.entries.length = 16
  tables : s.intake.tables.length = Config.heads
  trims : s.overrides.trimEntries.length = Config.recordSlots
  bins : s.dispatch.counts.length = 16
  flags : s.lineGuard.flags.length = 6

/-- The output lines stand at the levels that R101, R172 and R194 give for the state. -/
def State.pinsFollow (s : State) : Prop :=
  s.outputs = { lskip := lskipLevel s, almout := almoutLevel s, attn := attnLevel s }

/-- The record table between steps (R5): the record of slot k has a lug that is k mod 32, and stands at a position from 0 to 30. -/
def State.RecordsPlaced (s : State) : Prop :=
  ∀ k, k < Config.recordSlots → (s.record k).live = true →
    slotOf (s.record k).lug = k ∧ position s.tracker.lug (s.record k).lug ≤ 30

/-- The decision queue names QUEUED records, each at most once (R86). -/
def State.QueueAgrees (s : State) : Prop :=
  (s.optimizer.queue.map fun e => e.slot).Nodup ∧
    ∀ e ∈ s.optimizer.queue, e.slot < Config.recordSlots ∧ (s.record e.slot).state = .queued

/-- The decision queue stands by age (R86, R87): every QUEUED record has its entry, an entry carries the lug of its record, and each
stands behind entries of greater position only. -/
structure State.QueueByAge (s : State) : Prop where
  lugs : ∀ e ∈ s.optimizer.queue, e.lug = (s.record e.slot).lug
  older : s.optimizer.queue.Pairwise fun e f => position s.tracker.lug f.lug < position s.tracker.lug e.lug
  named : ∀ k, k < Config.recordSlots → (s.record k).state = .queued → ∃ e ∈ s.optimizer.queue, e.slot = k

/-! ### What a command meets: the premises of the claims -/

/-- The chassis transaction that a command brings, for the commands that are arrivals. -/
def arrivalOf : Instr → Option Transaction
  | .setupWriteHeld w | .setupWrite w | .windowEntryWrite w | .gradingTableWrite w | .guardEnableMaskWrite w
  | .eventClassEnableWrite w | .frameHeaderWrite w | .trailerWrite w | .post w | .consumerWrite w => some (.write w)
  | .chassisTransaction t => some t
  | .trimRead m a | .sortRead m a => some (.read { master := m, addr := a, words := 1 })
  | .rawLevelChange _ _ _ | .filterTimerExpiry _ _ | .resetNAssert | .resetNRelease | .formatWordReadDone | .setupReadDone
  | .eventHeaderReadDone | .tallyHeaderReadDone | .formatWordWrite | .memoryBurstDone | .intakeStart | .intakeComplete
  | .closeComplete | .optimizerComplete | .postReadbackStart | .grade | .trim | .chip | .mark | .clear | .rescan | .binEmpty
  | .shift | .ack | .alarmTest | .sawTest | .lineReset | .lineResetStart | .sawTestExpiry | .holdExpiry _ | .tallyReadsDone
  | .tallyUpdateComplete | .zeroingDone | .mirrorWriteComplete | .kindCodeOutOfRange => none

/-- The transaction arrives while the part is RUNNING, passes the checks of R178 to R180 and is classified to `r`. -/
structure Admitted (s : State) (t : Transaction) (r : Region) : Prop where
  released : s.resetAsserted = false
  running : s.shadow.part = .running
  shortest : 1 ≤ Transaction.words t
  longest : Transaction.words t ≤ Config.maxBurst
  passes : accessCause s.shadow s.tally t = none
  region : firstRegion s.shadow.entries t = r

/-- The answer to the transaction that arrives now: one word of data, or an error response. -/
def wordAnswer (s : State) (m : Master) (w : Word) : Answer := { txn := s.bus.nextTxn, master := m, reply := .data [w] }

def errorAnswer (s : State) (m : Master) : Answer := { txn := s.bus.nextTxn, master := m, reply := .error }

/-- A write of one full word. -/
def oneWord (m : Master) (addr data : Word) : BusWrite := { master := m, addr := addr, beats := [Beat.full data] }

/-- The port holds the read-back of the head post `p`, and memory holds the entry's words 0, 1 and 2 (R109). -/
structure ReadbackReturns (s : State) (p : Post) (rest : List Post) (w0 w1 w2 : Word) : Prop where
  port : s.bus.port = some (readBurst p.addr 3 .overrideRead)
  words : Memory.readWords s.bus.mem p.addr.toNat 3 = [w0, w1, w2]
  reading : s.overrides.readback = .reading
  head : s.overrides.fifo = p :: rest

/-- The command that ends the read-back of a post of the kind. -/
def commandOf : OverrideKind → Instr
  | .grade => .grade
  | .trim => .trim
  | .chip => .chip
  | .mark => .mark
  | .clear => .clear
  | .rescan => .rescan
  | .binEmpty => .binEmpty
  | .shift => .shift
  | .ack => .ack
  | .alarmTest => .alarmTest
  | .sawTest => .sawTest
  | .lineReset => .lineReset

/-- The read-back returns an entry that stands as it was posted, of this kind, with key and argument in range (R110). -/
structure EntryStands (s : State) (p : Post) (rest : List Post) (w0 w1 w2 : Word) (kind : OverrideKind) : Prop where
  returns : ReadbackReturns s p rest w0 w1 w2
  marker : postMarker w2 = true
  tag : postTag w2 = p.tag
  isKind : kindOfCode (entryKindCode w0) = some kind
  inRange : argOutOfRange kind (entryKey w0) w1 = false

/-- The override is judged against the uncommitted live record of slot `k` (R112, first case). -/
structure Judged (s : State) (w0 : Word) (k : Nat) : Prop where
  slot : slotOf (lugTag w0) = k
  near : position s.tracker.lug (lugTag w0) < commitPosition s.shadow.words
  live : (s.record k).live = true
  lug : (s.record k).lug = lugTag w0
  uncommitted : (s.record k).committed = false

/-- The last access a state has in its internal stream is the write of this result word (R111). -/
def resultIssued (s : State) (p : Post) (code : ResultCode) : Prop :=
  ∃ purpose, s.bus.internal.getLast? = some (resultBurst p.addr p.tag code purpose)

/-- Record slots other than `k` that hold no QUEUED record are as they were (a QUEUED one may be taken by the idle optimizer, R89). -/
def othersKept (s t : State) (k : Nat) : Prop :=
  ∀ j, j < Config.recordSlots → j ≠ k → (s.record j).state ≠ .queued → t.record j = s.record j

/-- The record table and the decision queue are as every step leaves them. -/
structure State.TableSound (s : State) : Prop where
  sized : s.Sized
  placed : s.RecordsPlaced
  queue : s.QueueAgrees
  aged : s.QueueByAge

/-- The burst by which a transaction that passes joins the through stream; while TRANSPARENT a write of the format word is watched. -/
def passedBurst (s : State) (x : Transaction) : Burst :=
  { addr := Transaction.addr x, access := Transaction.access x,
    purpose := .chassis s.bus.nextTxn (Transaction.master x) (s.shadow.part == .transparent && (match x with
      | .write w => carriesFormatWord w
      | .read _ => false)) }

/-- The command brings a write of one full word at byte offset `off` of window `j`, of this kind, and the write passes the checks. -/
structure WritesWindow (s : State) (c : Instr) (kind : WindowKind) (j off : Nat) (m : Master) (d : Word) : Prop where
  arrives : arrivalOf c = some (.write (oneWord m (windowAddr (entryAt s.shadow.entries j) off) d))
  admitted : Admitted s (.write (oneWord m (windowAddr (entryAt s.shadow.entries j) off) d)) (.window j)
  isKind : (entryAt s.shadow.entries j).kind = kind

/-- The command brings a single-word read of answered word `k` of window `j`, of this kind, and the read passes the checks. -/
structure ReadsSlot (s : State) (c : Instr) (kind : WindowKind) (j k : Nat) (m : Master) : Prop where
  arrives : arrivalOf c =
    some (.read { master := m, addr := windowAddr (entryAt s.shadow.entries j) (4 * k), words := 1 })
  admitted : Admitted s (.read { master := m, addr := windowAddr (entryAt s.shadow.entries j) (4 * k), words := 1 }) (.window j)
  isKind : (entryAt s.shadow.entries j).kind = kind
  below : k < Config.recordSlots

/-- The port holds the last read of an intake (R30), and `e` is the engine with what that read returns: the last burst of slices, or
word 255 of a frame whose intake reads no slice. -/
def IntakeEnds (s : State) (e : IntakeRun) : Prop :=
  ∃ b g, s.bus.port = some b ∧ s.intake.engine = some g ∧
    ((∃ n, b.purpose = .frameSlices true ∧ b.access = .read n ∧
        e = { g with slices := g.slices ++ Memory.readWords s.bus.mem b.addr.toNat n }) ∨
      (b.purpose = .frameTrailer ∧ b.access = .read 1 ∧ e = { g with trailer := Memory.readWord s.bus.mem b.addr.toNat } ∧
        noSliceReads g e.trailer = true))

/-- An access that an engine issues behind a change: one of a mirror or status block write (R16), or a read of a tally update (R158). -/
def EngineAccess (b : Burst) : Prop := (∃ k closing, b.purpose = .mirror k closing) ∨ ∃ last, b.purpose = .tallyRead last

/-- The idle optimizer is as it was, or has taken the head of its queue, with the tables and the record as they stand (R89). -/
def OptimizerTakes (s t : State) : Prop :=
  t.optimizer = s.optimizer ∨ ∃ e rest, s.optimizer.run = none ∧ s.optimizer.queue = e :: rest ∧
    t.optimizer = { queue := rest, run := some { slot := e.slot, lug := e.lug, record := s.record e.slot, tables := s.shadow.words } }

/-- A judgement has changed nothing but the post FIFO and the read-back engine: its result word and event aside, the post has had no
effect. (A QUEUED record may meanwhile be taken by the idle optimizer, R89, and the oldest update by the idle update engine, R156.) -/
structure OnlyAnswered (s t : State) : Prop where
  inputs : t.inputs = s.inputs
  released : t.resetAsserted = s.resetAsserted
  lug : t.tracker.lug = s.tracker.lug
  ever : t.tracker.everRan = s.tracker.everRan
  records : ∀ j, j < Config.recordSlots → (s.record j).state ≠ .queued → t.record j = s.record j
  shadow : t.shadow = s.shadow
  intake : t.intake = s.intake
  measure : t.measure = s.measure
  optimizer : OptimizerTakes s t
  skip : t.skip = s.skip
  waiting : t.overrides.waiting = s.overrides.waiting
  trims : t.overrides.trimEntries = s.overrides.trimEntries
  saws : t.overrides.sawMask = s.overrides.sawMask ∧ t.overrides.sawTimer = s.overrides.sawTimer
  dispatch : t.dispatch = s.dispatch
  tally : t.tally = { s.tally with engine := t.tally.engine }
  lineGuard : t.lineGuard = s.lineGuard
  mem : t.bus.mem = s.bus.mem
  through : t.bus.through = s.bus.through
  answers : t.bus.answers = s.bus.answers

/-- A judgement has written no event: the event writer is as it was, and of the judgement one access goes out, the last, behind those of
the engines. -/
def NoEvent (s t : State) : Prop :=
  t.events = s.events ∧ ∃ more last, t.bus.internal = s.bus.internal ++ more ++ [last] ∧ ∀ b ∈ more, EngineAccess b

/-- Nothing of the part has moved between a state and a later one of the same step but the engines of Chapters 5 and 8 and what they write:
the idle optimizer may have taken the head of the decision queue (R89) and the idle update engine the oldest update (R156). -/
structure OnlyEngines (s t : State) : Prop where
  inputs : t.inputs = s.inputs
  released : t.resetAsserted = s.resetAsserted
  shadow : t.shadow = s.shadow
  lug : t.tracker.lug = s.tracker.lug
  records : s.TableSound → othersKept s t 32
  intake : t.intake = s.intake
  measure : t.measure = s.measure
  optimizer : OptimizerTakes s t
  skip : t.skip = s.skip
  overrides : t.overrides = s.overrides
  dispatch : t.dispatch = s.dispatch
  tally : t.tally = { s.tally with engine := t.tally.engine }
  lineGuard : t.lineGuard = s.lineGuard
  mem : t.bus.mem = s.bus.mem

/-- The events are handed to the event writer in this order (R192). -/
def emitAll (es : List Event) (s : State) : State := es.foldl (fun s e => emit e s) s

/-- These events, and no others, have been handed to the event writer in this order (R192): its flags and indices are what that makes of
them, and the accesses it issues stand, in order, among those that the change has put behind the internal stream. -/
structure EventsWritten (es : List Event) (s t : State) : Prop where
  writer : t.events = (emitAll es s).events
  accesses : ∃ own added, (emitAll es s).bus.internal = s.bus.internal ++ own ∧ t.bus.internal = s.bus.internal ++ added ∧
    own.Sublist added

/-- Event FALLBACK of the retire of record slot `k`, holding `r`, if it answers held trim reads (R142, R152). -/
def fallbackEvents (s : State) (k : Nat) (r : Record) : List Event :=
  if hasHeld s k then
    [event .dispatch 2 r.lug (single r.state.code) (single (fallbackPass s.shadow.words).toNat)]
  else []

/-- The events of the retire of record slot `k`, holding `r`, at position 31 (R12, R22, R142, R155): TALLY_LOST when the tally queue has no
room, UNSORTED, and FALLBACK when held trim reads are answered. -/
def retireEvents (s : State) (k : Nat) (r : Record) : List Event :=
  (if s.tally.queue.length < 64 then [] else [event .tally 3 r.lug (single s.tally.bank.toNat) 0]) ++
    event .line 1 r.lug 0 0 :: fallbackEvents s k r

/-- The events of a lug event that takes `s` to `t`: FLAG_LATCHED for each flag whose latch has gone from clear to set (R168, R174; how
detail A names the flag is log 42), before or after the events of a retire as the guard takes the event (R166; log 18). -/
def lugEvents (o : LugOrder) (s t : State) : List Event :=
  let latched := ((List.range 6).filter fun i => (t.flag i).latched && !(s.flag i).latched).map fun i =>
    event .guard 1 t.tracker.lug (single i) (pair (persistence s.shadow.words i) (t.flag i).counter)
  let retired := ((List.range 32).filter fun k => (s.record k).live && position s.tracker.lug (s.record k).lug == 30).flatMap fun k =>
    retireEvents s k (s.record k)
  if o.guardFirst then latched ++ retired else retired ++ latched

/-- Event TRIM_RANGE of a forced decision made from `r`, when its forced trim reaches beyond the board (R78). -/
def trimRangeEvents (r : Record) : List Event := match r.forcedTrim with
  | some (a, b) => if r.present < b then [event .decision 4 r.lug (pair a b) (single r.present)] else []
  | none => []

/-- The events of a sort answer that retires slot `k`, holding `r`, with this bin and status (R146, R147, R150, R152): NO_BIN for a PIECE
without a bin, BIN_FULL when the count reaches the capacity of a bin that is not exempt, UNTRIMMED for a record not DISPATCHED, and
FALLBACK. That detail B of UNTRIMMED is the outcome code of the record's decision, or 0, is log 26. -/
def sortEvents (s : State) (k : Nat) (r : Record) (bin : Nat) (status : SortStatus) : List Event :=
  (match r.decision with
    | some d => if r.state = .dispatched ∧ d.verdict = .piece ∧ status = .reject then
        [event .dispatch 3 r.lug (pair d.grade (d.b - d.a)) (single (fullMatching s d.grade (d.b - d.a)).toNat)] else []
    | none => []) ++
  (if status = .sorted ∧ bin ≠ rejectBin s.shadow.words ∧ bin ≠ remanBin s.shadow.words ∧
      binCapacity s.shadow.words bin ≤ min (s.dispatch.counts.getD bin 0 + 1) 65535 then
    [event .dispatch 4 r.lug (single bin) (single (binCapacity s.shadow.words bin))] else []) ++
  (if r.state = .dispatched then [] else
    [event .dispatch 5 r.lug (single r.state.code) (single ((r.decision.map fun d => d.verdict.code).getD 0))]) ++
  fallbackEvents s k r

/-- The header write of the tally unit `t`, and the first zeroing burst of a swap whose zeroing has not ended, with TALLY window `w` in
force; without one neither is written (R154, R161, R163). -/
def tallyWrites (t : Tally) (w : Option WindowEntry) : List Burst := match w with
  | some e => writeBurst (windowAddr e 0) [tallyHeaderWord t] .plain :: (match t.swap with
    | some x => if x.zeroing = .ended then [] else
        [writeBurst (BitVec.ofNat 32 (e.start + 256 + 1024 * t.bank.toNat)) (List.replicate 16 0) (.zeroing 0)]
    | none => [])
  | none => []

/-- A swap taken up in TALLY window `w`: a zeroing not ended begins from its first burst, or waits for a window (R163, R164). -/
def resumed (w : Option WindowEntry) (x : Swap) : Swap :=
  if x.zeroing = .ended then x else { x with zeroing := match w with
    | some e => .running e.start
    | none => .waiting }

/-- The events of the entry to RUNNING (R186, R196): START with the format word and the cause, LINE_RESET after a line reset, and one
SETUP_ERR for each enabled entry ignored and for each field clamped. -/
def entryEvents (lug : Lug) (ws : List Word) (es : List WindowEntry) (cause : StartCause) (reset : Option ResetReport) : List Event :=
  event .line 2 lug (setupWord ws 0) (single cause.code) ::
    (reset.toList.map (fun r => event .line 3 lug (single r.master.toNat) (pair r.posts r.pendings)) ++
      (ignoredByLoad es).map (fun p => event .setup 2 lug (wordOf [place p.1 0 31, placeBit true 31]) (single p.2)) ++
      (clampedByLoad ws).map (fun n => event .setup 2 lug (single (4 * n)) (single (inUse ws n))))

/-- The part has entered RUNNING and every block has taken its entry work (R186): `z` follows from the state `s` in which the load's last
read stood at the port. Slot tables all FREE (R24), filter times of the setup (R3); the status block, and at the first entry since
power-on every FREE mirror, begun or noted in the RECORD window in force (R15, R17, R19). -/
structure EntryWork (s z : State) : Prop where
  running : z.shadow.part = .running
  load : z.shadow.load = none
  held : z.shadow.held = []
  report : z.shadow.report = none
  ever : z.tracker.everRan = true
  tables : ∀ h, h < Config.heads → z.intake.tables.getD h none =
    (frameWindow z.shadow.entries h).map fun w => List.replicate (frameSlots w) .free
  times : ∀ p, z.inputs.get p = { s.inputs.get p with time := filterTime z.shadow.words p }
  status : s.tracker.areas.length = 33 → z.window .record ≠ none → (z.area 32).pub ≠ .idle
  images : s.tracker.areas.length = 33 → z.window .record ≠ none → s.tracker.everRan = false → ∀ k, k < 32 → (z.area k).pub ≠ .idle
  records : s.TableSound → othersKept s z 32
  lug : z.tracker.lug = s.tracker.lug
  others : z.overrides = s.overrides ∧ z.dispatch = s.dispatch ∧ z.lineGuard = s.lineGuard ∧ z.skip = s.skip ∧ z.measure = s.measure
  bus : z.bus.mem = s.bus.mem ∧ z.bus.through = s.bus.through ∧ z.bus.answers = s.bus.answers

/-- The tally unit at the entry to RUNNING, but for an idle update engine that takes up work (R154, R164): `z` follows from the state `s`
in which the load's last read stood at the port. After a line reset that began without a TALLY window it keeps what it held, and a kept
swap resumes in a window now in force; otherwise it has power-on values without a window, and with one what the load read before. -/
structure EntryTally (s z : State) : Prop where
  kept : s.tally.kept = true →
    z.tally = { s.tally with kept := false, engine := z.tally.engine, swap := s.tally.swap.map (resumed (z.window .tally)) }
  absent : s.tally.kept = false → z.window .tally = none →
    z.tally = { s.tally with engine := z.tally.engine, bank := false, swap := none, saturated0 := false, saturated1 := false }
  read : s.tally.kept = false → z.window .tally ≠ none → z.tally = { s.tally with engine := z.tally.engine }

/-- What a load that ends in RUNNING leaves: behind the entry work `z` come its events (R186), and then the held writes, each judged as a
write arriving now, in order of arrival (R188). -/
def afterEntry (s z : State) (cause : StartCause) : State :=
  s.shadow.held.foldl (fun x h => judge h.txn (.write h.write) x)
    (emitAll (entryEvents z.tracker.lug z.shadow.words z.shadow.entries cause s.shadow.report) z)

/-- A line reset goes on from `x` once the tally unit's work is done (R15, R190): the accesses `more` are the STARTING image of the status
block and behind it the load's first read, and the load has begun. Without a RECORD window there is no image; while a status block write
is outstanding the image, and the load behind it, wait for its end (log 20). -/
structure ResetProceeds (x y : State) (more : List Burst) : Prop where
  bare : x.window .record = none → more = [readBurst 0 1 .loadFormat]
  image : ∀ w, x.window .record = some w → (x.area 32).pub = .idle →
    more = mirrorBursts w 32 (x.area 32).count (statusBody y) ++ [readBurst 0 1 .loadFormat]
  waits : x.window .record ≠ none → (x.area 32).pub ≠ .idle →
    more = [] ∧ y.shadow.phase = .statusDue ∧ y.shadow.load = x.shadow.load ∧ y.events = x.events
  begun : (x.window .record = none ∨ (x.area 32).pub = .idle) → y.shadow.phase = .none ∧
    y.shadow.load = some { cause := .lineReset, words := [], awaitEvent := false, awaitTally := false } ∧
    y.events = { ring := none, overflow := false, classes := 0 }

/-- The window the transaction's first byte lies in, by index and entry in force. -/
def InWindow (sh : Shadow) (x : Transaction) (i : Nat) (e : WindowEntry) : Prop :=
  firstRegion sh.entries x = .window i ∧ e = entryAt sh.entries i

/-- The transaction has a word of its own at this byte offset of its window. -/
def HasWordAt (x : Transaction) (e : WindowEntry) (off : Nat) : Prop :=
  ∃ a ∈ ownWords (Transaction.addr x) (Transaction.words x), off = a - e.start

/-- The transaction fails the check (the table of R180, by R178, R179, R133, R153, R191), whatever the others say. -/
def Fails (sh : Shadow) (ty : Tally) (x : Transaction) : AccessCause → Prop
  | .span => ∃ r ∈ regionsOf sh.entries x, r ≠ firstRegion sh.entries x
  | .align => firstRegion sh.entries x ≠ .outside ∧ (Transaction.addr x).toNat % 4 ≠ 0
  | .mask =>
    (firstRegion sh.entries x = .setup ∧ Transaction.isWrite x = true ∧
      (setupWord sh.words 1).getLsbD (Transaction.master x).toNat = false) ∨
    ∃ i e, InWindow sh x i e ∧
      e.control.getLsbD ((if Transaction.isWrite x then 16 else 8) + (Transaction.master x).toNat) = false
  | .partial_ => (∃ b ∈ Transaction.beats x, b.enables ≠ 0xF#4 ∧ b.enables ≠ 0#4) ∧
    (firstRegion sh.entries x = .setup ∨ ∃ i e off, InWindow sh x i e ∧ HasWordAt x e off ∧
      ((e.kind = .frame ∧ off / 1024 < frameSlots e ∧ (off % 1024 = 0 ∨ off % 1024 = 1020)) ∨
        (e.kind = .override ∧ off / 16 < overrideEntries e ∧ off % 16 = 8) ∨ (e.kind = .event ∧ off = 4)))
  | .owned => Transaction.isWrite x = true ∧ ∃ i e off, InWindow sh x i e ∧ HasWordAt x e off ∧
    ((e.kind = .record ∧ off < 8448) ∨
      (e.kind = .tally ∧ (off < 256 ∨ (256 + 1024 * ty.bank.toNat ≤ off ∧ off < 1280 + 1024 * ty.bank.toNat))) ∨
      (e.kind = .event ∧ off < 16 + 16 * ringCapacity e ∧ off ≠ 4) ∨ ((e.kind = .trim ∨ e.kind = .sort) ∧ off < 128))
  | .burst => Transaction.isWrite x = false ∧ 2 ≤ Transaction.words x ∧ ∃ i e off, InWindow sh x i e ∧ HasWordAt x e off ∧
    (e.kind = .trim ∨ e.kind = .sort) ∧ off < 128
  | .range => ∃ w i e a b, x = .write w ∧ InWindow sh x i e ∧ e.kind = .event ∧ (a, b) ∈ carried w ∧ a - e.start = 4 ∧
    Beat.isFull b = true ∧ ringCapacity e ≤ b.data.toNat

/-- The entry is enabled and valid (R177): base at or below limit, the minimum size of its kind, and for FRAME a head from 0 to 5. -/
def EnabledAndValid (e : WindowEntry) : Prop :=
  e.control.getLsbD 31 = true ∧ e.start ≤ e.top ∧ (e.kind = .frame → e.head ≤ 5) ∧
    (match e.kind with
      | .record => 8448
      | .tally => 2304
      | .frame => 2048
      | .event => 272
      | .trim => 128
      | .sort => 128
      | .override => 64
      | .guarded => 4) ≤ e.top + 4 - e.start

/-- Head `h` loses its slot table at a change of the entries in force from `old` to `new`: a FRAME window was in force for it, and now is
another entry, has another base or limit, or is gone (R41). -/
def losesTable (old new : List WindowEntry) (h : Nat) : Bool :=
  decide (h < Config.heads) && (frameKey old h).isSome && frameKey old h != frameKey new h

/-- The write carries word `n` of the setup image as a full word that holds a field. -/
def Carries (w : BusWrite) (n : Nat) : Prop := ∃ b, (4 * n, b) ∈ carried w ∧ Beat.isFull b = true ∧ holdsField n = true

/-- Beat `b` of the write is word `n` of frame slot `i` of the FRAME window `e` (R23). -/
def SlotWord (e : WindowEntry) (w : BusWrite) (i n : Nat) (b : Beat) : Prop :=
  i < frameSlots e ∧ n < 256 ∧ ∃ a, (a, b) ∈ carried w ∧ a - e.start = 1024 * i + 4 * n

/-- Beat `b` of the write is word `n` of entry `i` of the OVERRIDE window `e` (R104). -/
def EntryWord (e : WindowEntry) (w : BusWrite) (i n : Nat) (b : Beat) : Prop :=
  i < overrideEntries e ∧ n < 4 ∧ ∃ a, (a, b) ∈ carried w ∧ a - e.start = 16 * i + 4 * n

/-- The posts that a write of an OVERRIDE window makes, one for each post word it carries, in ascending address order (R105, R107). -/
def postsMade (e : WindowEntry) (w : BusWrite) (txn : Nat) : List Post :=
  (carried w).filterMap fun c =>
    if (c.1 - e.start) / 16 < overrideEntries e ∧ (c.1 - e.start) % 16 / 4 = 2 ∧ Beat.isFull c.2 = true ∧ postMarker c.2.data = true then
      some { addr := windowAddr e (16 * ((c.1 - e.start) / 16)), index := (c.1 - e.start) / 16
             tag := BitVec.ofNat 15 (c.2.data.toNat % 32768), master := w.master, awaiting := some txn }
    else none

/-- The bin and status of the sort answer for live record `r` with the bins as `s` holds them (the table of Chapter 7, The Sort Answer;
R145, R146), and the key of its retire with whether it counts forced (R149). The sixth law is `piece`. -/
structure SortOutcome (s : State) (r : Record) (bin : Nat) (status : SortStatus) (key : TallyKey) (forced : Bool) : Prop where
  untrimmed : r.state ≠ .dispatched → bin = rejectBin s.shadow.words ∧ status = .untrimmed ∧ key = .untrimmed ∧ forced = false
  reject : ∀ d, r.state = .dispatched → r.decision = some d → d.verdict = .reject →
    bin = rejectBin s.shadow.words ∧ status = .reject
  fallback : ∀ d, r.state = .dispatched → r.decision = some d → d.verdict = .fallback →
    bin = remanBin s.shadow.words ∧ status = .reman
  piece : ∀ d, r.state = .dispatched → r.decision = some d → d.verdict = .piece →
    (status = .sorted ∧ bin < 16 ∧ binMatches s.shadow.words bin d.grade (d.b - d.a) = true ∧ binFull s bin = false ∧
      ∀ b, b < bin → binMatches s.shadow.words b d.grade (d.b - d.a) = true → binFull s b = true) ∨
    (status = .reject ∧ bin = rejectBin s.shadow.words ∧
      ∀ b, b < 16 → binMatches s.shadow.words b d.grade (d.b - d.a) = true → binFull s b = true)
  key : ∀ d, r.state = .dispatched → r.decision = some d →
    (r.fallback = true → key = .fallback ∧ forced = false) ∧
    (r.fallback = false → d.verdict = .reject → key = .reject ∧ forced = r.forced) ∧
    (r.fallback = false → d.verdict = .piece → key = .piece d.grade (d.b - d.a) ∧ forced = r.forced)

/-- The answers that a retire of record slot `k`, holding record `r`, gives to the trim reads held for it (R142). -/
def fallbackAnswers (s : State) (k : Nat) (r : Record) : List Answer :=
  (s.dispatch.held.filter fun h => h.slot == k).map fun h =>
    { txn := h.txn, master := h.master
      reply := .data [trimWord (if fallbackPass s.shadow.words then 0#13 else 0x1FFF#13) .fallback r.lug] }

/-- The counters that an update raises, as words of its bank, each with its amount (R157, R205): boards in word 208, entry (g, n) of the
grade table in words 2 (13 g + n) and up, fallbacks, untrimmed and unsorted in 209 to 211, forced in 212. -/
def countersRaised (u : TallyUpdate) : List (Nat × Nat) :=
  (208, 1) :: ((match u.key with
    | .piece g n => [(2 * (13 * g + n), 1), (2 * (13 * g + n) + 1, n * 610)]
    | .reject => [(182, 1), (183, 0)]
    | .fallback => [(209, 1)]
    | .untrimmed => [(210, 1)]
    | .unsorted => [(211, 1)]) ++ if u.forced then [(212, 1)] else [])

/-- The words a write burst carries, each with its byte address. -/
def wordsWritten (b : Burst) : List (Word × Word) := match b.access with
  | .write beats => (List.range beats.length).map fun i =>
    (b.addr + BitVec.ofNat 32 (4 * i), (beats.map Beat.data).getD i 0)
  | .read _ => []

/-- Frame slot `i` of head `h` is accounted for: its frame waits fresh in the intake queue, or it is named in the held-slot list of a live
record (R38). -/
def SlotAccounted (s : State) (h i : Nat) : Prop :=
  (∃ e ∈ s.intake.queue, e.head = h ∧ e.slot = i ∧ e.kind = .fresh) ∨
    ∃ k, k < Config.recordSlots ∧ (s.record k).live = true ∧ (h, i) ∈ (s.record k).held

/-- A read-back entry's lug and slot: the live record of that lug names the slot in its held-slot list (R39). -/
def ReadsBack (s : State) (lug : Lug) (p : Nat × Nat) : Prop :=
  (s.record (slotOf lug)).live = true ∧ (s.record (slotOf lug)).lug = lug ∧ p ∈ (s.record (slotOf lug)).held

/-- The intake engine holds no frame of the queue: it is idle, or runs out reads whose entry has left. -/
def engineFree (s : State) : Prop := ∀ g, s.intake.engine = some g → g.dropped = true

/-- The eleventh law between steps, with what it rests on: `held` is the law; the rest says which slots the queue, the engine and the
held-slot lists name, that a RUNNING part has the slot tables of its FRAME windows, and that a part in start-up has none of it. -/
structure State.FrameSlotsSound (s : State) : Prop where
  table : s.TableSound
  held : ∀ h i, frameSlot s h i = some .held → SlotAccounted s h i
  fresh : ∀ e ∈ s.intake.queue, e.kind = .fresh → frameSlot s e.head e.slot = some .held ∧
    ∀ k, k < Config.recordSlots → (s.record k).live = true → e.key ∉ (s.record k).held
  listed : ∀ k, k < Config.recordSlots → (s.record k).live = true →
    ∀ p ∈ (s.record k).held, frameSlot s p.1 p.2 = some .held
  apart : ∀ j k p, j < Config.recordSlots → k < Config.recordSlots → (s.record j).live = true → (s.record k).live = true →
    p ∈ (s.record j).held → p ∈ (s.record k).held → j = k
  readBacks : ∀ e ∈ s.intake.queue, ∀ lug, e.kind = .readBack lug → ReadsBack s lug e.key
  engine : ∀ g, s.intake.engine = some g → g.dropped = false →
    (g.kind = .fresh → ∃ e ∈ s.intake.queue, e.key = (g.head, g.slot) ∧ e.kind = .fresh) ∧
    ∀ lug, g.kind = .readBack lug → ReadsBack s lug (g.head, g.slot)
  windows : s.shadow.part = .running → ∀ h, h < Config.heads →
    (s.intake.tables.getD h none).map List.length = (frameWindow s.shadow.entries h).map frameSlots
  loading : s.shadow.load ≠ none → s.shadow.part = .starting
  startUp : s.shadow.load ≠ none ∨ (s.shadow.part ≠ .running ∧ s.resetAsserted = false) →
    s.intake.queue = [] ∧ engineFree s ∧ ∀ k, k < Config.recordSlots → (s.record k).live = false

/-! ### Close marks -/

/-- R37, R55: the entries `gone` leave the intake queue `q` in one change. The mark of a close that awaits its frames stays on an entry
that stays; from one that leaves it passes to the nearest entry ahead that stays; and when none ahead stays, the frames are taken
in: the close goes to FINALISING, the closes of one change in order of position, greatest first. The other closes stay. -/
def MarksPassed (q : List IntakeEntry) (gone : IntakeEntry → Bool) (lug : Lug) (m m' : Measure) : Prop :=
  ∃ (pass : Close → Option (Nat × Nat)) (taken : List Close),
    m'.awaiting = m.awaiting.filterMap (fun x => (pass x).map fun k => { x with mark := some k }) ∧
    m'.finalising = m.finalising ++ taken ∧
    taken.Perm ((m.awaiting.filter fun x => (pass x).isNone).map fun x => { x with mark := none }) ∧
    taken.Pairwise (fun x y => position lug y.lug ≤ position lug x.lug) ∧
    ∀ x ahead e behind, x.mark = some e.key → q = ahead ++ e :: behind → (∀ f ∈ ahead, f.key ≠ e.key) →
      (gone e = false → pass x = some e.key) ∧
      (gone e = true → (∀ f ∈ ahead, gone f = true) → pass x = none) ∧
      ∀ before f between, gone e = true → ahead = before ++ f :: between → gone f = false →
        (∀ g ∈ between, gone g = true) → pass x = some f.key

/-- A retire of record slot `k`, holding `r`, as it reaches the intake queue and the close list (R12, R38, R60): the record's close ends,
and read-back entries of its held slots leave the queue with their marks passed on. -/
def RetireLeaves (s : State) (k : Nat) (r : Record) (lug : Lug) (q : List IntakeEntry) (m : Measure) : Prop :=
  ∃ gone : IntakeEntry → Bool, (∀ e, gone e = true ↔ e.key ∈ r.held ∧ e.kind ≠ .fresh) ∧
    q = s.intake.queue.filter (fun e => !gone e) ∧ ∃ m0 : Measure,
      m0.awaiting = s.measure.awaiting.filter (fun x => x.slot != k) ∧
      m0.finalising = s.measure.finalising.filter (fun x => x.slot != k) ∧
      (r.held = [] → m = m0) ∧ (r.held ≠ [] → MarksPassed s.intake.queue gone lug m0 m)

/-! ### Layouts, bit by bit -/

/-- Body words 1 to 63 of a record mirror (R203), each as the number its named bits make; every other bit is 0 (R197). The value bits of
an absent forced grade or forced trim are 0 by the model's choice (log 44). -/
structure MirrorLayout (r : Record) (w : Nat → Word) : Prop where
  lug : (w 1).toNat = r.lug.toNat + 2 ^ 16 * r.state.code
  flags : (w 2).toNat = r.committed.toNat + 2 * r.forced.toNat + 4 * r.fallback.toNat + 8 * r.untrimmed.toNat + 16 * r.long.toNat +
    32 * r.short.toNat + 64 * r.rescanFailed.toNat + 2 ^ 8 * r.contributed.toNat + 2 ^ 16 * r.silent.toNat
  length : (w 3).toNat = r.length % 8192 + 2 ^ 16 * (r.present % 16)
  parts : (w 4).toNat = (match r.forcedGrade with
      | some g => g % 8 + 2 ^ 31
      | none => 0) + (match r.forcedTrim with
      | some (a, b) => 2 ^ 8 * (a % 16) + 2 ^ 12 * (b % 16) + 2 ^ 30
      | none => 0) + 2 ^ 29 * r.chip.toNat + 2 ^ 16 * r.marks.toNat
  absent : r.decision = none → w 5 = 0 ∧ w 6 = 0
  decision : ∀ d, r.decision = some d →
    (w 5).toNat = d.a % 16 + 2 ^ 4 * (d.b % 16) + 2 ^ 8 * (d.grade % 8) + 2 ^ 24 * d.verdict.code ∧
    (w 6).toNat = d.value % 65536 + 2 ^ 16 * d.saws.toNat
  heldCount : (w 7).toNat = r.held.length % 16
  held : ∀ j, j < 12 → (w (8 + j / 4)).toNat / 256 ^ (j % 4) % 256 = match r.held[j]? with
    | some (h, i) => 2 ^ 5 * (h % 8) + i % 32
    | none => 0
  segment : ∀ i, i < 12 →
    (w (11 + 3 * i)).toNat = (r.segment i).wood % 256 + 2 ^ 8 * ((r.segment i).knots % 256) + 2 ^ 16 * ((r.segment i).defects % 65536) ∧
    (w (12 + 3 * i)).toNat = (r.segment i).minThickness % 2048 + 2 ^ 16 * ((r.segment i).minWidth % 4096) +
      2 ^ 28 * ((r.segment i).grade % 8) + 2 ^ 31 * (r.segment i).unseen.toNat ∧
    (w (13 + 3 * i)).toNat = (r.segment i).maxWane % 2048
  rest : ∀ n, 47 ≤ n → n ≤ 63 → w n = 0

/-- Body words 1 to 63 of the line status block (R203), each as the number its named bits make. -/
structure StatusLayout (s : State) (w : Nat → Word) : Prop where
  line : (w 1).toNat = s.tracker.lug.toNat + 2 ^ 16 * s.shadow.part.code + 2 ^ 20 * s.tally.bank.toNat + 2 ^ 24 * s.lineGuard.force.toNat +
    2 ^ 25 * s.inputs.almin.filtered.toNat + 2 ^ 26 * s.overrides.sawTimer.isSome.toNat
  pacing : ∃ free : BitVec 6, (w 2).toNat = backlog s % 64 + 2 ^ 8 * (s.skip % 16) + 2 ^ 16 * free.toNat ∧
    ∀ h, h < 6 → (free.getLsbD h = true ↔ ∃ i, frameSlot s h i = some .free)
  saws : (w 3).toNat = s.overrides.sawMask.toNat
  flags : ∃ shown latched : BitVec 6, (w 4).toNat = shown.toNat + 2 ^ 8 * latched.toNat ∧
    ∀ i, i < 6 → shown.getLsbD i = (s.flag i).shown ∧ latched.getLsbD i = (s.flag i).latched
  rest : ∀ n, 5 ≤ n → n ≤ 63 → w n = 0

/-- The codes that the mirror, the status block and the answer words show (R197, R203, R204). -/
def CodesAsListed : Prop :=
  [RecordState.free, .scanning, .closing, .queued, .optimizing, .decided, .dispatched].map RecordState.code = [0, 1, 2, 3, 4, 5, 6] ∧
    [Verdict.piece, .reject, .fallback].map Verdict.code = [1, 2, 3] ∧
    [PartState.starting, .transparent, .running].map PartState.code = [0, 1, 2]

/-- The fields of the setup image and of the window table by word and bits (R198), those that R184 clamps aside. -/
structure SetupLayout (ws : List Word) (v : Nat → Nat) : Prop where
  masks : (writerMask ws).toNat = v 1 % 256 ∧ (classEnable ws).toNat = v 2 % 256 ∧ (guardEnable ws).toNat = v 15 % 64
  options : (decisionEventEnable ws).toNat = v 3 % 2 ∧ (fallbackPass ws).toNat = v 3 / 256 % 2
  safety : safetyTime ws = v 9 % 256
  persistences : (∀ i, i < 4 → persistence ws i = v 16 / 256 ^ i % 256) ∧ ∀ i, i < 2 → persistence ws (4 + i) = v 17 / 256 ^ i % 256
  namedBins : rejectBin ws = v 20 % 16 ∧ remanBin ws = v 20 / 256 % 16
  calibration : ∀ h, h < 6 →
    thicknessOffset ws h = (v (80 + 6 * h) % 1024 : Nat) - (if v (80 + 6 * h) % 1024 < 512 then (0 : Int) else 1024) ∧
    thicknessGain ws h = v (81 + 6 * h) % 65536 ∧
    widthOffset ws h = (v (82 + 6 * h) % 1024 : Nat) - (if v (82 + 6 * h) % 1024 < 512 then (0 : Int) else 1024) ∧
    widthGain ws h = v (83 + 6 * h) % 65536
  grades : ∀ g, g < 7 → limitKnots ws g = v (131 + 5 * g) % 256 ∧ segmentBudget ws g = v (132 + 5 * g) % 65536 ∧
    pieceBudget ws g = v (168 + g) % 65536 ∧ ∀ n, 1 ≤ n → n ≤ 12 → price ws g n = v (176 + 12 * g + (n - 1)) % 65536
  weights : ∀ c, c < 8 → classWeight ws c = v (264 + c) % 256
  bins : ∀ b, b < 16 → binGrades ws b = v (272 + 4 * b) % 256 ∧ binCapacity ws b = v (275 + 4 * b) % 65536
  windows : ∀ i, i < 16 → (entryFromWords ws i).start = v (32 + 3 * i) / 4 * 4 ∧ (entryFromWords ws i).top = v (33 + 3 * i) / 4 * 4 ∧
    (entryFromWords ws i).kind =
      [WindowKind.frame, .override, .record, .tally, .event, .trim, .sort, .guarded].getD (v (34 + 3 * i) % 8) .guarded ∧
    (entryFromWords ws i).head = v (34 + 3 * i) / 16 % 8 ∧ (entryFromWords ws i).readMask.toNat = v (34 + 3 * i) / 256 % 256 ∧
    (entryFromWords ws i).writeMask.toNat = v (34 + 3 * i) / 65536 % 256 ∧
    (entryFromWords ws i).enabled.toNat = v (34 + 3 * i) / 2 ^ 31

/-- The words of a frame slot, and the form checks made on them in their order (R31, R32, R199, R200). -/
structure FrameLayout : Prop where
  lug : ∀ w, (lugTag w).toNat = w.toNat % 65536
  count : ∀ w, headerCount w = w.toNat % 256
  complete : ∀ w, trailerComplete w = decide (2 ^ 31 ≤ w.toNat)
  form : ∀ (h : Nat) (x y : Word), badFrame h x y =
    if x.toNat / 65536 ≠ 0x5C3A then some 1 else if x.toNat / 256 % 8 ≠ h then some 2
    else if y.toNat % 256 ≠ x.toNat % 256 then some 3 else none
  slice : ∀ x y, sliceOf x y =
    { thickness := x.toNat % 16384, width := x.toNat / 16384 % 16384, wane := y.toNat % 256, position := y.toNat / 256 % 4096
      defectClass := x.toNat / 2 ^ 28 % 8, defectStart := decide (2 ^ 31 ≤ x.toNat), defectSize := y.toNat / 2 ^ 20 }
  frame : ∀ (e : IntakeRun) (i : Nat), 2 * i + 1 < e.slices.length → i < min (e.header.toNat % 256) 120 →
    e.frame[i]? = some (sliceOf (e.slices.getD (2 * i) 0) (e.slices.getD (2 * i + 1) 0))

/-- The words of an override entry, its kind codes, and when key or argument is out of range (R110, R201, R202). -/
structure EntryLayout : Prop where
  key : ∀ w, entryKey w = w.toNat % 65536
  code : ∀ w, entryKindCode w = w.toNat / 2 ^ 24 % 16
  marker : ∀ w, postMarker w = w.getLsbD 15
  tag : ∀ w, (postTag w).toNat = w.toNat % 32768
  kinds : (List.range 16).map kindOfCode = [none, some .grade, some .trim, some .chip, some .mark, some .clear, some .rescan,
    some .binEmpty, some .shift, some .ack, some .alarmTest, some .sawTest, some .lineReset, none, none, none]
  outOfRange : ∀ kind key arg, argOutOfRange kind key arg = true ↔
    (kind = .grade ∧ 7 < arg.toNat) ∨ (kind = .trim ∧ (arg.toNat / 65536 ≤ arg.toNat % 65536 ∨ 12 < arg.toNat / 65536)) ∨
    (kind = .mark ∧ arg.toNat % 4096 = 0) ∨ (kind = .binEmpty ∧ 15 < key) ∨ (kind = .ack ∧ arg.toNat % 64 = 0) ∨
    (kind = .alarmTest ∧ 1 < arg.toNat)
  result : ∀ c tag, (resultWord c tag).toNat = tag.toNat + 2 ^ 16 * c.code
  results : [ResultCode.pending, .done, .tooLate, .noBoard, .outOfRange, .busy, .pendingFull, .refused, .abandoned].map
    ResultCode.code = [1, 2, 3, 4, 5, 6, 7, 8, 9]

/-- The words of the event ring, with the packing of two and three items in a detail and the class codes (R206). -/
structure EventLayout : Prop where
  producer : ∀ p o, (producerWord p o).toNat = p % 65536 + 2 ^ 31 * o.toNat
  entry : ∀ e, (eventWords e).map BitVec.toNat = [e.code % 256 + 2 ^ 8 * e.cls.code, e.lug.toNat, e.a.toNat, e.b.toNat]
  two : ∀ x y, (pair x y).toNat = x % 65536 + 2 ^ 16 * (y % 65536)
  three : ∀ x y z, (triple x y z).toNat = x % 65536 + 2 ^ 16 * (y % 256) + 2 ^ 24 * (z % 256)
  classes : [EventClass.frame, .decision, .override, .dispatch, .tally, .guard, .setup, .line].map EventClass.code =
    [0, 1, 2, 3, 4, 5, 6, 7]

/-- The outcome of a command is a next state. -/
def Completes (r : Host.Outcome State Fault Refusal) : Prop := ∃ t, r = .next t

end Sys2Proof.Machine
end

