-- ==== Sys2Proof/WellFormed.lean ====
section
/-! DEFINITION. When a command is one the outside of the part can send: the operand checks. -/

namespace Sys2Proof

/-- A write burst of 1 to 16 words (00_scope.md, Discrete Lines). -/
def BusWrite.wellFormed (w : BusWrite) : Bool :=
  1 ≤ w.beats.length && w.beats.length ≤ Config.maxBurst

/-- A read burst of 1 to 16 words. -/
def BusRead.wellFormed (r : BusRead) : Bool :=
  1 ≤ r.words && r.words ≤ Config.maxBurst

def Transaction.wellFormed : Transaction → Bool
  | .read r => r.wellFormed
  | .write w => w.wellFormed

/-- A command is well formed when the burst it carries is one the chassis bus carries, and when a hold expiry names one of
the four places of the held-read list (R137). -/
def Instr.wellFormed : Instr → Bool
  | .rawLevelChange _ _ _ => true
  | .filterTimerExpiry _ _ => true
  | .resetNAssert => true
  | .resetNRelease => true
  | .formatWordReadDone => true
  | .setupReadDone => true
  | .eventHeaderReadDone => true
  | .tallyHeaderReadDone => true
  | .formatWordWrite => true
  | .setupWriteHeld w => w.wellFormed
  | .chassisTransaction t => t.wellFormed
  | .memoryBurstDone => true
  | .setupWrite w => w.wellFormed
  | .windowEntryWrite w => w.wellFormed
  | .gradingTableWrite w => w.wellFormed
  | .guardEnableMaskWrite w => w.wellFormed
  | .eventClassEnableWrite w => w.wellFormed
  | .frameHeaderWrite w => w.wellFormed
  | .trailerWrite w => w.wellFormed
  | .intakeStart => true
  | .intakeComplete => true
  | .closeComplete => true
  | .optimizerComplete => true
  | .post w => w.wellFormed
  | .postReadbackStart => true
  | .grade => true
  | .trim => true
  | .chip => true
  | .mark => true
  | .clear => true
  | .rescan => true
  | .binEmpty => true
  | .shift => true
  | .ack => true
  | .alarmTest => true
  | .sawTest => true
  | .lineReset => true
  | .lineResetStart => true
  | .sawTestExpiry => true
  | .trimRead _ _ => true
  | .holdExpiry i => i < Config.maxHeldReads
  | .sortRead _ _ => true
  | .tallyReadsDone => true
  | .tallyUpdateComplete => true
  | .zeroingDone => true
  | .mirrorWriteComplete => true
  | .consumerWrite w => w.wellFormed
  | .kindCodeOutOfRange => true

end Sys2Proof
end

