-- ==== Sys2Proof/Certificates/Slice0/Obligations.lean ====
section
/-! DEFINITION. The statements for the provers. -/

open Sys2Proof Sys2Proof.Machine

/-- For every command c, queue rest and state s, step of s with c in front of rest is exec of c on s with the queue rest. Step of a
state whose queue is empty answers that same state: that clause is the model's choice (log 7), since the table has no row for a
tick. (Cites: 95_what_each_step_holds.md: What each step holds.) -/
def Obligations.FrontCommandRuns : Prop :=
  (∀ (c : Instr) (rest : List Instr) (s : State), step (s.withPending (c :: rest)) = exec c (s.withPending rest)) ∧
    ∀ s : State, s.pending = [] → step s = .next s

/-- Exec of a well-formed command answers a next state in every state. A command that brings a transaction of no word or of more than
16 words, which the bus does not carry, is refused by name with that number of words (the model's choice, log 12); no command is
refused for any other reason, and there is never a fault. (Cites: 00_scope.md: Discrete Lines.) -/
def Obligations.WellFormedCommandsComplete : Prop :=
  (∀ (c : Instr) (s : State), Instr.wellFormed c = true → Completes (exec c s)) ∧
    (∀ (c : Instr) (x : Transaction) (s : State), arrivalOf c = some x →
      (exec c s = .refused (.burstLength (Transaction.words x)) ↔ Transaction.words x = 0 ∨ 16 < Transaction.words x)) ∧
    (∀ (c : Instr) (s : State) (r : Refusal), exec c s = .refused r →
      ∃ x, arrivalOf c = some x ∧ r = .burstLength (Transaction.words x)) ∧
    ∀ (c : Instr) (s : State) (f : Fault), exec c s ≠ .fault f

/-- If exec of any command answers a next state, that state's queue is the queue it was given. (Cites: 95_what_each_step_holds.md:
What each step holds.) -/
def Obligations.ExecLeavesQueue : Prop :=
  ∀ (c : Instr) (s t : State), exec c s = .next t → t.pending = s.pending

/-- At reset line memory is canonical, every list is within its limit, every table has its size, the record table, the decision queue
and the frame slots agree, the output lines stand at the levels of the state, and the part is STARTING. (Cites:
10_chassis_bus_path_setup_and_start_up.md: Start-up; 01_lugs_and_the_record_table.md: The Record Table;
05_the_decision_queue_and_line_pacing.md: Reset of the Queue and the Optimizer.) -/
def Obligations.ResetIsSafe : Prop :=
  State.reset.memoryWf ∧ State.reset.WithinLimits ∧ State.reset.FrameSlotsSound ∧ State.reset.pinsFollow ∧
    State.reset.shadow.part = .starting

/-- For every state whose line memory has strictly rising addresses and lists no byte equal to an unlisted one, the next state's
memory has that form. The list, its canonical form and the value of an unlisted byte are the model's own representation of line
memory (logs 1 and 3), not a rule of the spec, which only says what line memory is. (Cites: 00_scope.md: Discrete Lines;
10_chassis_bus_path_setup_and_start_up.md: The Memory Port Arbiter.) -/
def Obligations.StepKeepsMemoryCanonical : Prop :=
  ∀ s t : State, s.memoryWf → step s = .next t → t.memoryWf

/-- If a state holds at most 16 posts, 8 pending overrides, 4 held trim reads, 8 waiting sort reads, 64 tally updates and 12 fresh
intake entries, and has producer and consumer index below the capacity of an EVENT window in force whenever it holds header state,
so does the state after a step. (Cites: 06_operator_overrides.md: The Post FIFO and the Read-back; 06_operator_overrides.md: The
Pending-Override List; 07_trimmer_and_sorter_answers.md: Held Trim Reads; 07_trimmer_and_sorter_answers.md: Sort Reads Waiting for
the Tally; 08_tally_banks.md: The Tally Queue; 02_scanner_heads_and_frame_intake.md: Writes That Move a Frame Slot;
10_chassis_bus_path_setup_and_start_up.md: The Event Ring.) -/
def Obligations.StepKeepsLimits : Prop :=
  ∀ s t : State, s.WithinLimits → step s = .next t → t.WithinLimits

/-- The first law between steps: if every live record of slot k has a lug that is k mod 32 and stands at a position from 0 to 30, the
tables have their sizes, and the decision queue names QUEUED records, each exactly once, each entry with the lug of its record and
behind entries of greater position only, then the same holds after a step. (Cites: 01_lugs_and_the_record_table.md: The Lug
Counter; 01_lugs_and_the_record_table.md: The Record Table; 05_the_decision_queue_and_line_pacing.md: The Decision Queue.) -/
def Obligations.StepKeepsRecordTable : Prop :=
  ∀ s t : State, s.TableSound → step s = .next t → t.TableSound

/-- After every command the three output lines stand at the levels that the state gives; and ALMOUT is asserted exactly when RESET_N
is asserted, the part is not RUNNING, FORCE is set, filtered ALMIN is asserted, or a latched guard flag has its bit of the guard
enable mask set. (Cites: 09_line_guard.md: ALMOUT; 10_chassis_bus_path_setup_and_start_up.md: Start-up;
05_the_decision_queue_and_line_pacing.md: Line Pacing; 10_chassis_bus_path_setup_and_start_up.md: The Event Ring.) -/
def Obligations.OutputsFollowTheState : Prop :=
  ∀ (c : Instr) (s t : State), exec c s = .next t → t.pinsFollow ∧
    (t.outputs.almout = true ↔
      t.resetAsserted = true ∨ t.shadow.part ≠ .running ∨ t.lineGuard.force = true ∨ t.inputs.almin.filtered = true ∨
        ∃ i, i < 6 ∧ (t.flag i).latched = true ∧ (guardEnable t.shadow.words).getLsbD i = true)

/-- After every command: LSKIP is asserted exactly while RESET_N is released, the part is RUNNING and the skip count is above 0; ATTN
exactly while RESET_N is released, the part is not TRANSPARENT and some class has its pending flag and its enable bit set. That
both lines are deasserted while RESET_N is asserted and while the part is TRANSPARENT is the section on start-up; how the levels
are coded is log 34. (Cites: 05_the_decision_queue_and_line_pacing.md: Line Pacing; 10_chassis_bus_path_setup_and_start_up.md: The
Event Ring; 10_chassis_bus_path_setup_and_start_up.md: Start-up.) -/
def Obligations.SkipAndAttentionFollowTheState : Prop :=
  ∀ (c : Instr) (s t : State), exec c s = .next t →
    (t.outputs.lskip = true ↔ t.resetAsserted = false ∧ t.shadow.part = .running ∧ 0 < t.skip) ∧
    (t.outputs.attn = true ↔ t.resetAsserted = false ∧ t.shadow.part ≠ .transparent ∧
      ∃ i, i < 8 ∧ t.events.classes.getLsbD i = true ∧ (classEnable t.shadow.words).getLsbD i = true)

/-- After any command line memory is either byte for byte as before, or what completing the burst that stood at the port makes of it;
an arrival never changes it. (Cites: 10_chassis_bus_path_setup_and_start_up.md: The Memory Port Arbiter.) -/
def Obligations.OnlyThePortWritesMemory : Prop :=
  (∀ (c : Instr) (s t : State), exec c s = .next t →
      t.bus.mem = s.bus.mem ∨ ∃ b, s.bus.port = some b ∧ t.bus.mem = (Burst.perform s.bus.mem b).1) ∧
    ∀ (c : Instr) (tx : Transaction) (s t : State), arrivalOf c = some tx → exec c s = .next t → t.bus.mem = s.bus.mem

/-- With RESET_N released the command completes. The raw level takes the new level and the filter time stays. A level that returns to
the filtered level stops the timer; a level that comes to differ starts it with the filter time in force, or with a filter time of
0 is adopted at once. The same level changes nothing, the other inputs stay, and so does every byte of memory. With RESET_N
asserted the command completes too: the raw level is recorded, and filtered level, timer and filter time, the other inputs and
every block stay, since no filter runs until the release (the model's reading, log 35). (Cites: 01_lugs_and_the_record_table.md:
Input Filters.) -/
def Obligations.RawLevelChangeFilters : Prop :=
  (∀ (p : Input) (l : Bool) (o : LugOrder) (s : State), s.resetAsserted = false →
    ∃ t, exec (.rawLevelChange p l o) s = .next t ∧ (t.inputs.get p).raw = l ∧
      (t.inputs.get p).time = (s.inputs.get p).time ∧
      (l = (s.inputs.get p).raw → t.inputs.get p = s.inputs.get p) ∧
      (l ≠ (s.inputs.get p).raw → l = (s.inputs.get p).filtered →
        (t.inputs.get p).filtered = (s.inputs.get p).filtered ∧ (t.inputs.get p).timer = none) ∧
      (l ≠ (s.inputs.get p).raw → l ≠ (s.inputs.get p).filtered → (s.inputs.get p).time = 0 →
        (t.inputs.get p).filtered = l ∧ (t.inputs.get p).timer = none) ∧
      (l ≠ (s.inputs.get p).raw → l ≠ (s.inputs.get p).filtered → 0 < (s.inputs.get p).time →
        (t.inputs.get p).filtered = (s.inputs.get p).filtered ∧ (t.inputs.get p).timer = some (s.inputs.get p).time) ∧
      (∀ q, q ≠ p → t.inputs.get q = s.inputs.get q) ∧ t.shadow = s.shadow ∧ t.bus.mem = s.bus.mem) ∧
    ∀ (p : Input) (l : Bool) (o : LugOrder) (s : State), s.resetAsserted = true →
      ∃ t, exec (.rawLevelChange p l o) s = .next t ∧ t.inputs.get p = { s.inputs.get p with raw := l } ∧
        (∀ q, q ≠ p → t.inputs.get q = s.inputs.get q) ∧ t.resetAsserted = true ∧ t.shadow = s.shadow ∧ t.tracker = s.tracker ∧
        t.intake = s.intake ∧ t.measure = s.measure ∧ t.optimizer = s.optimizer ∧ t.skip = s.skip ∧ t.overrides = s.overrides ∧ t.dispatch = s.dispatch ∧
        t.tally = s.tally ∧ t.lineGuard = s.lineGuard ∧ t.events = s.events ∧ t.bus.mem = s.bus.mem ∧
        t.bus.answers = s.bus.answers

/-- The command completes. With a timer running, the filtered level becomes the raw level and the timer stops, raw level and filter
time kept; with none, the filter is as it was (the model's reading of a row that cannot occur, log 10). The other inputs, the
setup shadow and every byte of memory stay. (Cites: 01_lugs_and_the_record_table.md: Input Filters.) -/
def Obligations.FilterTimerExpiryAdopts : Prop :=
  ∀ (p : Input) (o : LugOrder) (s : State), ∃ t, exec (.filterTimerExpiry p o) s = .next t ∧
    ((s.inputs.get p).timer.isSome = true →
      t.inputs.get p = { s.inputs.get p with filtered := (s.inputs.get p).raw, timer := none }) ∧
    ((s.inputs.get p).timer = none → t.inputs.get p = s.inputs.get p) ∧
    (∀ q, q ≠ p → t.inputs.get q = s.inputs.get q) ∧ t.shadow = s.shadow ∧ t.bus.mem = s.bus.mem

/-- For a raw level change with RESET_N released and for a filter timer expiry: if filtered LUG goes from deasserted to asserted while
the part is RUNNING, the lug number rises by 1 modulo 65,536; in every other case it keeps its value. A raw level change with
RESET_N asserted keeps it (the model's reading, log 35). (Cites: 01_lugs_and_the_record_table.md: The Lug Counter.) -/
def Obligations.LugNumberCountsLugEvents : Prop :=
  (∀ (c : Instr) (p : Input) (l : Bool) (o : LugOrder) (s t : State),
    (c = .rawLevelChange p l o ∧ s.resetAsserted = false ∨ c = .filterTimerExpiry p o) → exec c s = .next t →
    ((s.shadow.part = .running ∧ s.inputs.lug.filtered = false ∧ t.inputs.lug.filtered = true) →
      t.tracker.lug = s.tracker.lug + 1) ∧
    (¬ (s.shadow.part = .running ∧ s.inputs.lug.filtered = false ∧ t.inputs.lug.filtered = true) →
      t.tracker.lug = s.tracker.lug)) ∧
    ∀ (p : Input) (l : Bool) (o : LugOrder) (s t : State), s.resetAsserted = true → exec (.rawLevelChange p l o) s = .next t →
      t.tracker.lug = s.tracker.lug

/-- At a lug event (the lug number has risen by 1): with filtered EYE asserted and no pending override for the new lug, the new slot
holds a SCANNING record of the new lug at its creation values. A live record from position 30 is retired: its slot is FREE, class
LINE is pending, a note for the new lug stands on the UNSORTED flag, and an update with key UNSORTED for the active bank joins the
tally queue, or with 64 updates in it is lost and class TALLY is pending. Its held trim reads are answered FALLBACK in order of
arrival and leave the list, with a note on the FALLBACK flag; its close ends; and read-back entries of its held slots leave the
intake queue, with their marks passed on. Every other live record keeps all its fields, but is committed at a new position of C or
more, and goes from SCANNING to CLOSING at position 1 (a QUEUED one may be taken by the idle optimizer); behind what a retire does
to them, its close joins the close list with its mark on the newest entry of the intake queue, or ready to be finalised when the
queue is empty. A FREE slot other than the new lug's stays FREE. With no record retired the intake queue, the tally queue, held
reads and answers are as they were, and with no close begun the close list is as the retire leaves it. (Cites:
01_lugs_and_the_record_table.md: Record Contents; 01_lugs_and_the_record_table.md: Record States;
02_scanner_heads_and_frame_intake.md: Close Marks; 03_measurement_and_segments.md: The Close; 08_tally_banks.md: The Tally Queue;
09_line_guard.md: The Six Conditions; 07_trimmer_and_sorter_answers.md: Hold Expiry and the Fallback;
02_scanner_heads_and_frame_intake.md: Holding and Releasing Frame Slots.) -/
def Obligations.LugTrackerAtLugEvent : Prop :=
  ∀ (c : Instr) (p : Input) (l : Bool) (o : LugOrder) (s t : State), s.TableSound →
    (c = .rawLevelChange p l o ∨ c = .filterTimerExpiry p o) → exec c s = .next t → t.tracker.lug = s.tracker.lug + 1 →
    (s.inputs.eye.filtered = true → (∀ q ∈ s.overrides.waiting, q.lug ≠ t.tracker.lug) →
      t.record (slotOf t.tracker.lug) =
        { lug := t.tracker.lug, state := .scanning, committed := false, forced := false, fallback := false, untrimmed := false,
          long := false, short := false, rescanFailed := false, contributed := 0, silent := 0, length := 0, present := 0,
          segments := List.replicate 12
            { wood := 0, minThickness := 2000, minWidth := 4000, maxWane := 0, knots := 0, defects := 0, unseen := false, grade := 0 },
          forcedGrade := none, forcedTrim := none, chip := false, marks := 0, decision := none, held := [] }) ∧
    (∀ k, k < 32 → (s.record k).live = true → position s.tracker.lug (s.record k).lug = 30 →
      t.record k = Record.blank ∧ t.events.classes.getLsbD 7 = true ∧ t.tracker.lug ∈ (t.flag 3).notes ∧
      (s.tally.queue.length < 64 → t.tally.queue = s.tally.queue ++
        [{ bank := s.tally.bank, key := .unsorted, forced := false, lug := (s.record k).lug }]) ∧
      (64 ≤ s.tally.queue.length → t.tally.queue = s.tally.queue ∧ t.events.classes.getLsbD 4 = true) ∧
      t.bus.answers = s.bus.answers ++ fallbackAnswers s k (s.record k) ∧
      t.dispatch = { s.dispatch with held := s.dispatch.held.filter fun h => h.slot != k } ∧
      (hasHeld s k = true → t.tracker.lug ∈ (t.flag 2).notes ∧ t.events.classes.getLsbD 3 = true)) ∧
    (∀ k, k < 32 → (s.record k).live = true → position s.tracker.lug (s.record k).lug ≠ 30 →
      ∃ st, (st = (if (s.record k).state = .scanning ∧ position s.tracker.lug (s.record k).lug = 0 then .closing
          else (s.record k).state) ∨ ((s.record k).state = .queued ∧ st = .optimizing)) ∧
        t.record k = { s.record k with
          state := st
          committed := (s.record k).committed ||
            decide (commitPosition s.shadow.words ≤ position s.tracker.lug (s.record k).lug + 1) }) ∧
    (∀ k, k < 32 → (s.record k).live = false → (k ≠ slotOf t.tracker.lug ∨ s.inputs.eye.filtered = false) →
      t.record k = s.record k) ∧
    ∃ (q : List IntakeEntry) (m : Measure), t.intake.queue = q ∧
      (∀ k, k < 32 → (s.record k).live = true → position s.tracker.lug (s.record k).lug = 30 →
        RetireLeaves s k (s.record k) t.tracker.lug q m) ∧
      ((∀ k, k < 32 → (s.record k).live = true → position s.tracker.lug (s.record k).lug ≠ 30) →
        q = s.intake.queue ∧ m = s.measure ∧ t.tally.queue = s.tally.queue ∧ t.dispatch = s.dispatch ∧
        t.bus.answers = s.bus.answers) ∧
      (∀ k, k < 32 → (s.record k).state = .scanning → position s.tracker.lug (s.record k).lug = 0 →
        (q ≠ [] → t.measure = { m with awaiting := m.awaiting ++
          [{ slot := k, lug := (s.record k).lug, rescan := false, mark := q.getLast?.map fun e => (e.head, e.slot) }] }) ∧
        (q = [] → t.measure = { m with finalising := m.finalising ++
          [{ slot := k, lug := (s.record k).lug, rescan := false, mark := none }] })) ∧
      ((∀ k, k < 32 → (s.record k).state = .scanning → position s.tracker.lug (s.record k).lug ≠ 0) → t.measure = m)

/-- At a lug event the entries of the pending-override list for the new lug leave it and the others keep their order. With filtered
EYE asserted the new record is the created one with their parts applied in list order: GRADE sets the forced grade, TRIM the
forced trim without chip, CHIP chip without the forced trim, MARK adds to the marks, CLEAR removes all four, RESCAN changes
nothing; and the slot's forced-trim entry is that of the last TRIM not followed by a CHIP or CLEAR. With EYE deasserted the slot
holds no record. The result word of each entry, in list order, is DONE with EYE asserted and NO_BOARD with it deasserted. That
these words go out after everything else of the event is the model's choice (log 17). (Cites: 06_operator_overrides.md: The
Pending-Override List; 01_lugs_and_the_record_table.md: Record Contents.) -/
def Obligations.PendingOverridesAtLugEvent : Prop :=
  ∀ (c : Instr) (p : Input) (l : Bool) (o : LugOrder) (s t : State) (ps : List PendingOverride), s.TableSound →
    (c = .rawLevelChange p l o ∨ c = .filterTimerExpiry p o) → exec c s = .next t → t.tracker.lug = s.tracker.lug + 1 →
    ps = s.overrides.waiting.filter (fun q => q.lug == t.tracker.lug) →
    t.overrides.waiting = s.overrides.waiting.filter (fun q => q.lug != t.tracker.lug) ∧
    (∃ y, t = finish (issueAll (ps.map fun q =>
        resultBurst q.addr q.tag (if s.inputs.eye.filtered then .done else .noBoard) .plain) y)) ∧
    (s.inputs.eye.filtered = false → (t.record (slotOf t.tracker.lug)).live = false) ∧
    (s.inputs.eye.filtered = true →
      t.record (slotOf t.tracker.lug) = ps.foldl (fun r q => r.applyPart q.kind q.arg)
        { Record.blank with lug := t.tracker.lug, state := .scanning } ∧
      t.overrides.trimEntries.getD (slotOf t.tracker.lug) none = ps.foldl (fun x q =>
        if q.kind = .trim then some { addr := q.addr, tag := q.tag } else if q.kind = .chip ∨ q.kind = .clear then none else x)
        (s.overrides.trimEntries.getD (slotOf t.tracker.lug) none)) ∧
    ∀ (r : Record) (a : Word), r.applyPart .grade a = { r with forcedGrade := some a.toNat } ∧
      r.applyPart .trim a = { r with forcedTrim := some (a.toNat % 65536, a.toNat / 65536), chip := false } ∧
      r.applyPart .chip a = { r with chip := true, forcedTrim := none } ∧
      r.applyPart .mark a = { r with marks := r.marks ||| BitVec.ofNat 12 (a.toNat % 4096) } ∧
      r.applyPart .clear a = { r with forcedGrade := none, forcedTrim := none, chip := false, marks := 0 } ∧
      r.applyPart .rescan a = r

/-- At a lug event, in one change: the skip count falls by 1 if above 0; then, if the backlog is at or above skip-high and the count
at or below the refresh threshold, it becomes the skip quantum; otherwise, if the backlog is at or below the release, it becomes
0; else it keeps what the fall left. The backlog is the one before the lug tracker's changes when the pacing logic takes the event
first, and the one after them when it takes it after. LSKIP follows the result, and with a RECORD window in force the line status
block is begun or noted. (Cites: R100.) -/
def Obligations.PacingAtLugEvent : Prop :=
  ∀ (c : Instr) (p : Input) (l : Bool) (o : LugOrder) (s t : State), s.TableSound →
    (c = .rawLevelChange p l o ∨ c = .filterTimerExpiry p o) → exec c s = .next t → t.tracker.lug = s.tracker.lug + 1 →
    ∃ b, b = (if o.pacingFirst then backlog s else backlog t) ∧
      t.skip = (if skipHigh s.shadow.words ≤ b ∧ s.skip - 1 ≤ refreshThreshold s.shadow.words then skipQuantum s.shadow.words
        else if b ≤ release s.shadow.words then 0 else s.skip - 1) ∧
      (s.resetAsserted = false → (t.outputs.lskip = true ↔ 0 < t.skip)) ∧
      (t.window .record ≠ none → (t.area 32).pub ≠ .idle)

/-- At a lug event, for each flag: its condition was present when a note stands for the ended lug (incident flags), when the backlog
the guard finds is at or above the limit (BACKLOG), or when filtered ALMIN is asserted (CHAIN). If present the counter rises by 1
up to 255, else it is 0; the set indication shows it; the flag latches when its k is above 0 and its counter has reached k, and a
latched flag stays latched. No note for the ended lug remains. The events of a lug event are one FLAG_LATCHED for each flag whose
latch goes from clear to set, in bit order, with the new lug number, the flag, k and the counter; and those of a retire:
TALLY_LOST with 64 updates queued, UNSORTED, and FALLBACK when held trim reads are answered. Those of the guard come before those
of the retire when the guard takes the event first. That detail A holds the flag's bit position, and the order among the events of
a retire, are the model's choices (logs 42 and 17). (Cites: 09_line_guard.md: Persistence and Latching; 09_line_guard.md: The Six
Conditions; 09_line_guard.md: What the Guard Publishes; 01_lugs_and_the_record_table.md: Record States; 08_tally_banks.md: Events
of the Tally Unit; 07_trimmer_and_sorter_answers.md: Hold Expiry and the Fallback.) -/
def Obligations.GuardAtLugEvent : Prop :=
  ∀ (c : Instr) (p : Input) (l : Bool) (o : LugOrder) (s t : State), s.TableSound →
    (c = .rawLevelChange p l o ∨ c = .filterTimerExpiry p o) → exec c s = .next t → t.tracker.lug = s.tracker.lug + 1 →
    (∃ y, t = finish y ∧ EventsWritten (lugEvents o s t) s y) ∧
    ∀ i, i < 6 → ∃ present : Bool,
      present = (if i = 4 then decide (backlogLimit s.shadow.words ≤ (if o.guardFirst then backlog s else backlog t))
        else if i = 5 then t.inputs.almin.filtered else (s.flag i).notes.contains s.tracker.lug) ∧
      (t.flag i).counter = (if present then min ((s.flag i).counter + 1) 255 else 0) ∧ (t.flag i).shown = present ∧
      (t.flag i).latched = ((s.flag i).latched ||
        decide (0 < persistence s.shadow.words i ∧ persistence s.shadow.words i ≤ (t.flag i).counter)) ∧
      s.tracker.lug ∉ (t.flag i).notes

/-- With RESET_N released before, the command completes with RESET_N asserted: no access waits, the burst at the port concerns no
block, every open transaction has been answered with an error, LSKIP and ATTN are deasserted and ALMOUT asserted, and memory,
records, lug number and tally are as before. That the part shows STARTING, that tables and queues stay until the release, and the
order of the error answers are the model's choices (log 29). (Cites: 10_chassis_bus_path_setup_and_start_up.md: Start-up.) -/
def Obligations.ResetNAssertRefusesAll : Prop :=
  ∀ s : State, s.resetAsserted = false → ∃ t, exec .resetNAssert s = .next t ∧ t.resetAsserted = true ∧
    t.shadow.part = .starting ∧ t.bus.through = [] ∧ t.bus.internal = [] ∧ (∀ b, t.bus.port = some b → b.purpose = .plain) ∧
    t.shadow.held = [] ∧ t.dispatch.held = [] ∧ t.dispatch.waiting = [] ∧
    t.bus.answers = s.bus.answers ++ (openTransactions s).map (fun x => { txn := x.1, master := x.2, reply := .error }) ∧
    t.outputs = { lskip := false, almout := true, attn := false } ∧
    t.bus.mem = s.bus.mem ∧ t.tracker = s.tracker ∧ t.tally = s.tally

/-- With RESET_N asserted before, the command completes: the part is STARTING with a load begun, every block holds its power-on
values, each filtered level is the raw level with no timer and a filter time of 1,023, line memory, the answers given and the
queue stay, and with a free port the read of address 0 is granted. The setup words and window entries of the shadow, for which the
spec gives no power-on value, are 0 by the model's choice (log 5). (Cites: 10_chassis_bus_path_setup_and_start_up.md: Start-up;
01_lugs_and_the_record_table.md: Input Filters.) -/
def Obligations.ResetNReleasePowersOn : Prop :=
  ∀ s : State, s.resetAsserted = true → ∃ t, exec .resetNRelease s = .next t ∧ t.resetAsserted = false ∧
    t.shadow = State.reset.shadow ∧ t.shadow.part = .starting ∧ t.tracker = State.reset.tracker ∧ t.tracker.lug = 0 ∧
    t.intake = State.reset.intake ∧ t.measure = State.reset.measure ∧ t.optimizer = State.reset.optimizer ∧ t.skip = 0 ∧
    t.overrides = State.reset.overrides ∧ t.dispatch = State.reset.dispatch ∧ t.tally = State.reset.tally ∧
    t.lineGuard = State.reset.lineGuard ∧ t.events = State.reset.events ∧
    (∀ p, t.inputs.get p = { raw := (s.inputs.get p).raw, filtered := (s.inputs.get p).raw, timer := none, time := 1023 }) ∧
    t.outputs = { lskip := false, almout := true, attn := false } ∧ t.bus.mem = s.bus.mem ∧ t.bus.answers = s.bus.answers ∧
    t.pending = s.pending ∧ (s.bus.port = none → t.bus.port = some { addr := 0, access := .read 1, purpose := .loadFormat })

/-- The load's read of address 0 completes. When memory holds 0x4816_0001 there, the load goes on with the reads of words 1 to 1,023
issued into the internal stream; otherwise the part enters TRANSPARENT with no load, and when no held write is a format word
write, every held write joins the through stream in order of arrival. When one is, the held writes up to and with the first of
them join the through stream in order of arrival, that one watched, so that its completion begins a load, and those behind it stay
held. That they stay held from the moment it passes is the model's reading (log 28). (Cites:
10_chassis_bus_path_setup_and_start_up.md: Start-up.) -/
def Obligations.FormatWordReadDecides : Prop :=
  ∀ (s : State) (ld : Load), s.bus.port = some { addr := 0, access := .read 1, purpose := .loadFormat } →
    s.shadow.load = some ld →
    ∃ y, exec .formatWordReadDone s = .next (finish y) ∧ y.bus.mem = s.bus.mem ∧
      (Memory.readWord s.bus.mem 0 = 0x48160001#32 →
        y.shadow = { s.shadow with load := some { ld with words := [0x48160001#32] } } ∧
        y.bus.internal = s.bus.internal ++ [readBurst 4#32 15 (.loadSetup false)] ++
          (List.range 63).map (fun i => readBurst (BitVec.ofNat 32 (64 * (i + 1))) 16 (.loadSetup (i == 62)))) ∧
      (Memory.readWord s.bus.mem 0 ≠ 0x48160001#32 → (∀ h ∈ s.shadow.held, carriesFormatWord h.write = false) →
        y.shadow = { s.shadow with part := .transparent, load := none, held := [] } ∧ y.bus.internal = s.bus.internal ∧
        y.bus.through = s.bus.through ++ s.shadow.held.map (fun h =>
          { addr := h.write.addr, access := .write h.write.beats, purpose := .chassis h.txn h.write.master false })) ∧
      ∀ (pre rest : List HeldWrite) (h : HeldWrite), Memory.readWord s.bus.mem 0 ≠ 0x48160001#32 →
        s.shadow.held = pre ++ h :: rest → (∀ x ∈ pre, carriesFormatWord x.write = false) → carriesFormatWord h.write = true →
        y.shadow = { s.shadow with part := .transparent, load := none, held := rest } ∧ y.bus.internal = s.bus.internal ∧
        y.bus.through = s.bus.through ++ (pre ++ [h]).map (fun x =>
          { addr := x.write.addr, access := .write x.write.beats
            purpose := .chassis x.txn x.write.master (carriesFormatWord x.write) })

/-- The last setup read of a load completes. The shadow holds, word by word, what was read where the word holds a field, and the
window entries in force are those of the words read, each field at its word and bits. Without an EVENT window, and without a TALLY
header to read, the load ends: the part is RUNNING, every block has taken its entry work (slot tables all FREE, filter times,
status block and at the first entry every FREE mirror begun or noted), the events START, LINE_RESET after a line reset and one
SETUP_ERR for each entry ignored and each field clamped are handed to the event writer in that order, and then every held write is
judged as one arriving now, in order of arrival. Otherwise the part goes on STARTING, the writes stay held, and the load awaits
the header reads it has issued. That detail B of LINE_RESET holds posts in its low and pending entries in its high half is the
model's reading (log 26). At such an entry without a TALLY window the tally unit has selector 0, no swap and both flags clear, its
queue kept. After a line reset that began without one it keeps what it held, and when a TALLY window is in force now it writes the
header there, and a kept swap whose zeroing has not ended begins it again. While the load goes on the tally unit stays. (Cites:
10_chassis_bus_path_setup_and_start_up.md: Start-up; 11_formats_in_line_memory.md: The Setup Image;
10_chassis_bus_path_setup_and_start_up.md: The Setup Shadow; 10_chassis_bus_path_setup_and_start_up.md: Windows;
02_scanner_heads_and_frame_intake.md: Frame Windows and Frame Slots; 01_lugs_and_the_record_table.md: Input Filters;
01_lugs_and_the_record_table.md: Record Mirrors; 08_tally_banks.md: The TALLY Window; 08_tally_banks.md: Window Changes and
Resets.) -/
def Obligations.SetupReadTakesEveryField : Prop :=
  ∀ (s : State) (ld : Load) (addr : Word) (n : Nat),
    s.bus.port = some { addr := addr, access := .read n, purpose := .loadSetup true } → s.shadow.load = some ld →
    s.shadow.part = .starting →
    ∃ z, z.bus.mem = s.bus.mem ∧ SetupLayout z.shadow.words (fun n => (setupWord z.shadow.words n).toNat) ∧
      (∀ i, i < 336 → setupWord z.shadow.words i =
        if holdsField i then (ld.words ++ Memory.readWords s.bus.mem addr.toNat n).getD i 0 else 0) ∧
      (∀ i, i < 16 → entryAt z.shadow.entries i = entryFromWords z.shadow.words i) ∧
      (z.window .event = none → (z.window .tally = none ∨ s.tally.kept = true) →
        exec .setupReadDone s = .next (finish (afterEntry s z ld.cause)) ∧ EntryWork s z ∧ EntryTally s z ∧
        ∃ old more, z.bus.internal = old ++ (if s.tally.kept then tallyWrites z.tally (z.window .tally) else []) ++ more ∧
          old.map (fun x => (x.addr, x.access)) = s.bus.internal.map (fun x => (x.addr, x.access)) ∧ ∀ b ∈ more, EngineAccess b) ∧
      ((z.window .event ≠ none ∨ (z.window .tally ≠ none ∧ s.tally.kept = false)) →
        exec .setupReadDone s = .next (finish z) ∧ z.shadow.part = .starting ∧ z.shadow.held = s.shadow.held ∧ z.tally = s.tally ∧
        z.events.ring = none ∧ z.shadow.load = some {
          cause := ld.cause, words := ld.words ++ Memory.readWords s.bus.mem addr.toNat n
          awaitEvent := (z.window .event).isSome, awaitTally := (z.window .tally).isSome && !s.tally.kept } ∧
        (∀ w, z.window .event = some w → readBurst (windowAddr w 0) 2 .eventHeader ∈ z.bus.internal) ∧
        ∀ w, z.window .tally = some w → s.tally.kept = false → readBurst (windowAddr w 0) 1 .tallyHeader ∈ z.bus.internal)

/-- With an EVENT window in force, its header read completes: c is the consumer index read when below the capacity, else the producer
index read when that is below it, else 0; p is the producer index read when below the capacity, else c. While RUNNING the overflow
flag read is added to one already set, and the pending flags stay; in a load it is taken as read. The producer word is written
when the index or the flag in force differs from the one read, and no other access is issued. In a load that awaits the tally
header too the part goes on STARTING without awaiting this one; in a load that does not, the load ends: the part is RUNNING with
its entry work, its events are handed to the event writer, and then the held writes are judged in order. That detail B of
LINE_RESET holds posts in its low and pending entries in its high half is the model's reading (log 26). In start-up without a
load, while a line reset goes on, it is taken in the same way and nothing else moves. At the entry without a TALLY window the
tally unit has selector 0, no swap and both flags clear; after a line reset that began without one it keeps what it held, and with
one in force now its header is written and a kept swap resumed. (Cites: 10_chassis_bus_path_setup_and_start_up.md: The Event Ring;
10_chassis_bus_path_setup_and_start_up.md: Start-up; 08_tally_banks.md: The TALLY Window; 08_tally_banks.md: Window Changes and
Resets.) -/
def Obligations.EventHeaderReadSetsRing : Prop :=
  ∀ (s : State) (e : WindowEntry) (addr pw cw : Word) (c p : Nat),
    s.bus.port = some { addr := addr, access := .read 2, purpose := .eventHeader } → s.window .event = some e →
    pw = Memory.readWord s.bus.mem addr.toNat → cw = Memory.readWord s.bus.mem (addr.toNat + 4) →
    c = (if cw.toNat < ringCapacity e then cw.toNat else if bits pw 0 16 < ringCapacity e then bits pw 0 16 else 0) →
    p = (if bits pw 0 16 < ringCapacity e then bits pw 0 16 else c) →
    (s.shadow.part = .running →
      ∃ y o, exec .eventHeaderReadDone s = .next (finish y) ∧ o = (s.events.overflow || bit pw 31) ∧
        y.events = { ring := some { producer := p, consumer := c }, overflow := o, classes := s.events.classes } ∧
        y.bus.internal = s.bus.internal ++ (if p = bits pw 0 16 ∧ o = bit pw 31 then []
          else [writeBurst (windowAddr e 0) [producerWord p o] .plain]) ∧
        y.shadow = s.shadow ∧ y.tracker = s.tracker ∧ y.bus.mem = s.bus.mem) ∧
    (s.shadow.part = .starting → s.shadow.load = none →
      ∃ y, exec .eventHeaderReadDone s = .next (finish y) ∧
        y.events = { ring := some { producer := p, consumer := c }, overflow := bit pw 31, classes := s.events.classes } ∧
        y.bus.internal = s.bus.internal ++ (if p = bits pw 0 16 then []
          else [writeBurst (windowAddr e 0) [producerWord p (bit pw 31)] .plain]) ∧
        y.shadow = s.shadow ∧ y.tracker = s.tracker ∧ y.tally = s.tally ∧ y.bus.mem = s.bus.mem) ∧
    ∀ ld, s.shadow.part = .starting → s.shadow.load = some ld →
      (ld.awaitTally = true →
        ∃ y, exec .eventHeaderReadDone s = .next (finish y) ∧
          y.events = { ring := some { producer := p, consumer := c }, overflow := bit pw 31, classes := s.events.classes } ∧
          y.shadow = { s.shadow with load := some { ld with awaitEvent := false } } ∧
          y.bus.internal = s.bus.internal ++ (if p = bits pw 0 16 then []
            else [writeBurst (windowAddr e 0) [producerWord p (bit pw 31)] .plain]) ∧ y.bus.mem = s.bus.mem) ∧
      (ld.awaitTally = false →
        ∃ y more, exec .eventHeaderReadDone s = .next (finish (afterEntry s y ld.cause)) ∧ EntryWork s y ∧ EntryTally s y ∧
          y.bus.internal = s.bus.internal ++ (if p = bits pw 0 16 then []
            else [writeBurst (windowAddr e 0) [producerWord p (bit pw 31)] .plain]) ++
            (if s.tally.kept then tallyWrites y.tally (y.window .tally) else []) ++ more ∧ (∀ b ∈ more, EngineAccess b) ∧
          y.shadow.words = s.shadow.words ∧ y.shadow.entries = s.shadow.entries ∧
          y.events = { ring := some { producer := p, consumer := c }, overflow := bit pw 31, classes := s.events.classes })

/-- In a load with a TALLY window in force, the header read completes. The selector is the active bank read, 0 for a value other than
0 or 1; the swap state is SWAPPING exactly when bit 8 was set, with its zeroing begun from the first burst, and then the active
bank's saturated flag is clear; every other saturated flag is as read, and the queue stays. The header is written with these
values, and the first zeroing burst behind it when SWAPPING. In a load that still awaits the event header the part goes on
STARTING without awaiting this one. In one that does not, the part is RUNNING and every block has taken its entry work; the events
of the entry are handed to the event writer, and then every held write is judged as one arriving now, in order of arrival. The
header word has its items at their bits, every other bit 0. That detail B of LINE_RESET holds posts in its low and pending entries
in its high half is the model's reading (log 26). (Cites: 08_tally_banks.md: The TALLY Window;
10_chassis_bus_path_setup_and_start_up.md: Start-up; 08_tally_banks.md: The Bank Swap; 11_formats_in_line_memory.md: Tally Area.) -/
def Obligations.TallyHeaderReadSetsTally : Prop :=
  (∀ (s : State) (ld : Load) (e : WindowEntry) (addr w : Word) (ty : Tally),
      s.bus.port = some { addr := addr, access := .read 1, purpose := .tallyHeader } → s.shadow.load = some ld →
      s.shadow.part = .starting → s.window .tally = some e → s.tally.kept = false → w = Memory.readWord s.bus.mem addr.toNat →
      ty = { s.tally with
        bank := bits w 0 8 == 1, swap := if bit w 8 then some { zeroing := .running e.start, done := 0 } else none
        saturated0 := bit w 9 && !(bit w 8 && !(bits w 0 8 == 1)), saturated1 := bit w 10 && !(bit w 8 && (bits w 0 8 == 1)) } →
      (ld.awaitEvent = true →
        ∃ z, exec .tallyHeaderReadDone s = .next (finish z) ∧ z.tally = ty ∧
          z.shadow = { s.shadow with load := some { ld with awaitTally := false } } ∧
          z.bus.internal = s.bus.internal ++ tallyWrites ty (some e) ∧ z.tracker = s.tracker ∧ z.events = s.events ∧
          z.bus.mem = s.bus.mem) ∧
      (ld.awaitEvent = false →
        ∃ z more, exec .tallyHeaderReadDone s = .next (finish (afterEntry s z ld.cause)) ∧ EntryWork s z ∧
          z.shadow.words = s.shadow.words ∧ z.shadow.entries = s.shadow.entries ∧ z.tally = { ty with engine := z.tally.engine } ∧
          z.bus.internal = s.bus.internal ++ tallyWrites ty (some e) ++ more ∧ (∀ b ∈ more, EngineAccess b) ∧
          z.events = s.events)) ∧
    ∀ ty : Tally, (tallyHeaderWord ty).toNat =
      ty.bank.toNat + 2 ^ 8 * ty.swap.isSome.toNat + 2 ^ 9 * ty.saturated0.toNat + 2 ^ 10 * ty.saturated1.toNat

/-- A watched write of the format word completes at the port while the part is TRANSPARENT: memory holds it, its master is answered,
the part is STARTING with a load begun by the format word write, the event writer holds no header state and no flag, and the read
of address 0 is the last access issued. The row MEMORY_BURST_DONE does the same there. Such a write that completes while the part
is not TRANSPARENT starts nothing: it completes as MEMORY_BURST_DONE gives, and the row FORMAT_WORD_WRITE changes nothing (the
model's reading, logs 10 and 11). (Cites: 10_chassis_bus_path_setup_and_start_up.md: Start-up.) -/
def Obligations.FormatWordWriteStarts : Prop :=
  (∀ (s : State) (addr : Word) (beats : List Beat) (txn : Nat) (m : Master),
    s.bus.port = some { addr := addr, access := .write beats, purpose := .chassis txn m true } → s.shadow.part = .transparent →
    ∀ c, c = .formatWordWrite ∨ c = .memoryBurstDone → ∃ y, exec c s = .next (finish y) ∧ y.shadow.part = .starting ∧
      y.shadow.load = some { cause := .formatWord, words := [], awaitEvent := false, awaitTally := false } ∧
      y.shadow.words = s.shadow.words ∧ y.events = { ring := none, overflow := false, classes := 0 } ∧
      y.bus.internal.getLast? = some { addr := 0, access := .read 1, purpose := .loadFormat } ∧
      y.bus.mem = Memory.writeBeats s.bus.mem addr.toNat beats ∧
      y.bus.answers = s.bus.answers ++ [{ txn := txn, master := m, reply := .written }] ∧ y.tracker.lug = s.tracker.lug) ∧
    ∀ (s : State) (addr : Word) (beats : List Beat) (txn : Nat) (m : Master),
      s.bus.port = some { addr := addr, access := .write beats, purpose := .chassis txn m true } → s.shadow.part ≠ .transparent →
      exec .formatWordWrite s = .next (finish s)

/-- The DONE of an accepted LINERESET completes while RUNNING: the part is STARTING, lug number 0, every record slot FREE, no post,
pending entry, held or waiting read, close, run, queue entry, slot table or intake entry is left, an engine's reads run on and are
dropped, bin counts, skip count, saw test, guard flags and FORCE are at their power-on values, and held and waiting reads are
refused in order. The ABANDONED result word of every post with its tag and then that of every pending entry is issued behind the
accesses already waiting. The mirrors are not rewritten: each area keeps its count, and a noted change is dropped. The tally unit
keeps selector, queue, swap and flags. With its queue worked off and no swap, or without a TALLY window, the reset goes on at
once: behind the ABANDONED words stand the STARTING image of the status block, when a RECORD window is in force, and the load's
first read, and nothing else; with a write of the status block outstanding the image waits for its end, and the load behind it
(the model's reading, log 20). Else only reads of a tally update stand there, no load has begun, and the event writer goes on.
(Cites: 10_chassis_bus_path_setup_and_start_up.md: Start-up; 06_operator_overrides.md: Requests Without a Board;
01_lugs_and_the_record_table.md: Line Reset and the Lug Tracker; 07_trimmer_and_sorter_answers.md: Hold Expiry and the Fallback;
08_tally_banks.md: Window Changes and Resets; 01_lugs_and_the_record_table.md: Record Mirrors; 01_lugs_and_the_record_table.md:
The Line Status Block.) -/
def Obligations.LineResetStartClears : Prop :=
  ∀ (s : State) (b : Burst) (m : Master), s.bus.port = some b → b.purpose = .lineResetDone → s.shadow.part = .running →
    s.shadow.phase = .accepted m →
    ∃ (y : State) (old more : List Burst) (goes : Prop), exec .lineResetStart s = .next (finish y) ∧ y.shadow.part = .starting ∧
      y.tracker.lug = 0 ∧ y.tracker.records = List.replicate 32 Record.blank ∧ y.measure = { awaiting := [], finalising := [] } ∧
      y.optimizer = { queue := [], run := none } ∧ y.skip = 0 ∧ y.lineGuard = LineGuard.powerOn ∧
      y.dispatch = Dispatch.powerOn ∧ y.intake.queue = [] ∧ y.intake.tables = List.replicate 6 none ∧
      y.intake.engine = s.intake.engine.map (fun e => { e with dropped := true }) ∧
      y.overrides.fifo = [] ∧ y.overrides.waiting = [] ∧ y.overrides.trimEntries = List.replicate 32 none ∧
      y.overrides.sawMask = 0 ∧ y.overrides.sawTimer = none ∧
      y.tally = { s.tally with engine := y.tally.engine, kept := (s.window .tally).isNone } ∧
      y.shadow.report = some { master := m, posts := s.overrides.fifo.length, pendings := s.overrides.waiting.length } ∧
      y.shadow.words = s.shadow.words ∧ y.shadow.entries = s.shadow.entries ∧
      y.bus.answers = s.bus.answers ++ s.dispatch.held.map (fun h => { txn := h.txn, master := h.master, reply := .error }) ++
        s.dispatch.waiting.map (fun h => { txn := h.txn, master := h.master, reply := .error }) ∧
      y.bus.internal = old ++ s.overrides.fifo.map (fun q => resultBurst q.addr q.tag .abandoned .plain) ++
        s.overrides.waiting.map (fun q => resultBurst q.addr q.tag .abandoned .plain) ++ more ∧
      old.map (fun x => (x.addr, x.access)) = s.bus.internal.map (fun x => (x.addr, x.access)) ∧
      (∀ k, k < 32 → y.area k = { s.area k with pub := if (s.area k).pub = .writingDirty then .writing else (s.area k).pub }) ∧
      (goes ↔ s.window .tally = none ∨ (s.tally.queue = [] ∧ s.tally.swap = none ∧ s.tally.engine = none)) ∧
      (goes → ResetProceeds s y more) ∧
      (¬ goes → (∀ x ∈ more, ∃ last, x.purpose = .tallyRead last) ∧ y.shadow.phase = .draining ∧ y.shadow.load = s.shadow.load ∧
        y.events = s.events) ∧
      y.bus.mem = (Burst.perform s.bus.mem b).1

/-- While STARTING with RESET_N released, a write of 1 to 16 words whose first byte lies below 0x1000 joins the held writes at their
end; it is not answered, joins no stream and reaches no word of the shadow, and nothing else of the part changes but the
transaction number. (Cites: 10_chassis_bus_path_setup_and_start_up.md: Start-up.) -/
def Obligations.SetupWriteHeldWhileStarting : Prop :=
  ∀ (c : Instr) (w : BusWrite) (s : State), arrivalOf c = some (.write w) → BusWrite.wellFormed w = true → s.resetAsserted = false →
    s.shadow.part = .starting → w.addr.toNat < 4096 →
    exec c s = .next (finish { s with
      shadow := { s.shadow with held := s.shadow.held ++ [{ txn := s.bus.nextTxn, write := w }] }
      bus := { s.bus with nextTxn := s.bus.nextTxn + 1 } })

/-- With RESET_N released, a transaction of 1 to 16 words passes plain while TRANSPARENT, while STARTING unless it is a write whose
first byte lies in the setup window, and while RUNNING when every word it touches lies outside the setup window and the windows in
force. It joins the end of the through stream as one burst, no answer is given yet, and no block is touched: inputs, part state,
shadow, lug number, records, frame intake, close list, decision queue, overrides, dispatch unit, tally unit, line guard, event
writer, skip count and every byte of memory stay, but for what an idle optimizer or update engine takes up. (Cites:
10_chassis_bus_path_setup_and_start_up.md: Judging a Transaction; 10_chassis_bus_path_setup_and_start_up.md: Start-up.) -/
def Obligations.PlainTransactionsPass : Prop :=
  ∀ (c : Instr) (x : Transaction) (s : State), arrivalOf c = some x → 1 ≤ Transaction.words x → Transaction.words x ≤ 16 →
    s.resetAsserted = false →
    (s.shadow.part = .transparent ∨
      (s.shadow.part = .starting ∧ (Transaction.isWrite x = false ∨ 4096 ≤ (Transaction.addr x).toNat)) ∨
      (s.shadow.part = .running ∧ ∀ r ∈ regionsOf s.shadow.entries x, r = .outside)) →
    ∃ y more, exec c s = .next (finish y) ∧ y.bus.through = s.bus.through ++ [passedBurst s x] ∧
      y.bus.answers = s.bus.answers ∧ y.bus.nextTxn = s.bus.nextTxn + 1 ∧ OnlyEngines s y ∧ y.events = s.events ∧
      y.bus.internal = s.bus.internal ++ more ∧ ∀ b ∈ more, EngineAccess b

/-- While RUNNING, a transaction of 1 to 16 words that fails a check is answered with an error response and joins no stream. The event
writer takes event ACCESS, class SETUP, with the byte address, the master, the direction and the code of the first check that
failed. Nothing else of the part changes, but for what an idle optimizer or update engine takes up. The cause is the first that
fails in the order SPAN, ALIGN, MASK, PARTIAL, OWNED, BURST, RANGE, each as the rules give it; there is none exactly when none
fails. An entry is a window in force exactly when it is enabled and valid and no lower one of its kind (for FRAME, of its head)
is; a word lies in the setup window below 0x1000, else in the lowest window in force that covers it, else outside. (Cites:
10_chassis_bus_path_setup_and_start_up.md: Judging a Transaction; 10_chassis_bus_path_setup_and_start_up.md: Windows;
10_chassis_bus_path_setup_and_start_up.md: The Event Ring; 07_trimmer_and_sorter_answers.md: The TRIM and SORT Windows;
08_tally_banks.md: The TALLY Window.) -/
def Obligations.RefusedTransactionsHaveNoEffect : Prop :=
  (∀ (c : Instr) (x : Transaction) (cause : AccessCause) (e : Event) (s : State), arrivalOf c = some x →
      1 ≤ Transaction.words x → Transaction.words x ≤ 16 → s.resetAsserted = false → s.shadow.part = .running →
      accessCause s.shadow s.tally x = some cause → e = event .setup 1 s.tracker.lug (Transaction.addr x)
        (triple (Transaction.master x).toNat (Transaction.isWrite x).toNat cause.code) →
      ∃ y more, exec c s = .next (finish y) ∧ y.bus.through = s.bus.through ∧
        y.bus.answers = s.bus.answers ++ [errorAnswer s (Transaction.master x)] ∧ y.events = (emit e s).events ∧
        y.events.classes.getLsbD 6 = true ∧ OnlyEngines s y ∧ y.bus.internal = (emit e s).bus.internal ++ more ∧
        ∀ b ∈ more, EngineAccess b) ∧
    (∀ (sh : Shadow) (ty : Tally) (x : Transaction) (cause : AccessCause), accessCause sh ty x = some cause ↔
      Fails sh ty x cause ∧ ∀ d, d.code < cause.code → ¬ Fails sh ty x d) ∧
    (∀ (sh : Shadow) (ty : Tally) (x : Transaction), accessCause sh ty x = none ↔ ∀ d, ¬ Fails sh ty x d) ∧
    (∀ (es : List WindowEntry) (i : Nat), isInForce es i = true ↔ EnabledAndValid (entryAt es i) ∧
      ∀ j, j < i → EnabledAndValid (entryAt es j) → ¬ ((entryAt es j).kind = (entryAt es i).kind ∧
        ((entryAt es i).kind = .frame → (entryAt es j).head = (entryAt es i).head))) ∧
    ∀ (es : List WindowEntry) (a : Nat), (classify es a = .setup ↔ a < 4096) ∧
      (∀ i, classify es a = .window i ↔ 4096 ≤ a ∧ i < 16 ∧ isInForce es i = true ∧
        ((entryAt es i).start ≤ a ∧ a ≤ (entryAt es i).top + 3) ∧
        ∀ j, j < i → isInForce es j = true → ¬ ((entryAt es j).start ≤ a ∧ a ≤ (entryAt es j).top + 3))

/-- A setup write that passes the checks while RUNNING joins the through stream. Every word that holds a field and is carried as a
full word takes its value in the shadow, the others stay; an entry in force becomes what its words hold when its control word is
carried. Filter times are those of the new shadow. A head whose FRAME window changed has a table of FREE slots, or none; one whose
table is lost loses its intake entries, held-slot entries and engine read, marks pass on, with class FRAME. An EVENT window that
changed leaves no header state and has its header read. A TALLY window that changed is given the header, and an unfinished zeroing
begins again there. A RECORD window that changed has every area begun or noted. What counts as a change is the model's reading
(log 31): entry index or base of a TALLY or RECORD window; its size too of an EVENT, its limit too of a FRAME window. Class SETUP
is pending exactly when it was, or a carried field is clamped, or release or refresh threshold takes a new value in use from a
write of its bound that does not carry it itself, or an entry the write carries is enabled and ignored. That a write carrying both
bound and field is judged by the field alone is the model's reading of R184 (log 21). A write outside the grading tables that
leaves EVENT and TALLY windows where they were gives one SETUP_ERR for each of these and then one WINDOW_LOST for each lost table,
with the number of its entries removed, and no other event; their order is the model's choice (log 22). Values in use lie in their
ranges. Bins, posts, held reads, guard flags, skip count and memory stay. (Cites: 10_chassis_bus_path_setup_and_start_up.md: The
Setup Shadow; 10_chassis_bus_path_setup_and_start_up.md: Windows; 02_scanner_heads_and_frame_intake.md: Loss of a Slot Table;
01_lugs_and_the_record_table.md: Record Mirrors; 08_tally_banks.md: Window Changes and Resets;
10_chassis_bus_path_setup_and_start_up.md: The Event Ring.) -/
def Obligations.SetupWriteFollowed : Prop :=
  (∀ (c : Instr) (w : BusWrite) (s : State), s.Sized → arrivalOf c = some (.write w) → Admitted s (.write w) .setup →
      ∃ y, exec c s = .next (finish y) ∧ y.bus.through = s.bus.through ++ [passedBurst s (.write w)] ∧
        (∀ n b, (4 * n, b) ∈ carried w → Beat.isFull b = true → holdsField n = true → setupWord y.shadow.words n = b.data) ∧
        (∀ n, (∀ b, (4 * n, b) ∈ carried w → ¬ (Beat.isFull b = true ∧ holdsField n = true)) →
          setupWord y.shadow.words n = setupWord s.shadow.words n) ∧
        (∀ i, i < 16 → entryAt y.shadow.entries i =
          if (carried w).any (fun p => p.1 == 4 * (34 + 3 * i) && Beat.isFull p.2) then entryFromWords y.shadow.words i
          else entryAt s.shadow.entries i) ∧
        (∀ p, y.inputs.get p = { s.inputs.get p with time := filterTime y.shadow.words p }) ∧
        (∀ h, h < 6 → y.intake.tables.getD h none = if frameKey s.shadow.entries h = frameKey y.shadow.entries h
          then s.intake.tables.getD h none
          else (frameWindow y.shadow.entries h).map fun e => List.replicate (frameSlots e) .free) ∧
        y.intake.queue = s.intake.queue.filter (fun e => !losesTable s.shadow.entries y.shadow.entries e.head) ∧
        y.intake.engine = s.intake.engine.map (fun e =>
          { e with dropped := e.dropped || losesTable s.shadow.entries y.shadow.entries e.head }) ∧
        (∀ k, k < 32 → (y.record k).held =
          (s.record k).held.filter fun p => !losesTable s.shadow.entries y.shadow.entries p.1) ∧
        (∀ h, losesTable s.shadow.entries y.shadow.entries h = true → y.events.classes.getLsbD 0 = true) ∧
        (eventKey s.shadow.entries ≠ eventKey y.shadow.entries → y.events.ring = none ∧
          ∀ e, y.window .event = some e → readBurst (windowAddr e 0) 2 .eventHeader ∈ y.bus.internal) ∧
        (windowKey s.shadow.entries .tally = windowKey y.shadow.entries .tally →
          y.tally = { s.tally with engine := y.tally.engine }) ∧
        (windowKey s.shadow.entries .tally ≠ windowKey y.shadow.entries .tally →
          y.tally = { s.tally with
            engine := y.tally.engine
            swap := s.tally.swap.map fun x => if x.zeroing = .ended then x else { x with
              zeroing := match y.window .tally with
                | some e => .running e.start
                | none => .waiting } } ∧
          ∀ e, y.window .tally = some e →
            writeBurst (windowAddr e 0) [tallyHeaderWord s.tally] .plain ∈ y.bus.internal ∧
            ∀ x, s.tally.swap = some x → x.zeroing ≠ .ended →
              writeBurst (BitVec.ofNat 32 (e.start + 256 + 1024 * s.tally.bank.toNat)) (List.replicate 16 0) (.zeroing 0) ∈
                y.bus.internal) ∧
        (windowKey s.shadow.entries .record ≠ windowKey y.shadow.entries .record → y.window .record ≠ none →
          ∀ k, k ≤ 32 → (y.area k).pub ≠ .idle) ∧
        (y.events.classes.getLsbD 6 = true ↔ s.events.classes.getLsbD 6 = true ∨
          (∃ n, Carries w n ∧ inUse y.shadow.words n ≠ (setupWord y.shadow.words n).toNat) ∨
          (Carries w 10 ∧ ¬ Carries w 11 ∧ release s.shadow.words ≠ release y.shadow.words) ∨
          (Carries w 12 ∧ ¬ Carries w 13 ∧ refreshThreshold s.shadow.words ≠ refreshThreshold y.shadow.words) ∨
          ∃ i, i < 16 ∧ Carries w (34 + 3 * i) ∧ (entryAt y.shadow.entries i).enabled = true ∧
            isInForce y.shadow.entries i = false) ∧
        ((∃ h, losesTable s.shadow.entries y.shadow.entries h = true) → MarksPassed s.intake.queue
          (fun e => losesTable s.shadow.entries y.shadow.entries e.head) s.tracker.lug s.measure y.measure) ∧
        ((∀ h, losesTable s.shadow.entries y.shadow.entries h = false) → y.measure = s.measure) ∧
        (eventKey s.shadow.entries = eventKey y.shadow.entries → windowKey s.shadow.entries .tally = windowKey y.shadow.entries .tally →
          (∀ p ∈ setupCarried w, inGradingTables p.1 = false) → EventsWritten
            ((ignoredByWrite y.shadow.entries (setupCarried w)).map (fun p =>
                event .setup 2 s.tracker.lug (wordOf [place p.1 0 31, placeBit true 31]) (single p.2)) ++
              (clampedByWrite s.shadow.words y.shadow.words (setupCarried w)).map (fun n =>
                event .setup 2 s.tracker.lug (single (4 * n)) (single (inUse y.shadow.words n))) ++
              ((List.range 6).filter fun h => losesTable s.shadow.entries y.shadow.entries h).map fun h =>
                event .frame 8 s.tracker.lug (single h) (single (s.intake.queue.countP fun e => e.head == h))) s y) ∧
        y.shadow.part = .running ∧ y.dispatch = s.dispatch ∧ y.overrides = s.overrides ∧ y.lineGuard = s.lineGuard ∧
        y.skip = s.skip ∧ y.bus.answers = s.bus.answers ∧ y.tracker.lug = s.tracker.lug ∧ y.bus.mem = s.bus.mem) ∧
    ∀ (ws : List Word) (v : Nat → Nat), (∀ n, v n = (setupWord ws n).toNat) →
      commitPosition ws = max 2 (min (v 7) 28) ∧ minimumLength ws = max 1 (min (v 19) 12) ∧
      skipHigh ws = max 1 (min (v 10) 32) ∧ release ws = min (v 11) (skipHigh ws - 1) ∧
      skipQuantum ws = max 1 (min (v 12) 15) ∧ refreshThreshold ws = min (v 13) (skipQuantum ws - 1) ∧
      holdLimit ws = max 1 (min (v 8) 65535) ∧ backlogLimit ws = max 1 (min (v 14) 32) ∧
      filterTime ws .lug = min (v 4) 1023 ∧ filterTime ws .eye = min (v 5) 1023 ∧ filterTime ws .almin = min (v 6) 1023 ∧
      airThreshold ws = min (v 18) 2000 ∧
      (∀ h, h < 6 → zoneStart ws h = min (v (84 + 6 * h)) 7320 ∧ zoneLength ws h = max 1 (min (v (85 + 6 * h)) 4095)) ∧
      (∀ g, g < 7 → limitThickness ws g = min (v (128 + 5 * g)) 2000 ∧ limitWidth ws g = min (v (129 + 5 * g)) 4000 ∧
        limitWane ws g = min (v (130 + 5 * g)) 1275) ∧
      ∀ b, b < 16 → binMinimum ws b = max 1 (min (v (273 + 4 * b)) 12) ∧ binMaximum ws b = max 1 (min (v (274 + 4 * b)) 12)

/-- A permitted setup write that carries at least one word of the grading tables: every uncommitted record that is DECIDED or
OPTIMIZING is QUEUED with its decision absent (or already taken again by the idle optimizer); every committed record, and every
one SCANNING, CLOSING or DISPATCHED, is as it was, and a QUEUED one at most becomes OPTIMIZING (a lost slot table may shorten
held-slot lists). The queue then holds its entries and one for each record sent back, each behind entries of greater position
only. The run of an uncommitted OPTIMIZING record is abandoned, any other goes on; the idle optimizer takes the head of that
queue, with the record as QUEUED and the new tables. When records were sent back, class DECISION is pending and RESTART, with
their number and the lug of the abandoned run or 0xFFFFFFFF, is the last event handed to the event writer. When every word carried
is of the grading tables, the events are one SETUP_ERR for each carried field that is clamped and then RESTART, held-slot lists,
frame intake, close list, overrides and dispatch unit stay, and so does memory. That SETUP_ERR comes by offset and RESTART behind
every other event of the write is the model's choice (log 22). (Cites: 05_the_decision_queue_and_line_pacing.md: Grading Table
Writes; 05_the_decision_queue_and_line_pacing.md: The Decision Queue; 05_the_decision_queue_and_line_pacing.md: What Arrives
During a Run.) -/
def Obligations.GradingTableWriteSendsBack : Prop :=
  ∀ (c : Instr) (w : BusWrite) (s : State) (sent : List Nat) (lost : Word) (restart : Event), s.TableSound →
    arrivalOf c = some (.write w) → Admitted s (.write w) .setup → (∃ p ∈ setupCarried w, inGradingTables p.1 = true) →
    sent = (List.range 32).filter (fun k => decide ((s.record k).committed = false ∧
      ((s.record k).state = .decided ∨ (s.record k).state = .optimizing))) →
    (∀ u, s.optimizer.run = some u → (s.record u.slot).state = .optimizing → (s.record u.slot).committed = false →
      lost = single u.lug.toNat) →
    ((∀ u, s.optimizer.run = some u → ¬ ((s.record u.slot).state = .optimizing ∧ (s.record u.slot).committed = false)) →
      lost = 0xFFFFFFFF#32) →
    restart = event .decision 2 s.tracker.lug (single sent.length) lost →
    ∃ y q, exec c s = .next (finish y) ∧
      (∀ k ∈ sent, ∃ st, (st = .queued ∨ st = .optimizing) ∧
        y.record k = { s.record k with state := st, decision := none, held := (y.record k).held }) ∧
      (∀ k, k < 32 → k ∉ sent → (s.record k).state ≠ .queued → y.record k = { s.record k with held := (y.record k).held }) ∧
      (∀ k, k < 32 → (s.record k).state = .queued →
        ∃ st, (st = .queued ∨ st = .optimizing) ∧ y.record k = { s.record k with state := st, held := (y.record k).held }) ∧
      q.Perm (s.optimizer.queue ++ sent.map fun k => { slot := k, lug := (s.record k).lug }) ∧
      q.Pairwise (fun e f => position s.tracker.lug f.lug < position s.tracker.lug e.lug) ∧
      (∀ u, s.optimizer.run = some u → ¬ ((s.record u.slot).state = .optimizing ∧ (s.record u.slot).committed = false) →
        y.optimizer = { queue := q, run := some u }) ∧
      ((∀ u, s.optimizer.run = some u → (s.record u.slot).state = .optimizing ∧ (s.record u.slot).committed = false) →
        (q = [] → y.optimizer = { queue := [], run := none }) ∧
        ∀ e rest, q = e :: rest → ∃ r, r.state = .queued ∧ y.record e.slot = { r with state := .optimizing } ∧
          y.optimizer = { queue := rest, run := some { slot := e.slot, lug := e.lug, record := r, tables := y.shadow.words } }) ∧
      (sent ≠ [] → y.events.classes.getLsbD 1 = true ∧ ∃ z more, z.window .event = y.window .event ∧
        y.events = (emit restart z).events ∧ y.bus.internal = (emit restart z).bus.internal ++ more ∧
        ∀ b ∈ more, EngineAccess b) ∧
      ((∀ p ∈ setupCarried w, inGradingTables p.1 = true) →
        (∃ (ns : List Nat) (es : List Event) (more : List Burst),
          (∀ n, n ∈ ns ↔ Carries w n ∧ inUse y.shadow.words n ≠ (setupWord y.shadow.words n).toNat) ∧ ns.Pairwise (· < ·) ∧
          es = ns.map (fun n => event .setup 2 s.tracker.lug (single (4 * n)) (single (inUse y.shadow.words n))) ++
            (if sent = [] then [] else [restart]) ∧
          y.events = (emitAll es s).events ∧ y.bus.internal = (emitAll es s).bus.internal ++ more ∧ ∀ b ∈ more, EngineAccess b) ∧
        (∀ k, k < 32 → (y.record k).held = (s.record k).held) ∧
        y.intake = s.intake ∧ y.measure = s.measure ∧ y.overrides = s.overrides ∧ y.dispatch = s.dispatch) ∧
      y.bus.mem = s.bus.mem

/-- A permitted full-word write of the guard enable mask (word 15) sets that word of the shadow, and at once ALMOUT is asserted
exactly when FORCE is set, filtered ALMIN is asserted or some latched flag has its bit in the new mask. One of the event class
enable mask (word 2) sets that word, and at once ATTN is asserted exactly when some pending class has its bit in the new mask.
Guard flags, FORCE and pending classes stay. (Cites: 09_line_guard.md: ALMOUT; 10_chassis_bus_path_setup_and_start_up.md: The
Event Ring.) -/
def Obligations.EnableMaskWritesActAtOnce : Prop :=
  ∀ (c : Instr) (m : Master) (d : Word) (s : State), s.Sized →
    (arrivalOf c = some (.write (oneWord m 60#32 d)) → Admitted s (.write (oneWord m 60#32 d)) .setup →
      ∃ t, exec c s = .next t ∧ setupWord t.shadow.words 15 = d ∧ t.lineGuard = s.lineGuard ∧
        (t.outputs.almout = true ↔ s.lineGuard.force = true ∨ s.inputs.almin.filtered = true ∨
          ∃ i, i < 6 ∧ (s.flag i).latched = true ∧ d.getLsbD i = true)) ∧
    (arrivalOf c = some (.write (oneWord m 8#32 d)) → Admitted s (.write (oneWord m 8#32 d)) .setup →
      ∃ t, exec c s = .next t ∧ setupWord t.shadow.words 2 = d ∧ t.events.classes = s.events.classes ∧
        (t.outputs.attn = true ↔ ∃ i, i < 8 ∧ s.events.classes.getLsbD i = true ∧ d.getLsbD i = true))

/-- A permitted full-word write of the consumer word joins the through stream as one burst. With header state held, the consumer index
takes the value; when it then equals the producer index, every pending flag and the overflow flag are cleared, and the producer
word is written with the flag clear when the overflow flag was set; when it does not, the flags keep their values and the event
writer issues nothing. Without header state the event writer keeps what it has (the model's choice, log 27). Only accesses of an
idle update engine and the mirror accesses of an idle optimizer's start stand behind. An event handed in sets its class's pending
flag. With room it is written: the four words of entry p, then the producer word with the next index and the overflow flag as it
stands, and p advances; entry p is none of those not yet read, and the ring then holds one unread entry more (the ninth law). On a
full ring it is dropped and the overflow flag set, with the producer word written when that flag was clear. Without header state
it is dropped with the flag set and nothing written. The words of the ring have their items at their bits, and a class its code.
(Cites: 10_chassis_bus_path_setup_and_start_up.md: The Event Ring; 11_formats_in_line_memory.md: Event Ring.) -/
def Obligations.ConsumerWriteSetsIndex : Prop :=
  ((∀ (c : Instr) (j : Nat) (m : Master) (d : Word) (s : State), WritesWindow s c .event j 4 m d →
      ∃ y more, exec c s = .next (finish y) ∧ (∀ b ∈ more, EngineAccess b) ∧
        y.bus.through = s.bus.through ++ [passedBurst s (.write (oneWord m (windowAddr (entryAt s.shadow.entries j) 4) d))] ∧
        y.bus.answers = s.bus.answers ∧ OnlyEngines s y ∧
        (∀ r, s.events.ring = some r → d.toNat = r.producer →
          y.events = { ring := some { r with consumer := d.toNat }, overflow := false, classes := 0 } ∧
          y.bus.internal = s.bus.internal ++ (if s.events.overflow then
            [writeBurst (windowAddr (entryAt s.shadow.entries j) 0) [BitVec.ofNat 32 (r.producer % 65536)] .plain] else []) ++ more) ∧
        (∀ r, s.events.ring = some r → d.toNat ≠ r.producer →
          y.events = { s.events with ring := some { r with consumer := d.toNat } } ∧ y.bus.internal = s.bus.internal ++ more) ∧
        (s.events.ring = none → y.events = s.events ∧ y.bus.internal = s.bus.internal ++ more)) ∧
    ∀ (s : State) (e : Event) (cls : BitVec 8), cls = s.events.classes ||| BitVec.twoPow 8 e.cls.code →
      (∀ r w, s.events.ring = some r → s.window .event = some w → (r.producer + 1) % ringCapacity w ≠ r.consumer →
        emit e s = { s with
          events := { ring := some { r with producer := (r.producer + 1) % ringCapacity w }, overflow := s.events.overflow
                      classes := cls }
          bus := { s.bus with internal := s.bus.internal ++
            [writeBurst (windowAddr w (16 + 16 * r.producer))
              [wordOf [place e.code 0 8, place e.cls.code 8 3], wordOf [place e.lug.toNat 0 16], e.a, e.b] .plain,
             writeBurst (windowAddr w 0)
              [producerWord ((r.producer + 1) % ringCapacity w) s.events.overflow] .plain] } } ∧
        (r.producer < ringCapacity w → r.consumer < ringCapacity w →
          (∀ i, i < (r.producer + ringCapacity w - r.consumer) % ringCapacity w →
            (r.consumer + i) % ringCapacity w ≠ r.producer) ∧
          ((r.producer + 1) % ringCapacity w + ringCapacity w - r.consumer) % ringCapacity w =
            (r.producer + ringCapacity w - r.consumer) % ringCapacity w + 1)) ∧
      (∀ r w, s.events.ring = some r → s.window .event = some w → (r.producer + 1) % ringCapacity w = r.consumer →
        emit e s = { s with
          events := { s.events with overflow := true, classes := cls }
          bus := { s.bus with internal := s.bus.internal ++ (if s.events.overflow then []
            else [writeBurst (windowAddr w 0) [producerWord r.producer true] .plain]) } }) ∧
      (s.events.ring = none ∨ s.window .event = none →
        emit e s = { s with events := { s.events with overflow := true, classes := cls } })) ∧
    EventLayout

/-- When the port holds a chassis transaction that is no watched format word write, or the part is not TRANSPARENT, memory completes
it: a write changes exactly the bytes its beats enable (which byte an enable selects is log 2, taken from the hardware's family),
a read returns what memory holds, the master is answered with the data or with the write's completion, and intake entries and
posts that waited for that write wait no longer. Both streams, shadow, record table, dispatch unit, tally, line guard and events
stay. With a free port nothing completes (the model's reading, log 10). A burst of the part itself completes with what it means to
its block, and nothing else changes: the read of words 0 and 1 of a frame is taken by the engine; the read of word 255 of a frame
in form with slices is taken, and its slice reads go out, in ascending bursts of 16 words and a last one of what remains; slices
that are not the last are appended; zeroing burst 0 to 14 is written, and the next goes out (that one burst goes out as the one
before completes is the model's reading, log 25); reads of a load or a tally update that are not the last are appended; an event,
result or header write, a tally write that is not the last and an access of a mirror write before its closing one change only
memory. That the row MEMORY_BURST_DONE does this for the part's own bursts too is the model's reading (log 11). (Cites:
10_chassis_bus_path_setup_and_start_up.md: The Memory Port Arbiter; 02_scanner_heads_and_frame_intake.md: The Intake Queue;
08_tally_banks.md: The Bank Swap; 08_tally_banks.md: The Update; 10_chassis_bus_path_setup_and_start_up.md: Start-up.) -/
def Obligations.MemoryBurstDoneAnswers : Prop :=
  (∀ (s : State) (addr : Word) (a : Access) (txn : Nat) (m : Master) (watched : Bool),
      s.bus.port = some { addr := addr, access := a, purpose := .chassis txn m watched } →
      watched = false ∨ s.shadow.part ≠ .transparent →
      ∃ y, exec .memoryBurstDone s = .next (finish y) ∧
        (∀ beats, a = .write beats → y.bus.mem = Memory.writeBeats s.bus.mem addr.toNat beats ∧
          y.bus.answers = s.bus.answers ++ [{ txn := txn, master := m, reply := .written }]) ∧
        (∀ n, a = .read n → y.bus.mem = s.bus.mem ∧ y.bus.answers = s.bus.answers ++
          [{ txn := txn, master := m, reply := .data (Memory.readWords s.bus.mem addr.toNat n) }]) ∧
        y.bus.port = none ∧ y.bus.through = s.bus.through ∧ y.bus.internal = s.bus.internal ∧
        y.intake.queue = s.intake.queue.map (fun e =>
          { e with awaiting := if e.awaiting = some txn then none else e.awaiting }) ∧
        y.overrides.fifo = s.overrides.fifo.map (fun p =>
          { p with awaiting := if p.awaiting = some txn then none else p.awaiting }) ∧
        y.shadow = s.shadow ∧ y.tracker = s.tracker ∧ y.dispatch = s.dispatch ∧ y.tally = s.tally ∧
        y.lineGuard = s.lineGuard ∧ y.events = s.events) ∧
    (∀ s : State, s.bus.port = none → exec .memoryBurstDone s = .next (finish s)) ∧
    (∀ (s : State) (addr : Word) (g : IntakeRun), s.bus.port = some { addr := addr, access := .read 2, purpose := .frameHead } →
      s.intake.engine = some g →
      exec .memoryBurstDone s = .next (finish { s with
        intake := { s.intake with engine := some { g with
          header := Memory.readWord s.bus.mem addr.toNat, lugWord := Memory.readWord s.bus.mem (addr.toNat + 4) } }
        bus := { s.bus with port := none } })) ∧
    (∀ (s : State) (addr w : Word) (g : IntakeRun) (words : Nat),
      s.bus.port = some { addr := addr, access := .read 1, purpose := .frameTrailer } → s.intake.engine = some g →
      w = Memory.readWord s.bus.mem addr.toNat → badFrame g.head g.header w = none →
      words = 2 * min (headerCount g.header) 120 → 0 < words →
      exec .memoryBurstDone s = .next (finish { s with
        intake := { s.intake with engine := some { g with trailer := w } }
        bus := { s.bus with port := none, internal := s.bus.internal ++ (List.range ((words + 15) / 16)).map fun i =>
          { addr := g.addr + BitVec.ofNat 32 (4 * (2 + 16 * i)), access := .read (min 16 (words - 16 * i))
            purpose := .frameSlices (decide (words ≤ 16 * (i + 1))) } } })) ∧
    (∀ (s : State) (addr : Word) (n : Nat) (g : IntakeRun),
      s.bus.port = some { addr := addr, access := .read n, purpose := .frameSlices false } → s.intake.engine = some g →
      exec .memoryBurstDone s = .next (finish { s with
        intake := { s.intake with engine := some { g with slices := g.slices ++ Memory.readWords s.bus.mem addr.toNat n } }
        bus := { s.bus with port := none } })) ∧
    (∀ (s : State) (addr : Word) (beats : List Beat) (i base : Nat) (x : Swap),
      s.bus.port = some { addr := addr, access := .write beats, purpose := .zeroing i } → i < 15 → s.tally.swap = some x →
      x.zeroing = .running base →
      exec .memoryBurstDone s = .next (finish { s with bus := { s.bus with
        port := none, mem := Memory.writeBeats s.bus.mem addr.toNat beats
        internal := s.bus.internal ++ [writeBurst (BitVec.ofNat 32 (base + 256 + 1024 * s.tally.bank.toNat + 64 * (i + 1)))
          (List.replicate 16 0) (.zeroing (i + 1))] } })) ∧
    (∀ (s : State) (addr : Word) (n : Nat) (ld : Load),
      s.bus.port = some { addr := addr, access := .read n, purpose := .loadSetup false } → s.shadow.load = some ld →
      exec .memoryBurstDone s = .next (finish { s with
        shadow := { s.shadow with load := some { ld with words := ld.words ++ Memory.readWords s.bus.mem addr.toNat n } }
        bus := { s.bus with port := none } })) ∧
    (∀ (s : State) (addr : Word) (n : Nat) (r : TallyRun),
      s.bus.port = some { addr := addr, access := .read n, purpose := .tallyRead false } → s.tally.engine = some r →
      exec .memoryBurstDone s = .next (finish { s with
        tally := { s.tally with engine := some { r with values := r.values ++ Memory.readWords s.bus.mem addr.toNat n } }
        bus := { s.bus with port := none } })) ∧
    ∀ (s : State) (addr : Word) (beats : List Beat) (p : Purpose),
      (p = .plain ∨ p = .tallyWrite false ∨ ∃ k, p = .mirror k false) →
      s.bus.port = some { addr := addr, access := .write beats, purpose := p } →
      exec .memoryBurstDone s = .next (finish { s with bus := { s.bus with
        port := none, mem := Memory.writeBeats s.bus.mem addr.toNat beats } })

/-- The closing count word of an area completes. An area WRITING becomes IDLE with its count kept. One WRITING_DIRTY, with a RECORD
window in force, is WRITING again with its count raised by 2, and the six accesses of the area as it now stands join the internal
stream; without such a window it becomes IDLE. The other areas, the records and the shadow stay. A change taken to an area that is
IDLE begins its write in the same way, or nothing without a RECORD window; one taken to an area being written is noted,
WRITING_DIRTY. Every command that leaves the part RUNNING with a RECORD window in force has, for every record it changed in any
field, begun or noted the write of that record's area, and for any change of an item of the line status block that of the status
area. A write of an area puts, word by word, the count raised by 1, the 63 body words, and the count raised by 2 into it, the
status block at byte 0 of the window and the mirror of slot k at 256 (k + 1). The body of a mirror and of the status block is
given bit by bit: every named item at its bits by its code, every other bit 0. The value bits of an absent forced grade or trim
are 0 by the model's choice (log 44). In a line reset that waits for the status block, its STARTING image and the load's first
read follow, and the load begins (the model's reading, log 20). (Cites: 01_lugs_and_the_record_table.md: Record Mirrors;
01_lugs_and_the_record_table.md: The Line Status Block; 11_formats_in_line_memory.md: Line Status Block and Record Mirror;
10_chassis_bus_path_setup_and_start_up.md: Start-up.) -/
def Obligations.MirrorWriteCompletes : Prop :=
  (∀ (s : State) (addr : Word) (beats : List Beat) (k : Nat), s.Sized → k ≤ 32 →
      s.bus.port = some { addr := addr, access := .write beats, purpose := .mirror k true } → (s.shadow.phase = .statusDue → k ≠ 32) →
      ∃ y, exec .mirrorWriteComplete s = .next (finish y) ∧ y.bus.mem = Memory.writeBeats s.bus.mem addr.toNat beats ∧
        ((s.area k).pub = .writing → y.area k = { count := (s.area k).count, pub := .idle } ∧ y.bus.internal = s.bus.internal) ∧
        (∀ w, (s.area k).pub = .writingDirty → s.window .record = some w →
          y.area k = { count := (s.area k).count + 2, pub := .writing } ∧
          y.bus.internal = s.bus.internal ++ mirrorBursts w k (s.area k).count (areaBody s k)) ∧
        ((s.area k).pub = .writingDirty → s.window .record = none →
          y.area k = { count := (s.area k).count, pub := .idle } ∧ y.bus.internal = s.bus.internal) ∧
        (∀ j, j ≠ k → y.area j = s.area j) ∧ y.tracker.records = s.tracker.records ∧ y.shadow = s.shadow ∧
        y.bus.answers = s.bus.answers) ∧
    (∀ (s : State) (addr : Word) (beats : List Beat) (w : WindowEntry), s.Sized →
      s.bus.port = some { addr := addr, access := .write beats, purpose := .mirror 32 true } → s.shadow.phase = .statusDue →
      (s.area 32).pub = .writingDirty → s.window .record = some w →
      ∃ y old, exec .mirrorWriteComplete s = .next (finish y) ∧ y.bus.mem = Memory.writeBeats s.bus.mem addr.toNat beats ∧
        y.bus.internal = old ++ mirrorBursts w 32 (s.area 32).count (statusBody s) ++ [readBurst 0 1 .loadFormat] ∧
        old.map (fun x => (x.addr, x.access)) = s.bus.internal.map (fun x => (x.addr, x.access)) ∧
        y.area 32 = { count := (s.area 32).count + 2, pub := .writing } ∧ y.shadow.part = .starting ∧ y.shadow.phase = .none ∧
        y.shadow.load = some { cause := .lineReset, words := [], awaitEvent := false, awaitTally := false }) ∧
    (∀ (s : State) (k : Nat), s.Sized → k ≤ 32 →
      (∀ w, (s.area k).pub = .idle → s.window .record = some w →
        (publishArea k s).area k = { count := (s.area k).count + 2, pub := .writing } ∧
        (publishArea k s).bus.internal = s.bus.internal ++ mirrorBursts w k (s.area k).count (areaBody s k)) ∧
      ((s.area k).pub = .idle → s.window .record = none → publishArea k s = s) ∧
      ((s.area k).pub ≠ .idle → (publishArea k s).area k = { count := (s.area k).count, pub := .writingDirty } ∧
        (publishArea k s).bus = s.bus) ∧
      (∀ j, j ≠ k → (publishArea k s).area j = s.area j) ∧ (publishArea k s).tracker.records = s.tracker.records) ∧
    (∀ (c : Instr) (s t : State), s.Sized → (s.shadow.load ≠ none → s.shadow.part = .starting) → exec c s = .next t →
      t.shadow.part = .running → t.window .record ≠ none →
      (∀ k, k < 32 → t.record k ≠ s.record k → (t.area k).pub ≠ .idle) ∧
      (statusBody t ≠ statusBody s → (t.area 32).pub ≠ .idle)) ∧
    CodesAsListed ∧ (∀ r, (recordBody r).length = 63 ∧ MirrorLayout r fun n => (recordBody r).getD (n - 1) 0) ∧
    (∀ s, (statusBody s).length = 63 ∧ StatusLayout s fun n => (statusBody s).getD (n - 1) 0) ∧
    (∀ s k, areaBody s k = if k = 32 then statusBody s else recordBody (s.record k)) ∧
    ∀ (w : WindowEntry) (k : Nat) (count : Word) (body : List Word) (a : Nat → Word), body.length = 63 →
      (∀ n, a n = BitVec.ofNat 32 (w.start + (if k = 32 then 0 else 256 * (k + 1)) + 4 * n)) →
      (mirrorBursts w k count body).flatMap wordsWritten =
        (a 0, count + 1) :: (List.range 63).map (fun n => (a (n + 1), body.getD n 0)) ++ [(a 0, count + 2)]

/-- At the end of every command: with a burst at the port no grant is made; with none, the only stream that waits is granted its head;
when both wait, the internal stream is granted when the through stream was granted last, and the through stream otherwise, the
first grant among them. Each stream is served from its head, and the last grant is noted. (Cites:
10_chassis_bus_path_setup_and_start_up.md: The Memory Port Arbiter.) -/
def Obligations.PortAlternates : Prop :=
  ∀ s : State,
    (s.bus.port ≠ none → (finish s).bus = s.bus) ∧
    (s.bus.port = none → s.bus.through = [] → s.bus.internal = [] → (finish s).bus = s.bus) ∧
    (∀ b rest, s.bus.port = none → s.bus.through = b :: rest → (s.bus.internal = [] ∨ s.bus.lastGrant ≠ some .through) →
      (finish s).bus = { s.bus with port := some b, through := rest, lastGrant := some .through }) ∧
    (∀ b rest, s.bus.port = none → s.bus.internal = b :: rest → (s.bus.through = [] ∨ s.bus.lastGrant = some .through) →
      (finish s).bus = { s.bus with port := some b, internal := rest, lastGrant := some .internal })

/-- A permitted full-word write of word n of a frame slot that is not HELD joins the through stream: at word 0 the slot enters
FILLING; at word 255 with the complete marker, and fewer than 12 fresh entries, it enters HELD and a fresh entry that waits for
this write joins the intake queue at its tail; at word 255 with the marker clear, and at words 1 to 254, nothing moves. A
permitted write of any length is taken whole. When it writes into a HELD slot, or carries a complete trailer with 12 fresh entries
waiting, it is refused with an error, joins no stream and moves no slot, class FRAME is pending, and one event is written:
SLOT_BUSY with the first HELD slot it touches, else INTAKE_FULL. Otherwise it joins the through stream, and each slot moves as its
words say. Every other frame slot, the intake engine, the close list, overrides, shadow and every byte of memory stay. (Cites:
02_scanner_heads_and_frame_intake.md: Writes That Move a Frame Slot; 02_scanner_heads_and_frame_intake.md: What Frame Intake
Publishes.) -/
def Obligations.FrameSlotWritesMoveSlots : Prop :=
  (∀ (c : Instr) (j i h n : Nat) (m : Master) (d : Word) (x : Transaction) (s : State) (st : SlotState),
      (entryAt s.shadow.entries j).head = h → i < frameSlots (entryAt s.shadow.entries j) → n < 256 →
      frameSlot s h i = some st → st ≠ .held → WritesWindow s c .frame j (1024 * i + 4 * n) m d →
      x = .write (oneWord m (windowAddr (entryAt s.shadow.entries j) (1024 * i + 4 * n)) d) →
      (n = 255 → trailerComplete d = true → freshCount s < 12) →
      ∃ y, exec c s = .next (finish y) ∧ y.bus.through = s.bus.through ++ [passedBurst s x] ∧ y.bus.answers = s.bus.answers ∧
        (n = 0 → frameSlot y h i = some .filling ∧ y.intake.queue = s.intake.queue) ∧
        (n = 255 → trailerComplete d = true → frameSlot y h i = some .held ∧
          y.intake.queue = s.intake.queue ++ [{ head := h, slot := i, kind := .fresh, awaiting := some s.bus.nextTxn }]) ∧
        ((n = 255 ∧ trailerComplete d = false) ∨ (0 < n ∧ n < 255) → y.intake = s.intake) ∧
        (∀ h' i', (h', i') ≠ (h, i) → frameSlot y h' i' = frameSlot s h' i') ∧ y.intake.engine = s.intake.engine ∧
        y.measure = s.measure ∧ y.overrides = s.overrides ∧ y.shadow = s.shadow ∧ y.bus.mem = s.bus.mem) ∧
    ∀ (c : Instr) (w : BusWrite) (j h : Nat) (e : WindowEntry) (s : State), arrivalOf c = some (.write w) →
      Admitted s (.write w) (.window j) → e = entryAt s.shadow.entries j → e.kind = .frame → e.head = h →
      ((∃ i n b, SlotWord e w i n b ∧ frameSlot s h i = some .held) ∨
          (12 ≤ freshCount s ∧ ∃ i b, SlotWord e w i 255 b ∧ Beat.isFull b = true ∧ trailerComplete b.data = true) →
        ∃ y, exec c s = .next (finish y) ∧ y.bus.through = s.bus.through ∧
          y.bus.answers = s.bus.answers ++ [errorAnswer s w.master] ∧ y.intake = s.intake ∧ y.events.classes.getLsbD 0 = true ∧
          (∀ i n b, SlotWord e w i n b → frameSlot s h i = some .held →
            (∀ i' n' b', SlotWord e w i' n' b' → frameSlot s h i' = some .held → i ≤ i') →
            EventsWritten [event .frame 2 s.tracker.lug (pair h i) (single w.master.toNat)] s y) ∧
          (∀ i b, SlotWord e w i 255 b → Beat.isFull b = true → trailerComplete b.data = true →
            (∀ i' n' b', SlotWord e w i' n' b' → frameSlot s h i' ≠ some .held) →
            EventsWritten [event .frame 1 s.tracker.lug (pair h i) (single w.master.toNat)] s y) ∧
          y.measure = s.measure ∧ y.overrides = s.overrides ∧ y.shadow = s.shadow ∧ y.bus.mem = s.bus.mem) ∧
      ((∀ i n b, SlotWord e w i n b → frameSlot s h i ≠ some .held) →
        ((∃ i b, SlotWord e w i 255 b ∧ Beat.isFull b = true ∧ trailerComplete b.data = true) → freshCount s < 12) →
        ∃ y, exec c s = .next (finish y) ∧ y.bus.through = s.bus.through ++ [passedBurst s (.write w)] ∧
          y.bus.answers = s.bus.answers ∧
          (∀ i b, SlotWord e w i 255 b → Beat.isFull b = true → trailerComplete b.data = true →
            (frameSlot s h i ≠ none → frameSlot y h i = some .held) ∧ y.intake.queue = s.intake.queue ++
              [{ head := h, slot := i, kind := .fresh, awaiting := some s.bus.nextTxn }]) ∧
          (∀ i b, SlotWord e w i 0 b → Beat.isFull b = true → frameSlot s h i ≠ none → frameSlot y h i = some .filling) ∧
          (∀ h' i', (h' = h → ∀ n b, SlotWord e w i' n b → Beat.isFull b = true →
              ¬ (n = 0 ∨ (n = 255 ∧ trailerComplete b.data = true))) → frameSlot y h' i' = frameSlot s h' i') ∧
          ((∀ i b, SlotWord e w i 255 b → Beat.isFull b = true → trailerComplete b.data = false) →
            y.intake.queue = s.intake.queue) ∧ y.intake.engine = s.intake.engine ∧
          y.measure = s.measure ∧ y.overrides = s.overrides ∧ y.shadow = s.shadow ∧ y.bus.mem = s.bus.mem)

/-- A full-word write that passes the checks, to any word of a HELD frame slot, or to word 255 with the complete marker set while 12
fresh entries wait, is answered with an error, joins no stream and leaves frame intake and memory as they were; class FRAME is
pending, with event SLOT_BUSY or INTAKE_FULL naming head, frame slot and master. (Cites: 02_scanner_heads_and_frame_intake.md:
Writes That Move a Frame Slot; 02_scanner_heads_and_frame_intake.md: What Frame Intake Publishes.) -/
def Obligations.HeldSlotsAndFullQueueRefuse : Prop :=
  ∀ (c : Instr) (j i h n : Nat) (m : Master) (d : Word) (s : State) (st : SlotState), (entryAt s.shadow.entries j).head = h →
    i < frameSlots (entryAt s.shadow.entries j) → n < 256 → frameSlot s h i = some st →
    WritesWindow s c .frame j (1024 * i + 4 * n) m d →
    (st = .held ∨ (n = 255 ∧ trailerComplete d = true ∧ 12 ≤ freshCount s)) →
    ∃ y, exec c s = .next (finish y) ∧ y.bus.through = s.bus.through ∧
      y.bus.answers = s.bus.answers ++ [errorAnswer s m] ∧ y.intake = s.intake ∧
      y.measure = s.measure ∧ y.shadow = s.shadow ∧ y.overrides = s.overrides ∧ y.events.classes.getLsbD 0 = true ∧
      EventsWritten [event .frame (if st = .held then 2 else 1) s.tracker.lug (pair h i) (single m.toNat)] s y ∧
      y.bus.mem = s.bus.mem

/-- While RUNNING: the idle intake engine takes the head entry of the intake queue whose trailer write is complete, and issues a read
of words 0 and 1 and a read of word 255 of the frame slot. The idle read-back engine, with no LINERESET accepted, takes the head
post whose write is complete and issues a burst reading words 0 to 2 of the entry. Neither entry leaves its queue, and nothing
else changes. (Cites: 02_scanner_heads_and_frame_intake.md: The Intake Queue; 06_operator_overrides.md: The Post FIFO and the
Read-back.) -/
def Obligations.IdleEnginesTakeTheirHead : Prop :=
  (∀ (s : State) (e : IntakeEntry) (rest : List IntakeEntry) (w : WindowEntry), s.shadow.part = .running →
      s.intake.engine = none → s.intake.queue = e :: rest → e.awaiting = none →
      frameWindow s.shadow.entries e.head = some w →
      exec .intakeStart s = .next (finish { s with
        intake := { s.intake with engine := some {
          head := e.head, slot := e.slot, kind := e.kind
          addr := windowAddr w (1024 * e.slot), header := 0, lugWord := 0, trailer := 0, slices := [], dropped := false } }
        bus := { s.bus with internal := s.bus.internal ++
          [{ addr := windowAddr w (1024 * e.slot), access := .read 2, purpose := .frameHead },
           { addr := windowAddr w (1024 * e.slot) + 1020#32, access := .read 1, purpose := .frameTrailer }] } })) ∧
    ∀ (s : State) (p : Post) (rest : List Post), s.shadow.part = .running → s.shadow.phase = .none →
      s.overrides.readback = .idle → s.overrides.fifo = p :: rest → p.awaiting = none →
      exec .postReadbackStart s = .next (finish { s with
        overrides := { s.overrides with readback := .reading }
        bus := { s.bus with internal := s.bus.internal ++ [{ addr := p.addr, access := .read 3, purpose := .overrideRead }] } })

/-- The last read of an intake returns: the engine is idle. An entry that has left the queue meanwhile is dropped with nothing else.
Else every entry of that frame slot leaves the queue, and with the oldest entry gone each close marked with it is told that its
frames are taken in (FRAMES_TAKEN_IN): it goes to FINALISING, the closes of one change by position, greatest first; with an entry
ahead its mark passes to that; every other close stays. A fresh frame in form is merged when its record is SCANNING, or CLOSING
with the close of its lug event still owing the entry: its slot joins the held-slot list, or is FREE when that holds 12. A bad
fresh frame, and one its record does not take, leaves every record as it was and its slot FREE; the second puts a note for the
current lug on the MISSYNC flag. A read-back frame of a CLOSING record of its lug is merged when in form and of that lug; when
not, the rescan-failed flag is set, the slot leaves the held-slot list and is FREE. One whose lug has no live record, or a record
not CLOSING, changes no record and no slot and gives no event. No other record changes, but for a QUEUED one the idle optimizer
takes. The events are BAD_FRAME, LATE_FRAME for a live record of that lug and else MISSYNC, TRUNCATED at a merge with a count
above 120, and RESCAN_FAILED with the lug word as read; that its whole word stands in detail B is the model's reading (log 26).
The words of a frame slot have their items at their bits. (Cites: 02_scanner_heads_and_frame_intake.md: The Intake Queue;
02_scanner_heads_and_frame_intake.md: Judging a Fresh Frame; 02_scanner_heads_and_frame_intake.md: RESCAN;
03_measurement_and_segments.md: Merging a Frame; 02_scanner_heads_and_frame_intake.md: Close Marks;
03_measurement_and_segments.md: The Close; 02_scanner_heads_and_frame_intake.md: What Frame Intake Publishes;
11_formats_in_line_memory.md: Frame Slot.) -/
def Obligations.IntakeCompleteJudges : Prop :=
  ((∀ (s : State) (e : IntakeRun), IntakeEnds s e → e.dropped = true →
      ∃ y, exec .intakeComplete s = .next (finish y) ∧ y.intake = { s.intake with engine := none } ∧
        y.tracker = s.tracker ∧ y.measure = s.measure ∧ y.lineGuard = s.lineGuard ∧ y.events = s.events ∧
        y.bus.mem = s.bus.mem) ∧
    ∀ (s : State) (e : IntakeRun) (k : Nat) (lug : Lug) (takes : Prop), s.TableSound → IntakeEnds s e → e.dropped = false →
    (e.kind = .fresh → lug = lugTag e.lugWord) → (e.kind ≠ .fresh → e.kind = .readBack lug) → k = slotOf lug →
    (takes ↔ (s.record k).lug = lug ∧ ((s.record k).state = .scanning ∨ ((s.record k).state = .closing ∧
      ∃ c ∈ s.measure.awaiting, c.slot = k ∧ c.lug = lug ∧ c.rescan = false))) →
    ∃ y, exec .intakeComplete s = .next (finish y) ∧ y.intake.engine = none ∧
      y.intake.queue = s.intake.queue.filter (fun x => x.key != (e.head, e.slot)) ∧ y.bus.mem = s.bus.mem ∧
      y.shadow = s.shadow ∧ y.dispatch = s.dispatch ∧ othersKept s y k ∧
      MarksPassed s.intake.queue (fun x => x.key == (e.head, e.slot)) s.tracker.lug s.measure y.measure ∧
      (e.kind = .fresh → badFrame e.head e.header e.trailer = none → takes →
        (s.record k).held.length < 12 →
        y.record k = { mergeFrame s.shadow.words e.head e.frame (s.record k) with
          held := (s.record k).held ++ [(e.head, e.slot)] } ∧ y.intake.tables = s.intake.tables) ∧
      (e.kind = .fresh → badFrame e.head e.header e.trailer = none → takes →
        12 ≤ (s.record k).held.length →
        y.record k = mergeFrame s.shadow.words e.head e.frame (s.record k) ∧
        frameSlot y e.head e.slot = (frameSlot s e.head e.slot).map fun _ => .free) ∧
      (e.kind = .fresh → (badFrame e.head e.header e.trailer ≠ none ∨ ¬ takes) →
        frameSlot y e.head e.slot = (frameSlot s e.head e.slot).map (fun _ => .free) ∧ othersKept s y 32 ∧
        y.events.classes.getLsbD 0 = true ∧ (badFrame e.head e.header e.trailer ≠ none → y.lineGuard = s.lineGuard) ∧
        (badFrame e.head e.header e.trailer = none → s.tracker.lug ∈ (y.flag 1).notes)) ∧
      (e.kind = .readBack lug → (s.record k).state = .closing → (s.record k).lug = lug →
        badFrame e.head e.header e.trailer = none → lugTag e.lugWord = lug →
        y.record k = mergeFrame s.shadow.words e.head e.frame (s.record k) ∧ y.intake.tables = s.intake.tables) ∧
      (e.kind = .readBack lug → (s.record k).state = .closing → (s.record k).lug = lug →
        (badFrame e.head e.header e.trailer ≠ none ∨ lugTag e.lugWord ≠ lug) →
        y.record k = { s.record k with rescanFailed := true, held := (s.record k).held.filter fun p => p != (e.head, e.slot) } ∧
        frameSlot y e.head e.slot = (frameSlot s e.head e.slot).map (fun _ => .free) ∧ y.events.classes.getLsbD 0 = true) ∧
      (e.kind = .readBack lug → ((s.record k).state ≠ .closing ∨ (s.record k).lug ≠ lug) →
        othersKept s y 32 ∧ y.intake.tables = s.intake.tables ∧ y.events = s.events ∧ y.lineGuard = s.lineGuard) ∧
      (∀ cause, e.kind = .fresh → badFrame e.head e.header e.trailer = some cause →
        EventsWritten [event .frame 3 lug (pair e.head e.slot) (single cause)] s y) ∧
      (e.kind = .fresh → badFrame e.head e.header e.trailer = none → ¬ takes → EventsWritten
        [if (s.record k).live = true ∧ (s.record k).lug = lug
          then event .frame 5 lug (pair e.head e.slot) (single (s.record k).state.code)
          else event .frame 6 lug (pair e.head e.slot) (single s.tracker.lug.toNat)] s y) ∧
      (badFrame e.head e.header e.trailer = none → (e.kind = .fresh ∧ takes) ∨ (e.kind = .readBack lug ∧
          (s.record k).state = .closing ∧ (s.record k).lug = lug ∧ lugTag e.lugWord = lug) →
        EventsWritten (if 120 < headerCount e.header
          then [event .frame 4 lug (pair e.head e.slot) (single (headerCount e.header))] else []) s y) ∧
      (e.kind = .readBack lug → (s.record k).state = .closing → (s.record k).lug = lug →
        (badFrame e.head e.header e.trailer ≠ none ∨ lugTag e.lugWord ≠ lug) →
        EventsWritten [event .frame 7 lug (pair e.head e.slot) e.lugWord] s y) ∧
      ∀ h i, (h, i) ≠ (e.head, e.slot) → frameSlot y h i = frameSlot s h i) ∧
    FrameLayout

/-- The eighth law at a merge: converted thickness is at most 2,000 and converted width at most 4,000 for every slice. A record with
12 segments whose minimum thicknesses, minimum widths, maximum wanes and defect sums lie within 0-2,000, 0-4,000, 0-1,275 and
0-65,535, whose wood and knot counts lie within 0-255 and whose length lies within 0-7,320 keeps all of that through the merge of
any frame of slices with a raw wane of at most 255, as every slice read from memory has, under any setup; the length and each wood
count, knot count, defect sum and wane only rise, the minima only fall, and the head joins the head-contributed mask. (Cites:
03_measurement_and_segments.md: Slice Conversion; 03_measurement_and_segments.md: Merging a Frame; 00_scope.md: Laws of the
Device.) -/
def Obligations.MergeKeepsBounds : Prop :=
  (∀ w0 w1, (sliceOf w0 w1).wane ≤ 255) ∧
    ∀ (ws : List Word) (h : Nat) (slices : List Slice) (r r' : Record), r' = mergeFrame ws h slices r → h < 6 →
    (∀ c, sliceThickness ws h c ≤ 2000 ∧ sliceWidth ws h c ≤ 4000) ∧
    (r.segments.length = 12 → r.length ≤ 7320 → (∀ c ∈ slices, c.wane ≤ 255) →
      (∀ i, i < 12 → (r.segment i).minThickness ≤ 2000 ∧ (r.segment i).minWidth ≤ 4000 ∧ (r.segment i).maxWane ≤ 1275 ∧
        (r.segment i).defects ≤ 65535 ∧ (r.segment i).wood ≤ 255 ∧ (r.segment i).knots ≤ 255) →
      r'.segments.length = 12 ∧ r'.length ≤ 7320 ∧ r.length ≤ r'.length ∧ r'.contributed.getLsbD h = true ∧
      ∀ i, i < 12 → (r'.segment i).minThickness ≤ 2000 ∧ (r'.segment i).minWidth ≤ 4000 ∧ (r'.segment i).maxWane ≤ 1275 ∧
        (r'.segment i).defects ≤ 65535 ∧ (r'.segment i).wood ≤ 255 ∧ (r'.segment i).knots ≤ 255 ∧
        (r.segment i).wood ≤ (r'.segment i).wood ∧
        (r.segment i).knots ≤ (r'.segment i).knots ∧ (r.segment i).defects ≤ (r'.segment i).defects ∧
        (r.segment i).maxWane ≤ (r'.segment i).maxWane ∧ (r'.segment i).minThickness ≤ (r.segment i).minThickness ∧
        (r'.segment i).minWidth ≤ (r.segment i).minWidth)

/-- While RUNNING, the close being finalised completes for its CLOSING record. P is the length over 610, the unseen flag of a present
segment says that it has no wood slice, the short flag that P is below the minimum length, and the silent mask names each head
whose zone starts below the length and which did not contribute; when it names one, class FRAME is pending and a note for the
current lug stands on the SILENT flag. Lug, length, override parts, marks, contributing heads and held slots stay. A record
without chip or forced trim is QUEUED with its decision absent (or already taken by the idle optimizer) and its held reads wait
on; one with either holds its forced decision, with the forced flag, and is DECIDED, or with held trim reads DISPATCHED and
committed, each of them answered with the decision in order of arrival. The close leaves the list and no other record changes, but
for a QUEUED one the idle optimizer takes. The events are HEAD_SILENT with both masks when a head is silent, and TRIM_RANGE with
the lug, a and b, and P when the forced trim reaches beyond P; no result word is written. (Cites: 03_measurement_and_segments.md:
The Close; 04_grading_and_trim_selection.md: Forced Decisions; 07_trimmer_and_sorter_answers.md: Held Trim Reads;
09_line_guard.md: The Six Conditions.) -/
def Obligations.CloseCompleteFinalises : Prop :=
  ∀ (s : State) (c : Close) (rest : List Close), s.TableSound → s.shadow.part = .running → s.measure.finalising = c :: rest →
    (s.record c.slot).state = .closing → (s.record c.slot).lug = c.lug →
    ∃ y, exec .closeComplete s = .next (finish y) ∧ y.measure = { s.measure with finalising := rest } ∧
      (y.record c.slot).present = (s.record c.slot).length / 610 ∧
      (y.record c.slot).short = decide ((s.record c.slot).length / 610 < minimumLength s.shadow.words) ∧
      (∀ h, h < 6 → (y.record c.slot).silent.getLsbD h =
        (decide (zoneStart s.shadow.words h < (s.record c.slot).length) && !(s.record c.slot).contributed.getLsbD h)) ∧
      (∀ i, i < 12 → ((y.record c.slot).segment i).unseen =
        (decide (i < (s.record c.slot).length / 610) && ((s.record c.slot).segment i).wood == 0)) ∧
      (y.record c.slot).lug = (s.record c.slot).lug ∧ (y.record c.slot).length = (s.record c.slot).length ∧
      (y.record c.slot).marks = (s.record c.slot).marks ∧ (y.record c.slot).held = (s.record c.slot).held ∧
      (y.record c.slot).forcedGrade = (s.record c.slot).forcedGrade ∧
      (y.record c.slot).forcedTrim = (s.record c.slot).forcedTrim ∧ (y.record c.slot).chip = (s.record c.slot).chip ∧
      (y.record c.slot).contributed = (s.record c.slot).contributed ∧
      ((s.record c.slot).chip = false → (s.record c.slot).forcedTrim = none →
        ((y.record c.slot).state = .queued ∨ (y.record c.slot).state = .optimizing) ∧ (y.record c.slot).decision = none ∧
        y.dispatch = s.dispatch ∧ y.bus.answers = s.bus.answers) ∧
      ((y.record c.slot).silent ≠ 0 → y.events.classes.getLsbD 0 = true ∧ s.tracker.lug ∈ (y.flag 0).notes) ∧
      ((y.record c.slot).silent = 0 → y.lineGuard = s.lineGuard) ∧
      ((s.record c.slot).chip = true ∨ (s.record c.slot).forcedTrim ≠ none →
        (y.record c.slot).decision = some (forcedDecision s.shadow.words (finalise s.shadow.words (s.record c.slot))) ∧
        (y.record c.slot).forced = true ∧
        (hasHeld s c.slot = false → (y.record c.slot).state = .decided) ∧
        (hasHeld s c.slot = true → (y.record c.slot).state = .dispatched ∧ (y.record c.slot).committed = true) ∧
        y.bus.answers = s.bus.answers ++ (s.dispatch.held.filter fun h => h.slot == c.slot).map (fun h =>
          { txn := h.txn, master := h.master, reply := .data [decisionAnswer
            (forcedDecision s.shadow.words (finalise s.shadow.words (s.record c.slot))) c.lug] }) ∧
        y.dispatch = { s.dispatch with held := s.dispatch.held.filter fun h => h.slot != c.slot }) ∧
      EventsWritten ((if (y.record c.slot).silent = 0 then [] else
        [event .frame 9 c.lug (single (y.record c.slot).silent.toNat) (single (s.record c.slot).contributed.toNat)]) ++
          trimRangeEvents (y.record c.slot)) s y ∧
      othersKept s y c.slot ∧ y.bus.mem = s.bus.mem

/-- While RUNNING, the run in flight for an OPTIMIZING record of its lug completes: the record holds the decision and the segment
grades formed from what the run read, its forced flag says whether what it read held chip or a forced trim, and it is DECIDED.
Held trim reads of its slot are answered with the decision in order of arrival, and the record is then DISPATCHED and committed.
The rest of the record, no other record but a QUEUED one the idle optimizer takes, and every byte of memory stay. The events are
TRIM_RANGE when the forced trim that the run read reaches beyond the board, and DECIDED with outcome, a, b, grade and value when
its enable is set; their order is the model's choice (log 17). (Cites: 04_grading_and_trim_selection.md: The Decision in the
Record; 05_the_decision_queue_and_line_pacing.md: The Trim Optimizer as Work in Time; 07_trimmer_and_sorter_answers.md: Held Trim
Reads; 04_grading_and_trim_selection.md: Forced Decisions; 05_the_decision_queue_and_line_pacing.md: Reset of the Queue and the
Optimizer.) -/
def Obligations.OptimizerCompleteDecides : Prop :=
  ∀ (s : State) (u : Run) (d : Decision), s.TableSound → s.shadow.part = .running → s.optimizer.run = some u →
    (s.record u.slot).state = .optimizing → (s.record u.slot).lug = u.lug →
    d = (if u.record.isForced then forcedDecision u.tables u.record else searchDecision u.tables u.record) →
    ∃ y, exec .optimizerComplete s = .next (finish y) ∧
      y.record u.slot = { s.record u.slot with
        decision := some d, segments := gradedSegments u.tables u.record, forced := u.record.isForced,
        state := if hasHeld s u.slot then .dispatched else .decided,
        committed := (s.record u.slot).committed || hasHeld s u.slot } ∧
      y.bus.answers = s.bus.answers ++ (s.dispatch.held.filter fun h => h.slot == u.slot).map (fun h =>
        { txn := h.txn, master := h.master, reply := .data [decisionAnswer d u.lug] }) ∧
      y.dispatch = { s.dispatch with held := s.dispatch.held.filter fun h => h.slot != u.slot } ∧
      EventsWritten (trimRangeEvents u.record ++ if decisionEventEnable s.shadow.words then
        [event .decision 1 u.lug (triple d.verdict.code d.a d.b) (pair d.grade d.value)] else []) s y ∧
      othersKept s y u.slot ∧ y.shadow = s.shadow ∧ y.intake = s.intake ∧ y.overrides = s.overrides ∧ y.bus.mem = s.bus.mem

/-- A pair a < b <= P of length at or above the minimum is a valid candidate exactly when no segment in it has grade 7 and its price
at its piece grade is not 0; the piece grade is the forced grade, or without one the smallest from its worst segment grade to 6
whose piece budget times n its defect sums do not pass. For a record of P up to 12 without a forced grade of 7: when a candidate
is valid, the decision is PIECE with the a, b, piece grade and value of a valid candidate that no other beats by value, then by
larger n, then by smaller a; its saw mask drops every saw k with k at most a, and every one from b to the last saw of the board;
and a < b, b at most P, and b - a at or above the minimum length. With no valid candidate, or under a forced grade of 7, the
decision is REJECT with a, b and value 0 and grade 7, dropping every saw to the last of the board. A segment has grade 7 when not
present, unseen or marked, else that of the first row that passes it. (Cites: R71.) -/
def Obligations.SearchChoosesBestCandidate : Prop :=
  (∀ (ws : List Word) (r : Record), r.present ≤ 12 → r.forcedGrade ≠ some 7 → validCandidates ws r ≠ [] →
      ∃ c ∈ validCandidates ws r,
        (searchDecision ws r).verdict = .piece ∧ (searchDecision ws r).a = c.a ∧ (searchDecision ws r).b = c.b ∧
        (searchDecision ws r).grade = c.grade ∧ (searchDecision ws r).value = c.value ∧
        (∀ k, k < 13 → (searchDecision ws r).saws.getLsbD k =
          (decide (k ≤ c.a) || (decide (c.b ≤ k) && decide (k ≤ (r.length - 1) / 610)))) ∧
        (∀ x ∈ validCandidates ws r, x.value < c.value ∨
          (x.value = c.value ∧ (x.b - x.a < c.b - c.a ∨ (x.b - x.a = c.b - c.a ∧ c.a ≤ x.a)))) ∧
        c.a < c.b ∧ c.b ≤ r.present ∧ c.b ≤ 12 ∧ minimumLength ws ≤ c.b - c.a) ∧
    (∀ (ws : List Word) (r : Record), r.forcedGrade = some 7 ∨ validCandidates ws r = [] →
      (searchDecision ws r).verdict = .reject ∧ (searchDecision ws r).a = 0 ∧ (searchDecision ws r).b = 0 ∧
      (searchDecision ws r).grade = 7 ∧ (searchDecision ws r).value = 0 ∧
      ∀ k, k < 13 → (searchDecision ws r).saws.getLsbD k = decide (k ≤ (r.length - 1) / 610)) ∧
    (∀ (ws : List Word) (r : Record) (x : Candidate), x ∈ validCandidates ws r ↔
      x.a < x.b ∧ x.b ≤ r.present ∧ minimumLength ws ≤ x.b - x.a ∧
      (∀ i, x.a ≤ i → i < x.b → segmentGrade ws r i ≠ 7) ∧
      (r.forcedGrade = some x.grade ∨ (r.forcedGrade = none ∧ x.grade ≤ 6 ∧
        (∀ i, x.a ≤ i → i < x.b → segmentGrade ws r i ≤ x.grade) ∧
        defectTotal r x.a x.b ≤ pieceBudget ws x.grade * (x.b - x.a) ∧
        ∀ g, g < x.grade → (∀ i, x.a ≤ i → i < x.b → segmentGrade ws r i ≤ g) →
          pieceBudget ws g * (x.b - x.a) < defectTotal r x.a x.b)) ∧
      x.value = price ws x.grade (x.b - x.a) ∧ x.value ≠ 0) ∧
    ∀ (ws : List Word) (r : Record) (i g : Nat), segmentGrade ws r i ≤ 7 ∧
      (r.present ≤ i ∨ (r.segment i).unseen = true ∨ r.marks.getLsbD i = true → segmentGrade ws r i = 7) ∧
      (i < r.present → (r.segment i).unseen = false → r.marks.getLsbD i = false → g < 7 →
        (segmentGrade ws r i = g ↔
          (limitThickness ws g ≤ (r.segment i).minThickness ∧ limitWidth ws g ≤ (r.segment i).minWidth ∧
            (r.segment i).maxWane ≤ limitWane ws g ∧ (r.segment i).knots ≤ limitKnots ws g ∧
            (r.segment i).defects ≤ segmentBudget ws g) ∧
          ∀ f, f < g → ¬ (limitThickness ws f ≤ (r.segment i).minThickness ∧ limitWidth ws f ≤ (r.segment i).minWidth ∧
            (r.segment i).maxWane ≤ limitWane ws f ∧ (r.segment i).knots ≤ limitKnots ws f ∧
            (r.segment i).defects ≤ segmentBudget ws f)))

/-- A permitted full-word write of word 2 of an entry of the OVERRIDE window in force. With the marker set, no post of that entry in
the FIFO and fewer than 16 posts, it passes and the post joins the FIFO at its tail with the entry's address and index, the tag
and the master, waiting for this write. With a post of that entry in the FIFO, or with 16 posts and the marker set, it is answered
with an error, the FIFO stays, class OVERRIDE is pending, and event POST_BUSY or POST_FULL names the entry and the master. With
the marker clear and no post of that entry it passes and makes no post. A permitted write of any length is taken whole: it is
refused in the same way when it writes word 0, 1 or 2 of an entry whose post stands in the FIFO, or makes more posts than the FIFO
has places; otherwise it passes and its posts join the FIFO in ascending address order. Memory and the rest of the override unit
stay. (Cites: 06_operator_overrides.md: Posting; 06_operator_overrides.md: The Post FIFO and the Read-back;
06_operator_overrides.md: Events of the Override Unit.) -/
def Obligations.PostsJoinTheFifo : Prop :=
  (∀ (c : Instr) (j i : Nat) (m : Master) (d a : Word) (x : Transaction) (s : State),
      i < overrideEntries (entryAt s.shadow.entries j) →
      a = windowAddr (entryAt s.shadow.entries j) (16 * i) → WritesWindow s c .override j (16 * i + 8) m d →
      x = .write (oneWord m (windowAddr (entryAt s.shadow.entries j) (16 * i + 8)) d) →
      ∃ y, exec c s = .next (finish y) ∧ y.bus.mem = s.bus.mem ∧ y.overrides.waiting = s.overrides.waiting ∧
        y.overrides.trimEntries = s.overrides.trimEntries ∧ y.overrides.readback = s.overrides.readback ∧ y.shadow = s.shadow ∧
        y.intake = s.intake ∧
        ((∀ p ∈ s.overrides.fifo, p.addr ≠ a) → postMarker d = true → s.overrides.fifo.length < 16 →
          y.bus.through = s.bus.through ++ [passedBurst s x] ∧ y.bus.answers = s.bus.answers ∧
          y.overrides.fifo = s.overrides.fifo ++
            [{ addr := a, index := i, tag := BitVec.ofNat 15 (d.toNat % 32768), master := m, awaiting := some s.bus.nextTxn }]) ∧
        ((∃ p ∈ s.overrides.fifo, p.addr = a) ∨ (postMarker d = true ∧ 16 ≤ s.overrides.fifo.length) →
          y.bus.through = s.bus.through ∧ y.overrides.fifo = s.overrides.fifo ∧ y.events.classes.getLsbD 2 = true ∧
          EventsWritten [event .override (if ∃ p ∈ s.overrides.fifo, p.addr = a then 2 else 1) s.tracker.lug (single i)
            (single m.toNat)] s y ∧ y.bus.answers = s.bus.answers ++ [errorAnswer s m]) ∧
        ((∀ p ∈ s.overrides.fifo, p.addr ≠ a) → postMarker d = false → s.overrides.fifo.length ≤ 16 →
          y.bus.through = s.bus.through ++ [passedBurst s x] ∧ y.bus.answers = s.bus.answers ∧
          y.overrides.fifo = s.overrides.fifo)) ∧
    ∀ (c : Instr) (w : BusWrite) (j : Nat) (e : WindowEntry) (s : State) (busy : Prop), arrivalOf c = some (.write w) →
      Admitted s (.write w) (.window j) → e = entryAt s.shadow.entries j → e.kind = .override →
      (busy ↔ ∃ i n b p, EntryWord e w i n b ∧ n ≠ 3 ∧ p ∈ s.overrides.fifo ∧ p.addr = windowAddr e (16 * i)) →
      ∃ y, exec c s = .next (finish y) ∧ y.bus.mem = s.bus.mem ∧ y.overrides.waiting = s.overrides.waiting ∧
        y.overrides.trimEntries = s.overrides.trimEntries ∧ y.overrides.readback = s.overrides.readback ∧ y.shadow = s.shadow ∧
        y.intake = s.intake ∧
        (busy ∨ 16 < s.overrides.fifo.length + (postsMade e w s.bus.nextTxn).length →
          y.bus.through = s.bus.through ∧ y.overrides.fifo = s.overrides.fifo ∧ y.events.classes.getLsbD 2 = true ∧
          y.bus.answers = s.bus.answers ++ [errorAnswer s w.master]) ∧
        (¬ busy → s.overrides.fifo.length + (postsMade e w s.bus.nextTxn).length ≤ 16 →
          y.bus.through = s.bus.through ++ [passedBurst s (.write w)] ∧ y.bus.answers = s.bus.answers ∧
          y.overrides.fifo = s.overrides.fifo ++ postsMade e w s.bus.nextTxn)

/-- The read-back of a GRADE, TRIM, CHIP, MARK or CLEAR that stands, judged against an uncommitted SCANNING or CLOSING record: GRADE
sets the forced grade, TRIM sets the forced trim and removes chip, CHIP sets chip and removes the forced trim, MARK adds its
segments to the mark mask, CLEAR removes all four. Nothing else of the record changes. TRIM makes itself the forced-trim entry of
the slot, CHIP and CLEAR clear it. The post leaves the FIFO, the engine is idle, DONE is the last access issued, and no other
record changes but a QUEUED one the idle optimizer takes. No event is written. (Cites: 06_operator_overrides.md: Judging by Lug
Distance.) -/
def Obligations.OpenRecordStoresOverride : Prop :=
  ∀ (s : State) (p : Post) (rest : List Post) (w0 w1 w2 : Word) (kind : OverrideKind) (k : Nat), s.TableSound →
    (kind = .grade ∨ kind = .trim ∨ kind = .chip ∨ kind = .mark ∨ kind = .clear) → EntryStands s p rest w0 w1 w2 kind →
    Judged s w0 k → ((s.record k).state = .scanning ∨ (s.record k).state = .closing) →
    ∃ y, exec (commandOf kind) s = .next (finish y) ∧ NoEvent s y ∧
      y.record k = { s.record k with
        forcedGrade := if kind = .grade then some w1.toNat else if kind = .clear then none else (s.record k).forcedGrade
        forcedTrim := if kind = .trim then some (w1.toNat % 65536, w1.toNat / 65536)
          else if kind = .chip ∨ kind = .clear then none else (s.record k).forcedTrim
        chip := decide (kind = .chip) || ((s.record k).chip && decide (kind = .grade ∨ kind = .mark))
        marks := if kind = .mark then (s.record k).marks ||| BitVec.ofNat 12 (w1.toNat % 4096)
          else if kind = .clear then 0 else (s.record k).marks } ∧
      y.overrides.trimEntries = (if kind = .trim then s.overrides.trimEntries.set k (some { addr := p.addr, tag := p.tag })
        else if kind = .chip ∨ kind = .clear then s.overrides.trimEntries.set k none else s.overrides.trimEntries) ∧
      resultIssued y p .done ∧ y.overrides.fifo = rest ∧ y.overrides.readback = .idle ∧ othersKept s y k ∧
      y.overrides.waiting = s.overrides.waiting ∧ y.shadow = s.shadow ∧ y.dispatch = s.dispatch ∧ y.measure = s.measure ∧
      y.intake = s.intake ∧ y.bus.mem = s.bus.mem

/-- The read-back of a GRADE, MARK or CLEAR that stands, judged against an uncommitted QUEUED, OPTIMIZING or DECIDED record: its
override parts change as the kind says, an OPTIMIZING or DECIDED one is QUEUED with its decision absent, a QUEUED one stays QUEUED
(each may already be taken again by the idle optimizer), the rest of the record stays and DONE is the last access issued. The
queue of a QUEUED record stays; an OPTIMIZING or DECIDED one joins it behind every entry of greater position and before every
other. The run of an OPTIMIZING record is abandoned: a run in flight afterwards is of the head of that queue, begun anew with what
the record and the tables now hold, and a run of another record goes on. No other record changes but a QUEUED one the idle
optimizer takes. CLEAR clears the forced-trim entry of the slot, GRADE and MARK keep it. No event is written. (Cites:
05_the_decision_queue_and_line_pacing.md: What Arrives During a Run; 05_the_decision_queue_and_line_pacing.md: The Decision Queue;
06_operator_overrides.md: Judging by Lug Distance.) -/
def Obligations.MeasuredRecordIsRequeued : Prop :=
  ∀ (s : State) (p : Post) (rest : List Post) (w0 w1 w2 : Word) (kind : OverrideKind) (k : Nat), s.TableSound →
    (kind = .grade ∨ kind = .mark ∨ kind = .clear) → EntryStands s p rest w0 w1 w2 kind → Judged s w0 k →
    ((s.record k).state = .queued ∨ (s.record k).state = .optimizing ∨ (s.record k).state = .decided) →
    ∃ y st q pre post, exec (commandOf kind) s = .next (finish y) ∧ NoEvent s y ∧
      y.overrides.trimEntries = (if kind = .clear then s.overrides.trimEntries.set k none else s.overrides.trimEntries) ∧
      y.overrides.waiting = s.overrides.waiting ∧
      (q = if (s.record k).state = .queued then s.optimizer.queue else pre ++ { slot := k, lug := (s.record k).lug } :: post) ∧
      ((s.record k).state ≠ .queued → s.optimizer.queue = pre ++ post ∧
        (∀ e ∈ pre, position s.tracker.lug (s.record k).lug < position s.tracker.lug e.lug) ∧
        ∀ e ∈ post, position s.tracker.lug e.lug < position s.tracker.lug (s.record k).lug) ∧
      (∀ u, s.optimizer.run = some u → u.slot ≠ k → y.optimizer = { queue := q, run := some u }) ∧
      ((s.optimizer.run = none ∨ ∃ u, s.optimizer.run = some u ∧ u.slot = k ∧ (s.record k).state = .optimizing) →
        s.shadow.part = .running → ∀ e rest, q = e :: rest → ∃ r, r.state = .queued ∧ y.optimizer = { queue := rest, run := some {
          slot := e.slot, lug := e.lug, record := r, tables := s.shadow.words } } ∧
          y.record e.slot = { r with state := .optimizing }) ∧ (st = .queued ∨ st = .optimizing) ∧
      y.record k = { s.record k with
        state := st
        decision := if (s.record k).state = .queued then (s.record k).decision else none
        forcedGrade := if kind = .grade then some w1.toNat else if kind = .clear then none else (s.record k).forcedGrade
        forcedTrim := if kind = .clear then none else (s.record k).forcedTrim
        chip := (s.record k).chip && decide (kind ≠ .clear)
        marks := if kind = .mark then (s.record k).marks ||| BitVec.ofNat 12 (w1.toNat % 4096)
          else if kind = .clear then 0 else (s.record k).marks } ∧
      resultIssued y p .done ∧ y.overrides.fifo = rest ∧ y.overrides.readback = .idle ∧ othersKept s y k ∧
      y.shadow = s.shadow ∧ y.dispatch = s.dispatch ∧ y.measure = s.measure ∧ y.intake = s.intake ∧ y.bus.mem = s.bus.mem

/-- The read-back of a TRIM or CHIP that stands, judged against an uncommitted QUEUED, OPTIMIZING or DECIDED record: the record holds
the part and the forced decision, formed from the record with its new parts and the tables in force, with the forced flag, and is
DECIDED, or with held trim reads DISPATCHED and committed, each of them answered with the decision in order of arrival. A chip,
and a forced trim whose b is above P, give REJECT with a, b and value 0, grade 7 and every saw to the last of the board; a forced
trim within P gives PIECE with its a and b, the forced grade or else that of the one candidate or else 7, and the price at that
grade, or 0 for grade 7. The result is OUT_OF_RANGE for the trim beyond P and DONE otherwise. The decision queue no longer names
the slot, no run of it is in flight, and no other record changes but a QUEUED one the idle optimizer takes. TRIM makes itself the
forced-trim entry of the slot and CHIP clears it. No event is written, TRIM_RANGE neither. (Cites:
04_grading_and_trim_selection.md: Forced Decisions; 04_grading_and_trim_selection.md: The Saw Mask; 06_operator_overrides.md:
Judging by Lug Distance; 07_trimmer_and_sorter_answers.md: Held Trim Reads; 05_the_decision_queue_and_line_pacing.md: What Arrives
During a Run.) -/
def Obligations.ForcedTrimDecidesAtOnce : Prop :=
  ∀ (s : State) (p : Post) (rest : List Post) (w0 w1 w2 : Word) (kind : OverrideKind) (k a b : Nat) (r : Record), s.TableSound →
    (kind = .trim ∨ kind = .chip) → EntryStands s p rest w0 w1 w2 kind → Judged s w0 k →
    ((s.record k).state = .queued ∨ (s.record k).state = .optimizing ∨ (s.record k).state = .decided) →
    a = w1.toNat % 65536 → b = w1.toNat / 65536 →
    r = { s.record k with forcedTrim := (if kind = .trim then some (a, b) else none), chip := decide (kind = .chip) } →
    ∃ y d, exec (commandOf kind) s = .next (finish y) ∧ NoEvent s y ∧
      y.overrides.trimEntries = s.overrides.trimEntries.set k (if kind = .trim then some { addr := p.addr, tag := p.tag } else none) ∧
      y.overrides.waiting = s.overrides.waiting ∧ d = forcedDecision s.shadow.words r ∧
      y.record k = { r with
        decision := some d, forced := true, segments := gradedSegments s.shadow.words r
        state := if hasHeld s k then .dispatched else .decided, committed := hasHeld s k } ∧
      (kind = .chip ∨ r.present < b →
        d.verdict = .reject ∧ d.a = 0 ∧ d.b = 0 ∧ d.grade = 7 ∧ d.value = 0 ∧
        ∀ i, i < 13 → d.saws.getLsbD i = decide (i ≤ (r.length - 1) / 610)) ∧
      (kind = .trim → b ≤ r.present →
        d.verdict = .piece ∧ d.a = a ∧ d.b = b ∧
        d.grade = (match r.forcedGrade, candidate s.shadow.words r a b with
          | some g, _ => g
          | none, some c => c.grade
          | none, none => 7) ∧
        d.value = (if d.grade < 7 then price s.shadow.words d.grade (b - a) else 0) ∧
        ∀ i, i < 13 → d.saws.getLsbD i = (decide (i ≤ a) || (decide (b ≤ i) && decide (i ≤ (r.length - 1) / 610)))) ∧
      y.bus.answers = s.bus.answers ++ (s.dispatch.held.filter fun h => h.slot == k).map (fun h =>
        { txn := h.txn, master := h.master, reply := .data [trimWord d.saws d.verdict.trimStatus r.lug] }) ∧
      y.dispatch = { s.dispatch with held := s.dispatch.held.filter fun h => h.slot != k } ∧
      resultIssued y p (if kind = .trim ∧ r.present < b then .outOfRange else .done) ∧
      (∀ e ∈ y.optimizer.queue, e.slot ≠ k) ∧ (∀ u, y.optimizer.run = some u → u.slot ≠ k) ∧
      y.overrides.fifo = rest ∧ othersKept s y k ∧ y.shadow = s.shadow ∧ y.measure = s.measure ∧ y.intake = s.intake ∧
      y.bus.mem = s.bus.mem

/-- The read-back of a RESCAN that stands. Against an uncommitted QUEUED, OPTIMIZING or DECIDED record: its measurement returns to the
creation values, its decision and forced flag are cleared, it is CLOSING, and its lug, commitment, override parts and held slots
stay; a read-back entry for each held slot joins the intake queue in list order; a close begins, marked with the last of them, or
ready to be finalised when there is none; the decision queue no longer names it; the result is DONE. Against a SCANNING or CLOSING
record nothing changes and the result is BUSY. The forced-trim entry is kept, and no event is written. (Cites:
02_scanner_heads_and_frame_intake.md: RESCAN; 06_operator_overrides.md: Judging by Lug Distance.) -/
def Obligations.RescanReopensRecord : Prop :=
  ∀ (s : State) (p : Post) (rest : List Post) (w0 w1 w2 : Word) (k : Nat), s.TableSound →
    EntryStands s p rest w0 w1 w2 .rescan → Judged s w0 k →
    ∃ y, exec .rescan s = .next (finish y) ∧ NoEvent s y ∧ y.overrides.trimEntries = s.overrides.trimEntries ∧ y.overrides.fifo = rest ∧ y.bus.mem = s.bus.mem ∧ y.shadow = s.shadow ∧
      othersKept s y k ∧
      ((s.record k).state = .queued ∨ (s.record k).state = .optimizing ∨ (s.record k).state = .decided →
        resultIssued y p .done ∧
        y.record k = { s.record k with
          state := .closing, contributed := 0, silent := 0, length := 0, present := 0, long := false, short := false
          rescanFailed := false, decision := none, forced := false
          segments := List.replicate 12
            { wood := 0, minThickness := 2000, minWidth := 4000, maxWane := 0, knots := 0, defects := 0, unseen := false, grade := 0 } } ∧
        y.intake = { s.intake with queue := s.intake.queue ++ (s.record k).held.map fun q =>
          { head := q.1, slot := q.2, kind := .readBack (s.record k).lug, awaiting := none } } ∧
        ((s.record k).held ≠ [] → y.measure = { s.measure with awaiting := s.measure.awaiting ++
          [{ slot := k, lug := (s.record k).lug, rescan := true, mark := (s.record k).held.getLast? }] }) ∧
        ((s.record k).held = [] → y.measure = { s.measure with finalising := s.measure.finalising ++
          [{ slot := k, lug := (s.record k).lug, rescan := true, mark := none }] }) ∧
        ∀ e ∈ y.optimizer.queue, e.slot ≠ k) ∧
      ((s.record k).state = .scanning ∨ (s.record k).state = .closing →
        resultIssued y p .busy ∧ y.record k = s.record k ∧ y.intake = s.intake ∧ y.measure = s.measure)

/-- When the read-back of the head post returns an entry that no longer carries the post marker and the posted tag, the result is
REFUSED and event ENTRY_CHANGED, class OVERRIDE, is handed to the event writer; one that does, with a kind code of none of the
twelve kinds, gives OUT_OF_RANGE (KIND_CODE_OUT_OF_RANGE), and one with a kind whose key or argument is out of range gives
OUT_OF_RANGE. The other two write no event. In each case the post leaves the FIFO and nothing else of the part changes, but for
what an idle optimizer or update engine takes up. That detail B of ENTRY_CHANGED is the whole post word as read, unused bits too,
is the model's reading (log 26). The words of an entry have their items at their bits, kind and result codes are as listed, and
when a key or argument is out of range is given kind by kind. (Cites: 06_operator_overrides.md: The Post FIFO and the Read-back;
11_formats_in_line_memory.md: Override Entry.) -/
def Obligations.FailedEntriesHaveNoEffect : Prop :=
  (∀ (s : State) (p : Post) (rest : List Post) (w0 w1 w2 : Word), s.TableSound → ReadbackReturns s p rest w0 w1 w2 →
    (postMarker w2 = true → postTag w2 = p.tag → kindOfCode (entryKindCode w0) = none →
      ∃ y, exec .kindCodeOutOfRange s = .next (finish y) ∧ OnlyAnswered s y ∧ NoEvent s y ∧ y.overrides.fifo = rest ∧
        y.overrides.readback = .idle ∧ resultIssued y p .outOfRange) ∧
    (∀ kind, postMarker w2 = true → postTag w2 = p.tag → kindOfCode (entryKindCode w0) = some kind →
      argOutOfRange kind (entryKey w0) w1 = true →
      ∃ y, exec (commandOf kind) s = .next (finish y) ∧ OnlyAnswered s y ∧ NoEvent s y ∧ y.overrides.fifo = rest ∧
        y.overrides.readback = .idle ∧ resultIssued y p .outOfRange) ∧
    ∀ c, (kindOfCode (entryKindCode w0) = none ∧ c = .kindCodeOutOfRange ∨
        ∃ kind, kindOfCode (entryKindCode w0) = some kind ∧ c = commandOf kind) →
      (postMarker w2 = false ∨ postTag w2 ≠ p.tag) →
      ∃ y, exec c s = .next (finish y) ∧ OnlyAnswered s y ∧ y.overrides.fifo = rest ∧ y.overrides.readback = .idle ∧
        y.events.classes.getLsbD 2 = true ∧
        y.events = (emit (event .override 3 s.tracker.lug (single p.index) w2) s).events ∧ resultIssued y p .refused) ∧
    EntryLayout

/-- The read-back of a GRADE, TRIM, CHIP, MARK, CLEAR or RESCAN that stands, with d the lug number less its lug and C the commit
position. d below C: NO_BOARD without a live record of that lug, TOO_LATE with a committed one (the fourth law). d from C to 31:
TOO_LATE. From 1 to 8 lugs ahead: PENDING, and the override joins the pending list at its tail, or PENDING_FULL when that holds 8.
Any other distance: OUT_OF_RANGE. No event is written, and nothing of the part changes but that the post leaves the FIFO and in
PENDING the list, but for what an idle optimizer or update engine takes up. (Cites: 06_operator_overrides.md: Judging by Lug
Distance; 06_operator_overrides.md: The Pending-Override List; 00_scope.md: Laws of the Device.) -/
def Obligations.BoardKindsJudgedByDistance : Prop :=
  ∀ (s : State) (p : Post) (rest : List Post) (w0 w1 w2 : Word) (kind : OverrideKind) (d ahead C : Nat), s.TableSound →
    (kind = .grade ∨ kind = .trim ∨ kind = .chip ∨ kind = .mark ∨ kind = .clear ∨ kind = .rescan) →
    EntryStands s p rest w0 w1 w2 kind → d = (s.tracker.lug - lugTag w0).toNat → ahead = (lugTag w0 - s.tracker.lug).toNat →
    C = commitPosition s.shadow.words →
    (¬ (d < C ∧ (s.record (slotOf (lugTag w0))).live = true ∧ (s.record (slotOf (lugTag w0))).lug = lugTag w0 ∧
        (s.record (slotOf (lugTag w0))).committed = false)) →
    ∃ y code, exec (commandOf kind) s = .next (finish y) ∧ y.overrides.fifo = rest ∧ resultIssued y p code ∧
      othersKept s y 32 ∧ (code ≠ .pending → OnlyAnswered s y) ∧
      code = (if d < C then
          (if (s.record (slotOf (lugTag w0))).live = true ∧ (s.record (slotOf (lugTag w0))).lug = lugTag w0 then .tooLate
            else .noBoard)
        else if d ≤ 31 then .tooLate
        else if 1 ≤ ahead ∧ ahead ≤ 8 then (if s.overrides.waiting.length < 8 then .pending else .pendingFull)
        else .outOfRange) ∧
      NoEvent s y ∧ y.overrides.readback = .idle ∧
      (code = .pending → OnlyAnswered { s with overrides := { s.overrides with waiting := s.overrides.waiting ++
        [{ lug := lugTag w0, kind := kind, arg := w1, addr := p.addr, tag := p.tag }] } } y)

/-- The read-back of a request that stands, with key and argument in range. BINEMPTY sets the bin's count to 0, that of the reject or
reman bin alike, and is answered DONE. SHIFT with no swap in progress changes the active bank, begins a swap and clears the new
active bank's saturated flag, keeping the other's and every queued update; with a TALLY window in force it writes the header and
the first zeroing burst of the new bank, without one neither, and its zeroing waits; DONE goes out last. With a swap in progress
it is answered BUSY and nothing else moves. ACK clears the latches and persistence counters of the flags its mask names, keeps the
other flags and FORCE, and is answered DONE. ALARMTEST sets FORCE for 1 and clears it for 0, keeps the flags, and is answered
DONE; ALMOUT is asserted while FORCE is set. No record changes but a QUEUED one the idle optimizer takes. None of the four writes
an event. (Cites: 06_operator_overrides.md: Requests Without a Board; 08_tally_banks.md: The Bank Swap; 09_line_guard.md:
Acknowledging; 09_line_guard.md: FORCE; 07_trimmer_and_sorter_answers.md: Bins.) -/
def Obligations.RequestsWithoutABoard : Prop :=
  ∀ (s : State) (p : Post) (rest : List Post) (w0 w1 w2 : Word), s.TableSound →
    (EntryStands s p rest w0 w1 w2 .binEmpty →
      ∃ y, exec .binEmpty s = .next (finish y) ∧ NoEvent s y ∧ y.overrides.fifo = rest ∧ othersKept s y 32 ∧ resultIssued y p .done ∧
        entryKey w0 ≤ 15 ∧ y.dispatch = { s.dispatch with counts := s.dispatch.counts.set (entryKey w0) 0 } ∧
        y.lineGuard = s.lineGuard ∧ y.shadow = s.shadow ∧ y.bus.mem = s.bus.mem) ∧
    (EntryStands s p rest w0 w1 w2 .shift →
      ∃ y, exec .shift s = .next (finish y) ∧ y.overrides.fifo = rest ∧ othersKept s y 32 ∧ y.tally.queue = s.tally.queue ∧
        y.dispatch = s.dispatch ∧ y.lineGuard = s.lineGuard ∧ y.shadow = s.shadow ∧ y.bus.mem = s.bus.mem ∧
        (s.tally.swap = none → y.tally.bank = !s.tally.bank ∧
          y.tally.swap = some { done := 0, zeroing := match s.window .tally with
            | some e => .running e.start
            | none => .waiting } ∧
          y.tally.saturated (!s.tally.bank) = false ∧ y.tally.saturated s.tally.bank = s.tally.saturated s.tally.bank ∧
          y.events = s.events ∧ ∃ more purpose, (∀ b ∈ more, EngineAccess b) ∧ y.bus.internal = s.bus.internal ++
            tallyWrites y.tally (s.window .tally) ++ more ++ [resultBurst p.addr p.tag .done purpose]) ∧
        (s.tally.swap.isSome = true → resultIssued y p .busy ∧ OnlyAnswered s y ∧ NoEvent s y)) ∧
    (EntryStands s p rest w0 w1 w2 .ack →
      ∃ y, exec .ack s = .next (finish y) ∧ NoEvent s y ∧ y.overrides.fifo = rest ∧ othersKept s y 32 ∧ resultIssued y p .done ∧
        y.lineGuard.force = s.lineGuard.force ∧ y.dispatch = s.dispatch ∧ y.shadow = s.shadow ∧ y.bus.mem = s.bus.mem ∧
        ∀ i, i < 6 → y.flag i = if w1.getLsbD i then { s.flag i with counter := 0, latched := false } else s.flag i) ∧
    (EntryStands s p rest w0 w1 w2 .alarmTest →
      ∃ y, exec .alarmTest s = .next (finish y) ∧ NoEvent s y ∧ y.overrides.fifo = rest ∧ othersKept s y 32 ∧ resultIssued y p .done ∧
        (w1 = 1 ∨ w1 = 0) ∧ y.lineGuard = { s.lineGuard with force := decide (w1 = 1) } ∧
        (w1 = 1 → (finish y).outputs.almout = true) ∧
        y.dispatch = s.dispatch ∧ y.shadow = s.shadow ∧ y.bus.mem = s.bus.mem)

/-- The read-back of a SAWTEST that stands: with a safety time of 0 the result is REFUSED and nothing changes; else the saw-test mask
takes the 13 bits of the argument, the timer stops at a mask of 0, starts with the safety time when the mask was 0, and otherwise
runs on, and the result is DONE. While RUNNING, the expiry of a running timer clears the mask and the timer and writes event
SAWTEST_EXPIRED, class OVERRIDE, with the mask cleared and the time the timer started with (the model's reading, log 26); with no
timer running nothing of the override unit changes (the model's reading, log 10). A SAWTEST writes no event. (Cites:
06_operator_overrides.md: The Saw Test; 06_operator_overrides.md: Events of the Override Unit.) -/
def Obligations.SawTestSetsAndExpires : Prop :=
  (∀ (s : State) (p : Post) (rest : List Post) (w0 w1 w2 : Word), s.TableSound → EntryStands s p rest w0 w1 w2 .sawTest →
      ∃ y, exec .sawTest s = .next (finish y) ∧ NoEvent s y ∧ y.overrides.fifo = rest ∧ othersKept s y 32 ∧
        (safetyTime s.shadow.words = 0 → resultIssued y p .refused ∧ OnlyAnswered s y) ∧
        (0 < safetyTime s.shadow.words → resultIssued y p .done ∧ y.overrides.sawMask = BitVec.ofNat 13 (w1.toNat % 8192) ∧
          y.overrides.sawTimer = (if w1.toNat % 8192 = 0 then none
            else if s.overrides.sawMask = 0 then some (safetyTime s.shadow.words) else s.overrides.sawTimer)) ∧
        y.overrides.waiting = s.overrides.waiting ∧ y.dispatch = s.dispatch ∧ y.shadow = s.shadow ∧ y.bus.mem = s.bus.mem) ∧
    (∀ (s : State) (n : Nat), s.TableSound → s.shadow.part = .running → s.overrides.sawTimer = some n →
      ∃ y, exec .sawTestExpiry s = .next (finish y) ∧
        y.overrides = { s.overrides with sawMask := 0, sawTimer := none } ∧ y.events.classes.getLsbD 2 = true ∧
        EventsWritten [event .override 4 s.tracker.lug (single s.overrides.sawMask.toNat) (single n)] s y ∧
        othersKept s y 32 ∧ y.dispatch = s.dispatch ∧ y.shadow = s.shadow ∧ y.bus.mem = s.bus.mem) ∧
    ∀ s : State, s.overrides.sawTimer = none →
      ∃ y, exec .sawTestExpiry s = .next (finish y) ∧ y.overrides = s.overrides ∧ y.events = s.events

/-- The read-back of a LINERESET that stands. For a master in the setup writer mask it is accepted: the phase notes the master, and
the last access issued is the DONE result word whose completion starts the reset. For any other master the result is REFUSED and
nothing else is done. No record, part state, post behind it or queued work changes yet. No event is written at the judgement.
(Cites: 06_operator_overrides.md: Requests Without a Board.) -/
def Obligations.LineResetNeedsASetupWriter : Prop :=
  ∀ (s : State) (p : Post) (rest : List Post) (w0 w1 w2 : Word), s.TableSound → EntryStands s p rest w0 w1 w2 .lineReset →
    ∃ y, exec .lineReset s = .next (finish y) ∧ NoEvent s y ∧ y.overrides.fifo = rest ∧ othersKept s y 32 ∧ y.bus.mem = s.bus.mem ∧
      y.dispatch = s.dispatch ∧ y.overrides.waiting = s.overrides.waiting ∧ y.tracker.lug = s.tracker.lug ∧
      ((setupWord s.shadow.words 1).getLsbD p.master.toNat = true →
        y.shadow = { s.shadow with phase := .accepted p.master } ∧
        y.bus.internal.getLast? = some (resultBurst p.addr p.tag .done .lineResetDone)) ∧
      ((setupWord s.shadow.words 1).getLsbD p.master.toNat = false → resultIssued y p .refused ∧ OnlyAnswered s y)

/-- A permitted single-word read of slot k of the TRIM window. A FREE slot is answered with saw mask 0 and EMPTY, or with the saw-test
mask and TEST while that is not 0, and the lug of the slot within the last 32 lugs. A DECIDED record is answered with its
decision, and is DISPATCHED and committed; a DISPATCHED one is answered with the same word and does not change. Any other record
leaves the read held, with the hold time in force, or, with 4 reads held, refused with an error and event HOLD_FULL, class
DISPATCH, with slot, record state and master; no other case writes an event. No other record changes but a QUEUED one the idle
optimizer takes. The trim answer is the number with the saw mask in bits 12-0, the status code in bits 15-13 and the lug in bits
31-16. (Cites: 07_trimmer_and_sorter_answers.md: The Trim Answer; 07_trimmer_and_sorter_answers.md: Held Trim Reads;
11_formats_in_line_memory.md: Answer Words; 07_trimmer_and_sorter_answers.md: Events of the Dispatch Unit.) -/
def Obligations.TrimReadAnswers : Prop :=
  (∀ (c : Instr) (j k : Nat) (m : Master) (s : State), s.TableSound → ReadsSlot s c .trim j k m →
    ∃ y, exec c s = .next (finish y) ∧ y.bus.through = s.bus.through ∧ othersKept s y k ∧ y.shadow = s.shadow ∧
      y.overrides = s.overrides ∧ y.bus.mem = s.bus.mem ∧
      EventsWritten (if ((s.record k).state = .scanning ∨ (s.record k).state = .closing ∨ (s.record k).state = .queued ∨
          (s.record k).state = .optimizing) ∧ 4 ≤ s.dispatch.held.length then
        [event .dispatch 1 s.tracker.lug (pair k (s.record k).state.code) (single m.toNat)] else []) s y ∧
      ((s.record k).state = .free → y.record k = s.record k ∧ y.dispatch = s.dispatch ∧
        ∃ lug, slotOf lug = k ∧ position s.tracker.lug lug ≤ 31 ∧
          y.bus.answers = s.bus.answers ++ [wordAnswer s m (if s.overrides.sawMask = 0 then trimWord 0 .empty lug else trimWord s.overrides.sawMask .test lug)]) ∧
      (∀ d, (s.record k).state = .decided ∨ (s.record k).state = .dispatched → (s.record k).decision = some d →
        y.bus.answers = s.bus.answers ++ [wordAnswer s m (trimWord d.saws d.verdict.trimStatus (s.record k).lug)] ∧ y.dispatch = s.dispatch ∧
        ((s.record k).state = .decided → y.record k = { s.record k with state := .dispatched, committed := true }) ∧
        ((s.record k).state = .dispatched → y.record k = s.record k)) ∧
      ((s.record k).state = .scanning ∨ (s.record k).state = .closing ∨ (s.record k).state = .queued ∨
          (s.record k).state = .optimizing →
        ((s.record k).state ≠ .queued → y.record k = s.record k) ∧
        (s.dispatch.held.length < 4 → y.bus.answers = s.bus.answers ∧
          y.dispatch = { s.dispatch with held := s.dispatch.held ++
            [{ txn := s.bus.nextTxn, master := m, slot := k, lug := (s.record k).lug, hold := holdLimit s.shadow.words }] }) ∧
        (4 ≤ s.dispatch.held.length → y.dispatch = s.dispatch ∧ y.events.classes.getLsbD 3 = true ∧
          y.bus.answers = s.bus.answers ++ [errorAnswer s m]))) ∧
    (∀ saws status lug, (trimWord saws status lug).toNat = saws.toNat + 2 ^ 13 * status.code + 2 ^ 16 * lug.toNat) ∧
    [TrimStatus.empty, .piece, .reject, .fallback, .test].map TrimStatus.code = [0, 1, 2, 3, 4] ∧
    [Verdict.piece, .reject, .fallback].map Verdict.trimStatus = [.piece, .reject, .fallback]

/-- While RUNNING, the hold timer of a held read expires. Its record, of the read's lug and SCANNING, CLOSING, QUEUED or OPTIMIZING,
holds the FALLBACK decision with a, b and value 0, grade 7 and no saw or all thirteen by the fallback kind, its fallback flag is
set, and it is committed and DISPATCHED; the expired read is answered first and then the others of the slot, and none of them is
held any more; a note for the current lug stands on the FALLBACK flag, class DISPATCH is pending, and the events are LATE for a
QUEUED or OPTIMIZING record, with the state it left and the backlog before, and FALLBACK with that state and the fallback kind
(that order is the model's choice, log 17). No other record changes but a QUEUED one the idle optimizer takes. A record that is
decided, or free, or of another lug, and the held reads stay as they are: the spec says that such an expiry cannot occur, and this
is the model's reading (log 10). (Cites: 07_trimmer_and_sorter_answers.md: Hold Expiry and the Fallback;
04_grading_and_trim_selection.md: The Saw Mask; 05_the_decision_queue_and_line_pacing.md: Hold Expiry, Sort Answers and Retire;
07_trimmer_and_sorter_answers.md: Events of the Dispatch Unit.) -/
def Obligations.HoldExpiryFallsBack : Prop :=
  ∀ (s : State) (i : Nat) (h : HeldRead) (d : Decision), s.TableSound → s.shadow.part = .running →
    s.dispatch.held[i]? = some h →
    d = { verdict := .fallback, a := 0, b := 0, grade := 7, value := 0,
          saws := if fallbackPass s.shadow.words then 0#13 else 0x1FFF#13 } →
    ∃ y, exec (.holdExpiry i) s = .next (finish y) ∧ othersKept s y h.slot ∧ y.shadow = s.shadow ∧ y.bus.mem = s.bus.mem ∧
      y.dispatch.counts = s.dispatch.counts ∧ y.dispatch.waiting = s.dispatch.waiting ∧
      ((s.record h.slot).lug = h.lug → ((s.record h.slot).state = .scanning ∨ (s.record h.slot).state = .closing ∨
          (s.record h.slot).state = .queued ∨ (s.record h.slot).state = .optimizing) →
        y.record h.slot = { s.record h.slot with
          decision := some d, fallback := true, committed := true, state := .dispatched } ∧
        y.dispatch.held = (s.dispatch.held.filter fun x => x.txn != h.txn).filter (fun x => x.slot != h.slot) ∧
        y.bus.answers = s.bus.answers ++ (h :: (s.dispatch.held.filter fun x => x.txn != h.txn).filter (fun x => x.slot == h.slot)).map
          (fun x => { txn := x.txn, master := x.master, reply := .data [trimWord d.saws .fallback (s.record h.slot).lug] }) ∧
        s.tracker.lug ∈ (y.flag 2).notes ∧ y.events.classes.getLsbD 3 = true ∧
        EventsWritten ((if (s.record h.slot).state = .queued ∨ (s.record h.slot).state = .optimizing then
            [event .decision 3 h.lug (single (s.record h.slot).state.code) (single (backlog s))] else []) ++
          [event .dispatch 2 h.lug (single (s.record h.slot).state.code) (single (fallbackPass s.shadow.words).toNat)]) s y ∧
        (∀ e ∈ y.optimizer.queue, e.slot ≠ h.slot) ∧
        (∀ x ∈ y.measure.awaiting ++ y.measure.finalising, x.slot ≠ h.slot)) ∧
      ((s.record h.slot).lug ≠ h.lug ∨ (s.record h.slot).state = .free ∨ (s.record h.slot).state = .decided ∨
          (s.record h.slot).state = .dispatched →
        y.dispatch = s.dispatch ∧ y.bus.answers = s.bus.answers ∧ y.measure = s.measure ∧ EventsWritten [] s y ∧
        ((s.record h.slot).state ≠ .queued → y.record h.slot = s.record h.slot))

/-- A permitted single-word read of slot k of the SORT window. With no read waiting: a FREE slot is answered EMPTY with bin 0; a live
record, with fewer than 32 tally updates queued, is answered with a bin and a status: a PIECE gets the lowest bin that matches its
grade and length and is not full (the sixth law), or the reject bin and REJECT; a REJECT the reject bin; a FALLBACK the reman bin
and REMAN; a record not DISPATCHED the reject bin and UNTRIMMED. The bin's count rises by 1 up to 65,535, an update for the active
bank joins the tally queue with the key of the outcome, and the slot is FREE at its creation values with its forced-trim entry
cleared. Trim reads held for it are answered FALLBACK in order of arrival, with a note on the FALLBACK flag; that they stand
behind the sort answer is the model's choice (log 39). The events are NO_BIN, BIN_FULL, UNTRIMMED and FALLBACK, each where its
rule gives it; their order, and the outcome code in UNTRIMMED's detail B, are the model's choice and reading (logs 17 and 26).
Otherwise the read waits at the tail of the waiting list, or, with 8 waiting, is answered with an error and event SORT_FULL, class
DISPATCH. The sort answer is the number with the bin in bits 3-0, the status code in bits 15-13 and the lug in bits 31-16. (Cites:
07_trimmer_and_sorter_answers.md: The Sort Answer; 07_trimmer_and_sorter_answers.md: Bins; 07_trimmer_and_sorter_answers.md:
Retire and the Tally Update; 07_trimmer_and_sorter_answers.md: Hold Expiry and the Fallback; 07_trimmer_and_sorter_answers.md:
Sort Reads Waiting for the Tally; 00_scope.md: Laws of the Device; 11_formats_in_line_memory.md: Answer Words;
07_trimmer_and_sorter_answers.md: Events of the Dispatch Unit.) -/
def Obligations.SortReadAnswersAndRetires : Prop :=
  ((∀ (c : Instr) (j k : Nat) (m : Master) (s : State), s.TableSound → ReadsSlot s c .sort j k m →
    ∃ y, exec c s = .next (finish y) ∧ y.bus.through = s.bus.through ∧ othersKept s y k ∧ y.shadow = s.shadow ∧
      y.bus.mem = s.bus.mem ∧
      (s.dispatch.waiting = [] → (s.record k).state = .free → y.dispatch = s.dispatch ∧ y.tally.queue = s.tally.queue ∧
        EventsWritten [] s y ∧ ∃ lug, slotOf lug = k ∧ position s.tracker.lug lug ≤ 31 ∧ y.bus.answers = s.bus.answers ++
          [wordAnswer s m (sortWord 0 .empty lug)]) ∧
      (s.dispatch.waiting = [] → (s.record k).state ≠ .free → s.tally.queue.length < 32 →
        ∃ bin status key forced, SortOutcome s (s.record k) bin status key forced ∧ y.record k = Record.blank ∧
          y.bus.answers = s.bus.answers ++ [wordAnswer s m (sortWord bin status (s.record k).lug)] ++
            fallbackAnswers s k (s.record k) ∧ EventsWritten (sortEvents s k (s.record k) bin status) s y ∧
          (hasHeld s k = true → s.tracker.lug ∈ (y.flag 2).notes ∧ y.events.classes.getLsbD 3 = true) ∧
          y.dispatch.held = s.dispatch.held.filter (fun h => h.slot != k) ∧
          y.dispatch.counts = s.dispatch.counts.set bin (min (s.dispatch.counts.getD bin 0 + 1) 65535) ∧
          y.tally.queue = s.tally.queue ++ [{ bank := s.tally.bank, key := key, forced := forced, lug := (s.record k).lug }] ∧
          y.overrides.trimEntries = s.overrides.trimEntries.set k none) ∧
      ((s.dispatch.waiting ≠ [] ∨ ((s.record k).state ≠ .free ∧ 32 ≤ s.tally.queue.length)) →
        y.tally.queue = s.tally.queue ∧ ((s.record k).state ≠ .queued → y.record k = s.record k) ∧
        (s.dispatch.waiting.length < 8 → y.bus.answers = s.bus.answers ∧ EventsWritten [] s y ∧ y.dispatch = { s.dispatch with
          waiting := s.dispatch.waiting ++ [{ txn := s.bus.nextTxn, master := m, slot := k }] }) ∧
        (8 ≤ s.dispatch.waiting.length → y.dispatch = s.dispatch ∧
          EventsWritten [event .dispatch 6 s.tracker.lug (single k) (single m.toNat)] s y ∧ y.events.classes.getLsbD 3 = true ∧
          y.bus.answers = s.bus.answers ++ [errorAnswer s m]))) ∧
    (∀ bin status lug, (sortWord bin status lug).toNat = bin % 16 + 2 ^ 13 * status.code + 2 ^ 16 * lug.toNat) ∧
    [SortStatus.empty, .sorted, .reject, .reman, .untrimmed].map SortStatus.code = [0, 1, 2, 3, 4]) ∧
    ∀ (s : State) (g n b : Nat), b < 16 → (fullMatching s g n).getLsbD b = (binMatches s.shadow.words b g n && binFull s b)

/-- The last read of an update returns: its writes join the internal stream and are, word by word, each counter of the bank that the
key raises (boards; the pieces and length of its grade-table entry, or fallbacks, untrimmed or unsorted; forced when it counts
forced), at the address of the counter, with the value read plus its amount, or 4,294,967,295 when the sum would pass that. So no
counter is lowered by an update (the seventh law). That the length word of entry (7, 0) is read and written back with amount 0 at
a REJECT is the model's choice (log 40). The bank's saturated flag is set when a sum passes the largest value, and else kept; when
it is set anew, the header is written and event SATURATED, class TALLY, with the update's lug, the bank and the word; that it
names the first word in read order that passes is the model's choice (log 41). Else neither is written. The other bank's flag, the
queue, the selector, the swap and every byte of memory stay. (Cites: 08_tally_banks.md: The Update; 11_formats_in_line_memory.md:
Tally Area; 00_scope.md: Laws of the Device; 08_tally_banks.md: Events of the Tally Unit.) -/
def Obligations.TallyReadsDoneFormsSums : Prop :=
  ∀ (s : State) (addr : Word) (n : Nat) (r : TallyRun) (u : TallyUpdate) (rest : List TallyUpdate) (vs : List Word),
    s.bus.port = some { addr := addr, access := .read n, purpose := .tallyRead true } → s.tally.engine = some r →
    s.tally.queue = u :: rest → vs = r.values ++ Memory.readWords s.bus.mem addr.toNat n →
    ∃ y writes more, exec .tallyReadsDone s = .next (finish y) ∧ y.bus.internal = s.bus.internal ++ writes ++ more ∧
      (∀ b ∈ more, b.purpose = .plain) ∧ writes.flatMap wordsWritten = ((countersRaised u).zip vs).map (fun p =>
        (BitVec.ofNat 32 (r.base + 256 + 1024 * u.bank.toNat + 4 * p.1.1),
          BitVec.ofNat 32 (min (p.2.toNat + p.1.2) 4294967295))) ∧
      (∀ b ∈ writes, (∃ last, b.purpose = .tallyWrite last) ∧
        ∃ beats, b.access = .write beats ∧ ∀ x ∈ beats, Beat.isFull x = true) ∧
      (y.tally.saturated u.bank = true ↔ s.tally.saturated u.bank = true ∨
        ∃ (i w amount : Nat) (v : Word), (countersRaised u)[i]? = some (w, amount) ∧ vs[i]? = some v ∧
          4294967295 < v.toNat + amount) ∧
      (∀ (i w amount : Nat) (v : Word), s.tally.saturated u.bank = false → (countersRaised u)[i]? = some (w, amount) → vs[i]? = some v →
        4294967295 < v.toNat + amount → (∀ j, j < i → ∀ x a v', (countersRaised u)[j]? = some (x, a) → vs[j]? = some v' →
          v'.toNat + a ≤ 4294967295) →
        EventsWritten [event .tally 1 u.lug (single u.bank.toNat) (single w)] s y ∧
        ∀ e, s.window .tally = some e → writeBurst (windowAddr e 0) [tallyHeaderWord y.tally] .plain ∈ more) ∧
      (y.tally.saturated u.bank = s.tally.saturated u.bank → EventsWritten [] s y ∧ more = []) ∧
      y.tally.saturated (!u.bank) = s.tally.saturated (!u.bank) ∧ y.tally.queue = s.tally.queue ∧
      y.tally.bank = s.tally.bank ∧ y.tally.swap = s.tally.swap ∧ y.tracker = s.tracker ∧ y.shadow = s.shadow ∧
      y.bus.mem = s.bus.mem

/-- The last write of an update completes: memory holds it, and the update leaves the queue. A swap in progress counts it when it was
for the old bank, and ends when its zeroing has ended and no update for the old bank is left. With no sort read waiting the queue
is what stood behind the update. When the queue has fallen below 32 updates and sort reads wait, the first is judged and answered:
EMPTY for a FREE slot; for a live record the bin and status of its outcome, its held trim reads answered FALLBACK behind it (that
order is the model's choice, log 39), its slot FREE and its update at the tail of the queue. The reads behind it are judged in
turn as it was, each on what the last has left, up to the first that would retire a record with 32 updates queued; the others wait
on. The last zeroing burst completes: the swap ends when no update for the old bank is queued, and else goes on with its zeroing
ended; queue and selector stay. A swap that ends writes the header with the swap flag clear, and event SWAP_DONE with the active
bank and the number of old-bank updates completed, before any event of a sort answer. While a line reset works the tally off, the
end of that work lets the reset go on: the STARTING image of the status block and the load's first read go out, or wait for a
status block write outstanding (the model's reading, log 20). (Cites: 08_tally_banks.md: The Update; 08_tally_banks.md: The Bank
Swap; 07_trimmer_and_sorter_answers.md: Sort Reads Waiting for the Tally; 07_trimmer_and_sorter_answers.md: The Sort Answer;
07_trimmer_and_sorter_answers.md: Retire and the Tally Update; 08_tally_banks.md: Events of the Tally Unit;
10_chassis_bus_path_setup_and_start_up.md: Start-up.) -/
def Obligations.TallyWorkCompletes : Prop :=
  (∀ (s : State) (b : Burst) (r : TallyRun) (u : TallyUpdate) (rest : List TallyUpdate), s.bus.port = some b →
      b.purpose = .tallyWrite true → s.tally.engine = some r → s.tally.queue = u :: rest →
      ∃ y, exec .tallyUpdateComplete s = .next (finish y) ∧ y.bus.mem = (Burst.perform s.bus.mem b).1 ∧
        y.tally.bank = s.tally.bank ∧
        (s.tally.swap = none → y.tally.swap = none) ∧
        (∀ w e, s.tally.swap = some w → w.zeroing = .ended → (∀ x ∈ rest, x.bank = s.tally.bank) → s.window .tally = some e →
          writeBurst (windowAddr e 0) [tallyHeaderWord { s.tally with swap := none }] .plain ∈ y.bus.internal) ∧
        (s.shadow.phase ≠ .draining → ∃ es, EventsWritten ((match s.tally.swap with
            | some w => if w.zeroing = .ended ∧ (∀ x ∈ rest, x.bank = s.tally.bank) then [event .tally 2 s.tracker.lug
                (single s.tally.bank.toNat) (single (if u.bank = s.tally.bank then w.done else w.done + 1))] else []
            | none => []) ++ es) s y ∧
          (s.dispatch.waiting = [] ∨ rest.length ≥ 32 ∨ s.tally.queue.length < 32 → es = [])) ∧
        (s.shadow.phase = .draining → s.shadow.part = .starting → rest = [] → (∀ w, s.tally.swap = some w → w.zeroing = .ended) →
          ∃ x old more, x.shadow = s.shadow ∧ x.tracker = s.tracker ∧ ResetProceeds x y more ∧ y.bus.internal = old ++ more) ∧
        (∀ w, s.tally.swap = some w → y.tally.swap =
          if w.zeroing = .ended ∧ (∀ x ∈ rest, x.bank = s.tally.bank) then none
          else some { w with done := if u.bank = s.tally.bank then w.done else w.done + 1 }) ∧
        (s.dispatch.waiting = [] ∨ rest.length ≥ 32 ∨ s.tally.queue.length < 32 →
          y.tally.queue = rest ∧ y.dispatch = s.dispatch ∧ y.bus.answers = s.bus.answers) ∧
        (∀ w behind, s.dispatch.waiting = w :: behind → 32 ≤ s.tally.queue.length → rest.length < 32 →
          (∃ n s1 z, 1 ≤ n ∧ s1.tracker = s.tracker ∧ s1.shadow = s.shadow ∧ s1.overrides = s.overrides ∧
            s1.dispatch = s.dispatch ∧ s1.bus.answers = s.bus.answers ∧ s1.tally.queue = rest ∧ s1.tally.bank = s.tally.bank ∧
            z = (s.dispatch.waiting.take n).foldl (fun x h => judgeSort h.txn h.master h.slot
              { x with dispatch := { x.dispatch with waiting := x.dispatch.waiting.tail } }) s1 ∧
            (∀ h, (s.dispatch.waiting.drop n).head? = some h → (z.record h.slot).state ≠ .free ∧ 32 ≤ z.tally.queue.length) ∧
            z.dispatch.waiting = s.dispatch.waiting.drop n ∧ y.dispatch = z.dispatch ∧ y.tally.queue = z.tally.queue ∧
            y.bus.answers = z.bus.answers ∧
            (s.TableSound → ∀ j, j < 32 → (∀ h ∈ s.dispatch.waiting.take n, h.slot ≠ j) → (s.record j).state ≠ .queued →
              y.record j = s.record j)) ∧
          ((s.record w.slot).state = .free → w.slot < 32 → ∃ lug more, slotOf lug = w.slot ∧ position s.tracker.lug lug ≤ 31 ∧
            y.bus.answers = s.bus.answers ++
              { txn := w.txn, master := w.master, reply := .data [sortWord 0 .empty lug] } :: more) ∧
          ((s.record w.slot).state ≠ .free → y.record w.slot = Record.blank ∧
            ∃ bin status key forced more later, SortOutcome s (s.record w.slot) bin status key forced ∧
              y.bus.answers = s.bus.answers ++
                { txn := w.txn, master := w.master, reply := .data [sortWord bin status (s.record w.slot).lug] } :: (fallbackAnswers s w.slot (s.record w.slot) ++ more) ∧
              y.tally.queue = rest ++
                { bank := s.tally.bank, key := key, forced := forced, lug := (s.record w.slot).lug } :: later))) ∧
    ∀ (s : State) (b : Burst) (base done : Nat), s.bus.port = some b → b.purpose = .zeroing 15 →
      s.tally.swap = some { zeroing := .running base, done := done } →
      ∃ y, exec .zeroingDone s = .next (finish y) ∧ y.bus.mem = (Burst.perform s.bus.mem b).1 ∧
        y.tally.bank = s.tally.bank ∧ y.tally.queue = s.tally.queue ∧ y.dispatch = s.dispatch ∧
        y.tally.swap = (if (∀ x ∈ s.tally.queue, x.bank = s.tally.bank) then none else some { zeroing := .ended, done := done }) ∧
        (∀ e, (∀ x ∈ s.tally.queue, x.bank = s.tally.bank) → s.window .tally = some e →
          writeBurst (windowAddr e 0) [tallyHeaderWord { s.tally with swap := none }] .plain ∈ y.bus.internal) ∧
        (s.shadow.phase ≠ .draining → EventsWritten (if (∀ x ∈ s.tally.queue, x.bank = s.tally.bank) then
          [event .tally 2 s.tracker.lug (single s.tally.bank.toNat) (single done)] else []) s y) ∧
        (s.shadow.phase = .draining → s.shadow.part = .starting → s.tally.queue = [] → s.tally.engine = none →
          ∃ x old more, x.shadow = s.shadow ∧ x.tracker = s.tracker ∧ ResetProceeds x y more ∧ y.bus.internal = old ++ more)

/-- The eleventh law, between steps, with what it rests on. If every HELD frame slot has a fresh entry in the intake queue or is named
in the held-slot list of a live record; fresh entries and held-slot lists name HELD slots only, no slot twice over; read-back
entries and an engine at a read-back name slots of the held-slot list of the live record of their lug; a RUNNING part has the slot
tables of its FRAME windows; a part in start-up has an empty queue and no live record; and the record table is sound: then all of
that holds after a step. (Cites: 02_scanner_heads_and_frame_intake.md: Holding and Releasing Frame Slots; 00_scope.md: Laws of the
Device.) -/
def Obligations.StepKeepsFrameSlotsSound : Prop :=
  ∀ s t : State, s.FrameSlotsSound → step s = .next t → t.FrameSlotsSound

/-- The second law: with the record table sound, a record that is DISPATCHED and committed is, after any step, either freed or
unchanged in every field but its held-slot list (which a lost slot table shortens), its decision with the rest. (Cites:
07_trimmer_and_sorter_answers.md: The Trim Answer; 00_scope.md: Laws of the Device.) -/
def Obligations.DispatchedDecisionsStand : Prop :=
  ∀ (s t : State) (k : Nat), s.TableSound → step s = .next t → k < 32 → (s.record k).state = .dispatched →
    (s.record k).committed = true →
    t.record k = Record.blank ∨ t.record k = { s.record k with held := (t.record k).held }
end

