-- ==== Sys2Proof/Laws/State.lean ====
section
/-! SUPPORT. Fields of State through a fold: a field that every step of a fold keeps is kept by the fold. One lemma per field, so that the
frame lemmas of the operations (the other files of this folder) carry through lists of records, slots, events and held writes. -/

namespace Sys2Proof.Machine

section
variable {α : Type} (f : State → α → State) (l : List α) (s : State)

theorem foldl_keeps {β : Type} (p : State → β) (h : ∀ s x, p (f s x) = p s) : p (l.foldl f s) = p s := by
  induction l generalizing s with
  | nil => rfl
  | cons x xs ih => exact (ih (f s x)).trans (h s x)

/-- A property that every step of a fold keeps is kept by the fold. -/
theorem foldl_invariant (p : State → Prop) (h : ∀ s x, p s → p (f s x)) (hs : p s) : p (l.foldl f s) := by
  induction l generalizing s with
  | nil => exact hs
  | cons x xs ih => exact ih (f s x) (h s x hs)

@[simp] theorem foldl_inputs (h : ∀ s x, (f s x).inputs = s.inputs) : (l.foldl f s).inputs = s.inputs :=
  foldl_keeps f l s (fun t => t.inputs) h

@[simp] theorem foldl_resetAsserted (h : ∀ s x, (f s x).resetAsserted = s.resetAsserted) : (l.foldl f s).resetAsserted = s.resetAsserted :=
  foldl_keeps f l s (fun t => t.resetAsserted) h

@[simp] theorem foldl_outputs (h : ∀ s x, (f s x).outputs = s.outputs) : (l.foldl f s).outputs = s.outputs :=
  foldl_keeps f l s (fun t => t.outputs) h

@[simp] theorem foldl_shadow (h : ∀ s x, (f s x).shadow = s.shadow) : (l.foldl f s).shadow = s.shadow :=
  foldl_keeps f l s (fun t => t.shadow) h

@[simp] theorem foldl_shadow_part (h : ∀ s x, (f s x).shadow.part = s.shadow.part) : (l.foldl f s).shadow.part = s.shadow.part :=
  foldl_keeps f l s (fun t => t.shadow.part) h

@[simp] theorem foldl_shadow_words (h : ∀ s x, (f s x).shadow.words = s.shadow.words) : (l.foldl f s).shadow.words = s.shadow.words :=
  foldl_keeps f l s (fun t => t.shadow.words) h

@[simp] theorem foldl_shadow_entries (h : ∀ s x, (f s x).shadow.entries = s.shadow.entries) : (l.foldl f s).shadow.entries = s.shadow.entries :=
  foldl_keeps f l s (fun t => t.shadow.entries) h

@[simp] theorem foldl_shadow_load (h : ∀ s x, (f s x).shadow.load = s.shadow.load) : (l.foldl f s).shadow.load = s.shadow.load :=
  foldl_keeps f l s (fun t => t.shadow.load) h

@[simp] theorem foldl_shadow_phase (h : ∀ s x, (f s x).shadow.phase = s.shadow.phase) : (l.foldl f s).shadow.phase = s.shadow.phase :=
  foldl_keeps f l s (fun t => t.shadow.phase) h

@[simp] theorem foldl_shadow_report (h : ∀ s x, (f s x).shadow.report = s.shadow.report) : (l.foldl f s).shadow.report = s.shadow.report :=
  foldl_keeps f l s (fun t => t.shadow.report) h

@[simp] theorem foldl_shadow_held (h : ∀ s x, (f s x).shadow.held = s.shadow.held) : (l.foldl f s).shadow.held = s.shadow.held :=
  foldl_keeps f l s (fun t => t.shadow.held) h

@[simp] theorem foldl_tracker (h : ∀ s x, (f s x).tracker = s.tracker) : (l.foldl f s).tracker = s.tracker :=
  foldl_keeps f l s (fun t => t.tracker) h

@[simp] theorem foldl_tracker_lug (h : ∀ s x, (f s x).tracker.lug = s.tracker.lug) : (l.foldl f s).tracker.lug = s.tracker.lug :=
  foldl_keeps f l s (fun t => t.tracker.lug) h

@[simp] theorem foldl_tracker_records (h : ∀ s x, (f s x).tracker.records = s.tracker.records) : (l.foldl f s).tracker.records = s.tracker.records :=
  foldl_keeps f l s (fun t => t.tracker.records) h

@[simp] theorem foldl_tracker_areas (h : ∀ s x, (f s x).tracker.areas = s.tracker.areas) : (l.foldl f s).tracker.areas = s.tracker.areas :=
  foldl_keeps f l s (fun t => t.tracker.areas) h

@[simp] theorem foldl_tracker_everRan (h : ∀ s x, (f s x).tracker.everRan = s.tracker.everRan) : (l.foldl f s).tracker.everRan = s.tracker.everRan :=
  foldl_keeps f l s (fun t => t.tracker.everRan) h

@[simp] theorem foldl_intake (h : ∀ s x, (f s x).intake = s.intake) : (l.foldl f s).intake = s.intake :=
  foldl_keeps f l s (fun t => t.intake) h

@[simp] theorem foldl_intake_tables (h : ∀ s x, (f s x).intake.tables = s.intake.tables) : (l.foldl f s).intake.tables = s.intake.tables :=
  foldl_keeps f l s (fun t => t.intake.tables) h

@[simp] theorem foldl_intake_queue (h : ∀ s x, (f s x).intake.queue = s.intake.queue) : (l.foldl f s).intake.queue = s.intake.queue :=
  foldl_keeps f l s (fun t => t.intake.queue) h

@[simp] theorem foldl_intake_engine (h : ∀ s x, (f s x).intake.engine = s.intake.engine) : (l.foldl f s).intake.engine = s.intake.engine :=
  foldl_keeps f l s (fun t => t.intake.engine) h

@[simp] theorem foldl_measure (h : ∀ s x, (f s x).measure = s.measure) : (l.foldl f s).measure = s.measure :=
  foldl_keeps f l s (fun t => t.measure) h

@[simp] theorem foldl_measure_awaiting (h : ∀ s x, (f s x).measure.awaiting = s.measure.awaiting) : (l.foldl f s).measure.awaiting = s.measure.awaiting :=
  foldl_keeps f l s (fun t => t.measure.awaiting) h

@[simp] theorem foldl_measure_finalising (h : ∀ s x, (f s x).measure.finalising = s.measure.finalising) : (l.foldl f s).measure.finalising = s.measure.finalising :=
  foldl_keeps f l s (fun t => t.measure.finalising) h

@[simp] theorem foldl_optimizer (h : ∀ s x, (f s x).optimizer = s.optimizer) : (l.foldl f s).optimizer = s.optimizer :=
  foldl_keeps f l s (fun t => t.optimizer) h

@[simp] theorem foldl_optimizer_queue (h : ∀ s x, (f s x).optimizer.queue = s.optimizer.queue) : (l.foldl f s).optimizer.queue = s.optimizer.queue :=
  foldl_keeps f l s (fun t => t.optimizer.queue) h

@[simp] theorem foldl_optimizer_run (h : ∀ s x, (f s x).optimizer.run = s.optimizer.run) : (l.foldl f s).optimizer.run = s.optimizer.run :=
  foldl_keeps f l s (fun t => t.optimizer.run) h

@[simp] theorem foldl_skip (h : ∀ s x, (f s x).skip = s.skip) : (l.foldl f s).skip = s.skip :=
  foldl_keeps f l s (fun t => t.skip) h

@[simp] theorem foldl_overrides (h : ∀ s x, (f s x).overrides = s.overrides) : (l.foldl f s).overrides = s.overrides :=
  foldl_keeps f l s (fun t => t.overrides) h

@[simp] theorem foldl_overrides_fifo (h : ∀ s x, (f s x).overrides.fifo = s.overrides.fifo) : (l.foldl f s).overrides.fifo = s.overrides.fifo :=
  foldl_keeps f l s (fun t => t.overrides.fifo) h

@[simp] theorem foldl_overrides_readback (h : ∀ s x, (f s x).overrides.readback = s.overrides.readback) : (l.foldl f s).overrides.readback = s.overrides.readback :=
  foldl_keeps f l s (fun t => t.overrides.readback) h

@[simp] theorem foldl_overrides_waiting (h : ∀ s x, (f s x).overrides.waiting = s.overrides.waiting) : (l.foldl f s).overrides.waiting = s.overrides.waiting :=
  foldl_keeps f l s (fun t => t.overrides.waiting) h

@[simp] theorem foldl_overrides_trimEntries (h : ∀ s x, (f s x).overrides.trimEntries = s.overrides.trimEntries) : (l.foldl f s).overrides.trimEntries = s.overrides.trimEntries :=
  foldl_keeps f l s (fun t => t.overrides.trimEntries) h

@[simp] theorem foldl_overrides_sawMask (h : ∀ s x, (f s x).overrides.sawMask = s.overrides.sawMask) : (l.foldl f s).overrides.sawMask = s.overrides.sawMask :=
  foldl_keeps f l s (fun t => t.overrides.sawMask) h

@[simp] theorem foldl_overrides_sawTimer (h : ∀ s x, (f s x).overrides.sawTimer = s.overrides.sawTimer) : (l.foldl f s).overrides.sawTimer = s.overrides.sawTimer :=
  foldl_keeps f l s (fun t => t.overrides.sawTimer) h

@[simp] theorem foldl_dispatch (h : ∀ s x, (f s x).dispatch = s.dispatch) : (l.foldl f s).dispatch = s.dispatch :=
  foldl_keeps f l s (fun t => t.dispatch) h

@[simp] theorem foldl_dispatch_held (h : ∀ s x, (f s x).dispatch.held = s.dispatch.held) : (l.foldl f s).dispatch.held = s.dispatch.held :=
  foldl_keeps f l s (fun t => t.dispatch.held) h

@[simp] theorem foldl_dispatch_waiting (h : ∀ s x, (f s x).dispatch.waiting = s.dispatch.waiting) : (l.foldl f s).dispatch.waiting = s.dispatch.waiting :=
  foldl_keeps f l s (fun t => t.dispatch.waiting) h

@[simp] theorem foldl_dispatch_counts (h : ∀ s x, (f s x).dispatch.counts = s.dispatch.counts) : (l.foldl f s).dispatch.counts = s.dispatch.counts :=
  foldl_keeps f l s (fun t => t.dispatch.counts) h

@[simp] theorem foldl_tally (h : ∀ s x, (f s x).tally = s.tally) : (l.foldl f s).tally = s.tally :=
  foldl_keeps f l s (fun t => t.tally) h

@[simp] theorem foldl_tally_bank (h : ∀ s x, (f s x).tally.bank = s.tally.bank) : (l.foldl f s).tally.bank = s.tally.bank :=
  foldl_keeps f l s (fun t => t.tally.bank) h

@[simp] theorem foldl_tally_swap (h : ∀ s x, (f s x).tally.swap = s.tally.swap) : (l.foldl f s).tally.swap = s.tally.swap :=
  foldl_keeps f l s (fun t => t.tally.swap) h

@[simp] theorem foldl_tally_saturated0 (h : ∀ s x, (f s x).tally.saturated0 = s.tally.saturated0) : (l.foldl f s).tally.saturated0 = s.tally.saturated0 :=
  foldl_keeps f l s (fun t => t.tally.saturated0) h

@[simp] theorem foldl_tally_saturated1 (h : ∀ s x, (f s x).tally.saturated1 = s.tally.saturated1) : (l.foldl f s).tally.saturated1 = s.tally.saturated1 :=
  foldl_keeps f l s (fun t => t.tally.saturated1) h

@[simp] theorem foldl_tally_queue (h : ∀ s x, (f s x).tally.queue = s.tally.queue) : (l.foldl f s).tally.queue = s.tally.queue :=
  foldl_keeps f l s (fun t => t.tally.queue) h

@[simp] theorem foldl_tally_engine (h : ∀ s x, (f s x).tally.engine = s.tally.engine) : (l.foldl f s).tally.engine = s.tally.engine :=
  foldl_keeps f l s (fun t => t.tally.engine) h

@[simp] theorem foldl_tally_kept (h : ∀ s x, (f s x).tally.kept = s.tally.kept) : (l.foldl f s).tally.kept = s.tally.kept :=
  foldl_keeps f l s (fun t => t.tally.kept) h

@[simp] theorem foldl_lineGuard (h : ∀ s x, (f s x).lineGuard = s.lineGuard) : (l.foldl f s).lineGuard = s.lineGuard :=
  foldl_keeps f l s (fun t => t.lineGuard) h

@[simp] theorem foldl_lineGuard_flags (h : ∀ s x, (f s x).lineGuard.flags = s.lineGuard.flags) : (l.foldl f s).lineGuard.flags = s.lineGuard.flags :=
  foldl_keeps f l s (fun t => t.lineGuard.flags) h

@[simp] theorem foldl_lineGuard_force (h : ∀ s x, (f s x).lineGuard.force = s.lineGuard.force) : (l.foldl f s).lineGuard.force = s.lineGuard.force :=
  foldl_keeps f l s (fun t => t.lineGuard.force) h

@[simp] theorem foldl_events (h : ∀ s x, (f s x).events = s.events) : (l.foldl f s).events = s.events :=
  foldl_keeps f l s (fun t => t.events) h

@[simp] theorem foldl_events_ring (h : ∀ s x, (f s x).events.ring = s.events.ring) : (l.foldl f s).events.ring = s.events.ring :=
  foldl_keeps f l s (fun t => t.events.ring) h

@[simp] theorem foldl_events_overflow (h : ∀ s x, (f s x).events.overflow = s.events.overflow) : (l.foldl f s).events.overflow = s.events.overflow :=
  foldl_keeps f l s (fun t => t.events.overflow) h

@[simp] theorem foldl_events_classes (h : ∀ s x, (f s x).events.classes = s.events.classes) : (l.foldl f s).events.classes = s.events.classes :=
  foldl_keeps f l s (fun t => t.events.classes) h

@[simp] theorem foldl_bus (h : ∀ s x, (f s x).bus = s.bus) : (l.foldl f s).bus = s.bus :=
  foldl_keeps f l s (fun t => t.bus) h

@[simp] theorem foldl_bus_mem (h : ∀ s x, (f s x).bus.mem = s.bus.mem) : (l.foldl f s).bus.mem = s.bus.mem :=
  foldl_keeps f l s (fun t => t.bus.mem) h

@[simp] theorem foldl_bus_through (h : ∀ s x, (f s x).bus.through = s.bus.through) : (l.foldl f s).bus.through = s.bus.through :=
  foldl_keeps f l s (fun t => t.bus.through) h

@[simp] theorem foldl_bus_internal (h : ∀ s x, (f s x).bus.internal = s.bus.internal) : (l.foldl f s).bus.internal = s.bus.internal :=
  foldl_keeps f l s (fun t => t.bus.internal) h

@[simp] theorem foldl_bus_port (h : ∀ s x, (f s x).bus.port = s.bus.port) : (l.foldl f s).bus.port = s.bus.port :=
  foldl_keeps f l s (fun t => t.bus.port) h

@[simp] theorem foldl_bus_lastGrant (h : ∀ s x, (f s x).bus.lastGrant = s.bus.lastGrant) : (l.foldl f s).bus.lastGrant = s.bus.lastGrant :=
  foldl_keeps f l s (fun t => t.bus.lastGrant) h

@[simp] theorem foldl_bus_nextTxn (h : ∀ s x, (f s x).bus.nextTxn = s.bus.nextTxn) : (l.foldl f s).bus.nextTxn = s.bus.nextTxn :=
  foldl_keeps f l s (fun t => t.bus.nextTxn) h

@[simp] theorem foldl_bus_answers (h : ∀ s x, (f s x).bus.answers = s.bus.answers) : (l.foldl f s).bus.answers = s.bus.answers :=
  foldl_keeps f l s (fun t => t.bus.answers) h

@[simp] theorem foldl_pending (h : ∀ s x, (f s x).pending = s.pending) : (l.foldl f s).pending = s.pending :=
  foldl_keeps f l s (fun t => t.pending) h

end

end Sys2Proof.Machine
end

