-- ==== Sys2Proof/Laws/Ops.lean ====
section
/-! SUPPORT. Frames of the shared operations of the blocks: for each operation, every field of State that
it leaves as it was. Proofs cite these and never unfold an operation to learn what it does not touch. -/

namespace Sys2Proof.Machine

@[simp] theorem drivePins_frame (s : State) :
    (drivePins s).inputs = s.inputs ∧ (drivePins s).resetAsserted = s.resetAsserted ∧ (drivePins s).shadow = s.shadow ∧
    (drivePins s).tracker = s.tracker ∧ (drivePins s).intake = s.intake ∧ (drivePins s).measure = s.measure ∧
    (drivePins s).optimizer = s.optimizer ∧ (drivePins s).skip = s.skip ∧ (drivePins s).overrides = s.overrides ∧
    (drivePins s).dispatch = s.dispatch ∧ (drivePins s).tally = s.tally ∧ (drivePins s).lineGuard = s.lineGuard ∧
    (drivePins s).events = s.events ∧ (drivePins s).bus = s.bus ∧ (drivePins s).pending = s.pending := by
  simp [drivePins]

@[simp] theorem State.setRecord_frame (s : State) (k : Nat) (r : Record) :
    (State.setRecord s k r).inputs = s.inputs ∧ (State.setRecord s k r).resetAsserted = s.resetAsserted ∧
    (State.setRecord s k r).outputs = s.outputs ∧ (State.setRecord s k r).shadow = s.shadow ∧
    (State.setRecord s k r).tracker.lug = s.tracker.lug ∧ (State.setRecord s k r).tracker.areas = s.tracker.areas ∧
    (State.setRecord s k r).tracker.everRan = s.tracker.everRan ∧ (State.setRecord s k r).intake = s.intake ∧
    (State.setRecord s k r).measure = s.measure ∧ (State.setRecord s k r).optimizer = s.optimizer ∧
    (State.setRecord s k r).skip = s.skip ∧ (State.setRecord s k r).overrides = s.overrides ∧
    (State.setRecord s k r).dispatch = s.dispatch ∧ (State.setRecord s k r).tally = s.tally ∧
    (State.setRecord s k r).lineGuard = s.lineGuard ∧ (State.setRecord s k r).events = s.events ∧
    (State.setRecord s k r).bus = s.bus ∧ (State.setRecord s k r).pending = s.pending := by
  simp [State.setRecord]

@[simp] theorem issue_frame (b : Burst) (s : State) :
    (issue b s).inputs = s.inputs ∧ (issue b s).resetAsserted = s.resetAsserted ∧ (issue b s).outputs = s.outputs ∧
    (issue b s).shadow = s.shadow ∧ (issue b s).tracker = s.tracker ∧ (issue b s).intake = s.intake ∧
    (issue b s).measure = s.measure ∧ (issue b s).optimizer = s.optimizer ∧ (issue b s).skip = s.skip ∧
    (issue b s).overrides = s.overrides ∧ (issue b s).dispatch = s.dispatch ∧ (issue b s).tally = s.tally ∧
    (issue b s).lineGuard = s.lineGuard ∧ (issue b s).events = s.events ∧ (issue b s).bus.mem = s.bus.mem ∧
    (issue b s).bus.through = s.bus.through ∧ (issue b s).bus.port = s.bus.port ∧ (issue b s).bus.lastGrant = s.bus.lastGrant ∧
    (issue b s).bus.nextTxn = s.bus.nextTxn ∧ (issue b s).bus.answers = s.bus.answers ∧ (issue b s).pending = s.pending := by
  simp [issue]

@[simp] theorem issueAll_frame (bs : List Burst) (s : State) :
    (issueAll bs s).inputs = s.inputs ∧ (issueAll bs s).resetAsserted = s.resetAsserted ∧ (issueAll bs s).outputs = s.outputs ∧
    (issueAll bs s).shadow = s.shadow ∧ (issueAll bs s).tracker = s.tracker ∧ (issueAll bs s).intake = s.intake ∧
    (issueAll bs s).measure = s.measure ∧ (issueAll bs s).optimizer = s.optimizer ∧ (issueAll bs s).skip = s.skip ∧
    (issueAll bs s).overrides = s.overrides ∧ (issueAll bs s).dispatch = s.dispatch ∧ (issueAll bs s).tally = s.tally ∧
    (issueAll bs s).lineGuard = s.lineGuard ∧ (issueAll bs s).events = s.events ∧ (issueAll bs s).bus.mem = s.bus.mem ∧
    (issueAll bs s).bus.through = s.bus.through ∧ (issueAll bs s).bus.port = s.bus.port ∧
    (issueAll bs s).bus.lastGrant = s.bus.lastGrant ∧ (issueAll bs s).bus.nextTxn = s.bus.nextTxn ∧
    (issueAll bs s).bus.answers = s.bus.answers ∧ (issueAll bs s).pending = s.pending := by
  simp [issueAll]

@[simp] theorem answer_frame (txn : Nat) (master : Master) (reply : Reply) (s : State) :
    (answer txn master reply s).inputs = s.inputs ∧ (answer txn master reply s).resetAsserted = s.resetAsserted ∧
    (answer txn master reply s).outputs = s.outputs ∧ (answer txn master reply s).shadow = s.shadow ∧
    (answer txn master reply s).tracker = s.tracker ∧ (answer txn master reply s).intake = s.intake ∧
    (answer txn master reply s).measure = s.measure ∧ (answer txn master reply s).optimizer = s.optimizer ∧
    (answer txn master reply s).skip = s.skip ∧ (answer txn master reply s).overrides = s.overrides ∧
    (answer txn master reply s).dispatch = s.dispatch ∧ (answer txn master reply s).tally = s.tally ∧
    (answer txn master reply s).lineGuard = s.lineGuard ∧ (answer txn master reply s).events = s.events ∧
    (answer txn master reply s).bus.mem = s.bus.mem ∧ (answer txn master reply s).bus.through = s.bus.through ∧
    (answer txn master reply s).bus.internal = s.bus.internal ∧ (answer txn master reply s).bus.port = s.bus.port ∧
    (answer txn master reply s).bus.lastGrant = s.bus.lastGrant ∧ (answer txn master reply s).bus.nextTxn = s.bus.nextTxn ∧
    (answer txn master reply s).pending = s.pending := by
  simp [answer]

@[simp] theorem pass_frame (txn : Nat) (t : Transaction) (format : Bool) (s : State) :
    (pass txn t format s).inputs = s.inputs ∧ (pass txn t format s).resetAsserted = s.resetAsserted ∧
    (pass txn t format s).outputs = s.outputs ∧ (pass txn t format s).shadow = s.shadow ∧
    (pass txn t format s).tracker = s.tracker ∧ (pass txn t format s).intake = s.intake ∧
    (pass txn t format s).measure = s.measure ∧ (pass txn t format s).optimizer = s.optimizer ∧
    (pass txn t format s).skip = s.skip ∧ (pass txn t format s).overrides = s.overrides ∧
    (pass txn t format s).dispatch = s.dispatch ∧ (pass txn t format s).tally = s.tally ∧
    (pass txn t format s).lineGuard = s.lineGuard ∧ (pass txn t format s).events = s.events ∧
    (pass txn t format s).bus.mem = s.bus.mem ∧ (pass txn t format s).bus.internal = s.bus.internal ∧
    (pass txn t format s).bus.port = s.bus.port ∧ (pass txn t format s).bus.lastGrant = s.bus.lastGrant ∧
    (pass txn t format s).bus.nextTxn = s.bus.nextTxn ∧ (pass txn t format s).bus.answers = s.bus.answers ∧
    (pass txn t format s).pending = s.pending := by
  simp [pass]

@[simp] theorem refuse_frame (txn : Nat) (t : Transaction) (s : State) :
    (refuse txn t s).inputs = s.inputs ∧ (refuse txn t s).resetAsserted = s.resetAsserted ∧
    (refuse txn t s).outputs = s.outputs ∧ (refuse txn t s).shadow = s.shadow ∧ (refuse txn t s).tracker = s.tracker ∧
    (refuse txn t s).intake = s.intake ∧ (refuse txn t s).measure = s.measure ∧ (refuse txn t s).optimizer = s.optimizer ∧
    (refuse txn t s).skip = s.skip ∧ (refuse txn t s).overrides = s.overrides ∧ (refuse txn t s).dispatch = s.dispatch ∧
    (refuse txn t s).tally = s.tally ∧ (refuse txn t s).lineGuard = s.lineGuard ∧ (refuse txn t s).events = s.events ∧
    (refuse txn t s).bus.mem = s.bus.mem ∧ (refuse txn t s).bus.through = s.bus.through ∧
    (refuse txn t s).bus.internal = s.bus.internal ∧ (refuse txn t s).bus.port = s.bus.port ∧
    (refuse txn t s).bus.lastGrant = s.bus.lastGrant ∧ (refuse txn t s).bus.nextTxn = s.bus.nextTxn ∧
    (refuse txn t s).pending = s.pending := by
  simp [refuse]

@[simp] theorem grant_frame (s : State) :
    (grant s).inputs = s.inputs ∧ (grant s).resetAsserted = s.resetAsserted ∧ (grant s).outputs = s.outputs ∧
    (grant s).shadow = s.shadow ∧ (grant s).tracker = s.tracker ∧ (grant s).intake = s.intake ∧ (grant s).measure = s.measure ∧
    (grant s).optimizer = s.optimizer ∧ (grant s).skip = s.skip ∧ (grant s).overrides = s.overrides ∧
    (grant s).dispatch = s.dispatch ∧ (grant s).tally = s.tally ∧ (grant s).lineGuard = s.lineGuard ∧
    (grant s).events = s.events ∧ (grant s).bus.mem = s.bus.mem ∧ (grant s).bus.nextTxn = s.bus.nextTxn ∧
    (grant s).bus.answers = s.bus.answers ∧ (grant s).pending = s.pending := by
  simp only [grant]
  repeat' split
  all_goals simp

@[simp] theorem orphanBursts_frame (p : Purpose → Bool) (s : State) :
    (orphanBursts p s).inputs = s.inputs ∧ (orphanBursts p s).resetAsserted = s.resetAsserted ∧
    (orphanBursts p s).outputs = s.outputs ∧ (orphanBursts p s).shadow = s.shadow ∧ (orphanBursts p s).tracker = s.tracker ∧
    (orphanBursts p s).intake = s.intake ∧ (orphanBursts p s).measure = s.measure ∧ (orphanBursts p s).optimizer = s.optimizer ∧
    (orphanBursts p s).skip = s.skip ∧ (orphanBursts p s).overrides = s.overrides ∧ (orphanBursts p s).dispatch = s.dispatch ∧
    (orphanBursts p s).tally = s.tally ∧ (orphanBursts p s).lineGuard = s.lineGuard ∧ (orphanBursts p s).events = s.events ∧
    (orphanBursts p s).bus.mem = s.bus.mem ∧ (orphanBursts p s).bus.through = s.bus.through ∧
    (orphanBursts p s).bus.lastGrant = s.bus.lastGrant ∧ (orphanBursts p s).bus.nextTxn = s.bus.nextTxn ∧
    (orphanBursts p s).bus.answers = s.bus.answers ∧ (orphanBursts p s).pending = s.pending := by
  simp [orphanBursts]

@[simp] theorem emit_frame (e : Event) (s : State) :
    (emit e s).inputs = s.inputs ∧ (emit e s).resetAsserted = s.resetAsserted ∧ (emit e s).outputs = s.outputs ∧
    (emit e s).shadow = s.shadow ∧ (emit e s).tracker = s.tracker ∧ (emit e s).intake = s.intake ∧
    (emit e s).measure = s.measure ∧ (emit e s).optimizer = s.optimizer ∧ (emit e s).skip = s.skip ∧
    (emit e s).overrides = s.overrides ∧ (emit e s).dispatch = s.dispatch ∧ (emit e s).tally = s.tally ∧
    (emit e s).lineGuard = s.lineGuard ∧ (emit e s).bus.mem = s.bus.mem ∧ (emit e s).bus.through = s.bus.through ∧
    (emit e s).bus.port = s.bus.port ∧ (emit e s).bus.lastGrant = s.bus.lastGrant ∧ (emit e s).bus.nextTxn = s.bus.nextTxn ∧
    (emit e s).bus.answers = s.bus.answers ∧ (emit e s).pending = s.pending := by
  simp only [emit]
  repeat' split
  all_goals simp

@[simp] theorem emitNow_frame (cls : EventClass) (code : Nat) (a : Word) (b : Word) (s : State) :
    (emitNow cls code a b s).inputs = s.inputs ∧ (emitNow cls code a b s).resetAsserted = s.resetAsserted ∧
    (emitNow cls code a b s).outputs = s.outputs ∧ (emitNow cls code a b s).shadow = s.shadow ∧
    (emitNow cls code a b s).tracker = s.tracker ∧ (emitNow cls code a b s).intake = s.intake ∧
    (emitNow cls code a b s).measure = s.measure ∧ (emitNow cls code a b s).optimizer = s.optimizer ∧
    (emitNow cls code a b s).skip = s.skip ∧ (emitNow cls code a b s).overrides = s.overrides ∧
    (emitNow cls code a b s).dispatch = s.dispatch ∧ (emitNow cls code a b s).tally = s.tally ∧
    (emitNow cls code a b s).lineGuard = s.lineGuard ∧ (emitNow cls code a b s).bus.mem = s.bus.mem ∧
    (emitNow cls code a b s).bus.through = s.bus.through ∧ (emitNow cls code a b s).bus.port = s.bus.port ∧
    (emitNow cls code a b s).bus.lastGrant = s.bus.lastGrant ∧ (emitNow cls code a b s).bus.nextTxn = s.bus.nextTxn ∧
    (emitNow cls code a b s).bus.answers = s.bus.answers ∧ (emitNow cls code a b s).pending = s.pending := by
  simp [emitNow]

@[simp] theorem report_frame (g : GuardName) (s : State) :
    (report g s).inputs = s.inputs ∧ (report g s).resetAsserted = s.resetAsserted ∧ (report g s).outputs = s.outputs ∧
    (report g s).shadow = s.shadow ∧ (report g s).tracker = s.tracker ∧ (report g s).intake = s.intake ∧
    (report g s).measure = s.measure ∧ (report g s).optimizer = s.optimizer ∧ (report g s).skip = s.skip ∧
    (report g s).overrides = s.overrides ∧ (report g s).dispatch = s.dispatch ∧ (report g s).tally = s.tally ∧
    (report g s).lineGuard.force = s.lineGuard.force ∧ (report g s).events = s.events ∧ (report g s).bus = s.bus ∧
    (report g s).pending = s.pending := by
  simp [report]

end Sys2Proof.Machine
end

