-- ==== Sys2Proof/Laws/Records.lean ====
section
/-! SUPPORT. Frames of the shared work on one record: for each operation, every field of State that
it leaves as it was. Proofs cite these and never unfold an operation to learn what it does not touch. -/

namespace Sys2Proof.Machine

@[simp] theorem leaveDecisionQueue_frame (k : Nat) (s : State) :
    (leaveDecisionQueue k s).inputs = s.inputs ∧ (leaveDecisionQueue k s).resetAsserted = s.resetAsserted ∧
    (leaveDecisionQueue k s).outputs = s.outputs ∧ (leaveDecisionQueue k s).shadow = s.shadow ∧
    (leaveDecisionQueue k s).tracker = s.tracker ∧ (leaveDecisionQueue k s).intake = s.intake ∧
    (leaveDecisionQueue k s).measure = s.measure ∧ (leaveDecisionQueue k s).optimizer.run = s.optimizer.run ∧
    (leaveDecisionQueue k s).skip = s.skip ∧ (leaveDecisionQueue k s).overrides = s.overrides ∧
    (leaveDecisionQueue k s).dispatch = s.dispatch ∧ (leaveDecisionQueue k s).tally = s.tally ∧
    (leaveDecisionQueue k s).lineGuard = s.lineGuard ∧ (leaveDecisionQueue k s).events = s.events ∧
    (leaveDecisionQueue k s).bus = s.bus ∧ (leaveDecisionQueue k s).pending = s.pending := by
  simp [leaveDecisionQueue]

@[simp] theorem abandonRun_frame (k : Nat) (s : State) :
    (abandonRun k s).inputs = s.inputs ∧ (abandonRun k s).resetAsserted = s.resetAsserted ∧
    (abandonRun k s).outputs = s.outputs ∧ (abandonRun k s).shadow = s.shadow ∧ (abandonRun k s).tracker = s.tracker ∧
    (abandonRun k s).intake = s.intake ∧ (abandonRun k s).measure = s.measure ∧
    (abandonRun k s).optimizer.queue = s.optimizer.queue ∧ (abandonRun k s).skip = s.skip ∧
    (abandonRun k s).overrides = s.overrides ∧ (abandonRun k s).dispatch = s.dispatch ∧ (abandonRun k s).tally = s.tally ∧
    (abandonRun k s).lineGuard = s.lineGuard ∧ (abandonRun k s).events = s.events ∧ (abandonRun k s).bus = s.bus ∧
    (abandonRun k s).pending = s.pending := by
  simp only [abandonRun]
  repeat' split
  all_goals simp

@[simp] theorem joinQueue_frame (k : Nat) (s : State) :
    (joinQueue k s).inputs = s.inputs ∧ (joinQueue k s).resetAsserted = s.resetAsserted ∧ (joinQueue k s).outputs = s.outputs ∧
    (joinQueue k s).shadow = s.shadow ∧ (joinQueue k s).tracker.lug = s.tracker.lug ∧
    (joinQueue k s).tracker.areas = s.tracker.areas ∧ (joinQueue k s).tracker.everRan = s.tracker.everRan ∧
    (joinQueue k s).intake = s.intake ∧ (joinQueue k s).measure = s.measure ∧ (joinQueue k s).optimizer.run = s.optimizer.run ∧
    (joinQueue k s).skip = s.skip ∧ (joinQueue k s).overrides = s.overrides ∧ (joinQueue k s).dispatch = s.dispatch ∧
    (joinQueue k s).tally = s.tally ∧ (joinQueue k s).lineGuard = s.lineGuard ∧ (joinQueue k s).events = s.events ∧
    (joinQueue k s).bus = s.bus ∧ (joinQueue k s).pending = s.pending := by
  simp [joinQueue]

@[simp] theorem requeue_frame (k : Nat) (s : State) :
    (requeue k s).inputs = s.inputs ∧ (requeue k s).resetAsserted = s.resetAsserted ∧ (requeue k s).outputs = s.outputs ∧
    (requeue k s).shadow = s.shadow ∧ (requeue k s).tracker.lug = s.tracker.lug ∧ (requeue k s).tracker.areas = s.tracker.areas ∧
    (requeue k s).tracker.everRan = s.tracker.everRan ∧ (requeue k s).intake = s.intake ∧ (requeue k s).measure = s.measure ∧
    (requeue k s).skip = s.skip ∧ (requeue k s).overrides = s.overrides ∧ (requeue k s).dispatch = s.dispatch ∧
    (requeue k s).tally = s.tally ∧ (requeue k s).lineGuard = s.lineGuard ∧ (requeue k s).events = s.events ∧
    (requeue k s).bus = s.bus ∧ (requeue k s).pending = s.pending := by
  unfold requeue
  split <;> simp

@[simp] theorem startOptimizer_frame (s : State) :
    (startOptimizer s).inputs = s.inputs ∧ (startOptimizer s).resetAsserted = s.resetAsserted ∧
    (startOptimizer s).outputs = s.outputs ∧ (startOptimizer s).shadow = s.shadow ∧
    (startOptimizer s).tracker.lug = s.tracker.lug ∧ (startOptimizer s).tracker.areas = s.tracker.areas ∧
    (startOptimizer s).tracker.everRan = s.tracker.everRan ∧ (startOptimizer s).intake = s.intake ∧
    (startOptimizer s).measure = s.measure ∧ (startOptimizer s).skip = s.skip ∧ (startOptimizer s).overrides = s.overrides ∧
    (startOptimizer s).dispatch = s.dispatch ∧ (startOptimizer s).tally = s.tally ∧ (startOptimizer s).lineGuard = s.lineGuard ∧
    (startOptimizer s).events = s.events ∧ (startOptimizer s).bus = s.bus ∧ (startOptimizer s).pending = s.pending := by
  unfold startOptimizer
  split <;> simp

@[simp] theorem setFrameSlot_frame (h : Nat) (i : Nat) (st : SlotState) (s : State) :
    (setFrameSlot h i st s).inputs = s.inputs ∧ (setFrameSlot h i st s).resetAsserted = s.resetAsserted ∧
    (setFrameSlot h i st s).outputs = s.outputs ∧ (setFrameSlot h i st s).shadow = s.shadow ∧
    (setFrameSlot h i st s).tracker = s.tracker ∧ (setFrameSlot h i st s).intake.queue = s.intake.queue ∧
    (setFrameSlot h i st s).intake.engine = s.intake.engine ∧ (setFrameSlot h i st s).measure = s.measure ∧
    (setFrameSlot h i st s).optimizer = s.optimizer ∧ (setFrameSlot h i st s).skip = s.skip ∧
    (setFrameSlot h i st s).overrides = s.overrides ∧ (setFrameSlot h i st s).dispatch = s.dispatch ∧
    (setFrameSlot h i st s).tally = s.tally ∧ (setFrameSlot h i st s).lineGuard = s.lineGuard ∧
    (setFrameSlot h i st s).events = s.events ∧ (setFrameSlot h i st s).bus = s.bus ∧ (setFrameSlot h i st s).pending = s.pending := by
  unfold setFrameSlot
  split <;> simp

@[simp] theorem leaveIntakeQueue_frame (gone : IntakeEntry → Bool) (s : State) :
    (leaveIntakeQueue gone s).inputs = s.inputs ∧ (leaveIntakeQueue gone s).resetAsserted = s.resetAsserted ∧
    (leaveIntakeQueue gone s).outputs = s.outputs ∧ (leaveIntakeQueue gone s).shadow = s.shadow ∧
    (leaveIntakeQueue gone s).tracker = s.tracker ∧ (leaveIntakeQueue gone s).intake.tables = s.intake.tables ∧
    (leaveIntakeQueue gone s).intake.engine = s.intake.engine ∧ (leaveIntakeQueue gone s).optimizer = s.optimizer ∧
    (leaveIntakeQueue gone s).skip = s.skip ∧ (leaveIntakeQueue gone s).overrides = s.overrides ∧
    (leaveIntakeQueue gone s).dispatch = s.dispatch ∧ (leaveIntakeQueue gone s).tally = s.tally ∧
    (leaveIntakeQueue gone s).lineGuard = s.lineGuard ∧ (leaveIntakeQueue gone s).events = s.events ∧
    (leaveIntakeQueue gone s).bus = s.bus ∧ (leaveIntakeQueue gone s).pending = s.pending := by
  simp [leaveIntakeQueue]

@[simp] theorem dropEngine_frame (gone : IntakeRun → Bool) (s : State) :
    (dropEngine gone s).inputs = s.inputs ∧ (dropEngine gone s).resetAsserted = s.resetAsserted ∧
    (dropEngine gone s).outputs = s.outputs ∧ (dropEngine gone s).shadow = s.shadow ∧ (dropEngine gone s).tracker = s.tracker ∧
    (dropEngine gone s).intake.tables = s.intake.tables ∧ (dropEngine gone s).intake.queue = s.intake.queue ∧
    (dropEngine gone s).measure = s.measure ∧ (dropEngine gone s).optimizer = s.optimizer ∧ (dropEngine gone s).skip = s.skip ∧
    (dropEngine gone s).overrides = s.overrides ∧ (dropEngine gone s).dispatch = s.dispatch ∧
    (dropEngine gone s).tally = s.tally ∧ (dropEngine gone s).lineGuard = s.lineGuard ∧ (dropEngine gone s).events = s.events ∧
    (dropEngine gone s).bus = s.bus ∧ (dropEngine gone s).pending = s.pending := by
  simp only [dropEngine]
  repeat' split
  all_goals simp

@[simp] theorem releaseHeldSlots_frame (ps : List (Nat × Nat)) (s : State) :
    (releaseHeldSlots ps s).inputs = s.inputs ∧ (releaseHeldSlots ps s).resetAsserted = s.resetAsserted ∧
    (releaseHeldSlots ps s).outputs = s.outputs ∧ (releaseHeldSlots ps s).shadow = s.shadow ∧
    (releaseHeldSlots ps s).tracker = s.tracker ∧ (releaseHeldSlots ps s).optimizer = s.optimizer ∧
    (releaseHeldSlots ps s).skip = s.skip ∧ (releaseHeldSlots ps s).overrides = s.overrides ∧
    (releaseHeldSlots ps s).dispatch = s.dispatch ∧ (releaseHeldSlots ps s).tally = s.tally ∧
    (releaseHeldSlots ps s).lineGuard = s.lineGuard ∧ (releaseHeldSlots ps s).events = s.events ∧ (releaseHeldSlots ps s).bus = s.bus ∧
    (releaseHeldSlots ps s).pending = s.pending := by
  unfold releaseHeldSlots
  split <;> simp

@[simp] theorem beginClose_frame (k : Nat) (lug : Lug) (rescan : Bool) (mark : Option (Nat × Nat)) (s : State) :
    (beginClose k lug rescan mark s).inputs = s.inputs ∧ (beginClose k lug rescan mark s).resetAsserted = s.resetAsserted ∧
    (beginClose k lug rescan mark s).outputs = s.outputs ∧ (beginClose k lug rescan mark s).shadow = s.shadow ∧
    (beginClose k lug rescan mark s).tracker = s.tracker ∧ (beginClose k lug rescan mark s).intake = s.intake ∧
    (beginClose k lug rescan mark s).optimizer = s.optimizer ∧ (beginClose k lug rescan mark s).skip = s.skip ∧
    (beginClose k lug rescan mark s).overrides = s.overrides ∧ (beginClose k lug rescan mark s).dispatch = s.dispatch ∧
    (beginClose k lug rescan mark s).tally = s.tally ∧ (beginClose k lug rescan mark s).lineGuard = s.lineGuard ∧
    (beginClose k lug rescan mark s).events = s.events ∧ (beginClose k lug rescan mark s).bus = s.bus ∧
    (beginClose k lug rescan mark s).pending = s.pending := by
  unfold beginClose
  split <;> simp

@[simp] theorem endClose_frame (k : Nat) (s : State) :
    (endClose k s).inputs = s.inputs ∧ (endClose k s).resetAsserted = s.resetAsserted ∧ (endClose k s).outputs = s.outputs ∧
    (endClose k s).shadow = s.shadow ∧ (endClose k s).tracker = s.tracker ∧ (endClose k s).intake = s.intake ∧
    (endClose k s).optimizer = s.optimizer ∧ (endClose k s).skip = s.skip ∧ (endClose k s).overrides = s.overrides ∧
    (endClose k s).dispatch = s.dispatch ∧ (endClose k s).tally = s.tally ∧ (endClose k s).lineGuard = s.lineGuard ∧
    (endClose k s).events = s.events ∧ (endClose k s).bus = s.bus ∧ (endClose k s).pending = s.pending := by
  simp [endClose]

@[simp] theorem endWork_frame (k : Nat) (s : State) :
    (endWork k s).inputs = s.inputs ∧ (endWork k s).resetAsserted = s.resetAsserted ∧ (endWork k s).outputs = s.outputs ∧
    (endWork k s).shadow = s.shadow ∧ (endWork k s).tracker = s.tracker ∧ (endWork k s).intake = s.intake ∧
    (endWork k s).skip = s.skip ∧ (endWork k s).overrides = s.overrides ∧ (endWork k s).dispatch = s.dispatch ∧
    (endWork k s).tally = s.tally ∧ (endWork k s).lineGuard = s.lineGuard ∧ (endWork k s).events = s.events ∧
    (endWork k s).bus = s.bus ∧ (endWork k s).pending = s.pending := by
  simp [endWork]

@[simp] theorem answerHeld_frame (k : Nat) (word : Word) (s : State) :
    (answerHeld k word s).inputs = s.inputs ∧ (answerHeld k word s).resetAsserted = s.resetAsserted ∧
    (answerHeld k word s).outputs = s.outputs ∧ (answerHeld k word s).shadow = s.shadow ∧
    (answerHeld k word s).tracker = s.tracker ∧ (answerHeld k word s).intake = s.intake ∧
    (answerHeld k word s).measure = s.measure ∧ (answerHeld k word s).optimizer = s.optimizer ∧
    (answerHeld k word s).skip = s.skip ∧ (answerHeld k word s).overrides = s.overrides ∧
    (answerHeld k word s).dispatch.waiting = s.dispatch.waiting ∧ (answerHeld k word s).dispatch.counts = s.dispatch.counts ∧
    (answerHeld k word s).tally = s.tally ∧ (answerHeld k word s).lineGuard = s.lineGuard ∧
    (answerHeld k word s).events = s.events ∧ (answerHeld k word s).bus.mem = s.bus.mem ∧
    (answerHeld k word s).bus.through = s.bus.through ∧ (answerHeld k word s).bus.internal = s.bus.internal ∧
    (answerHeld k word s).bus.port = s.bus.port ∧ (answerHeld k word s).bus.lastGrant = s.bus.lastGrant ∧
    (answerHeld k word s).bus.nextTxn = s.bus.nextTxn ∧ (answerHeld k word s).pending = s.pending := by
  simp [answerHeld]

@[simp] theorem writeDecision_frame (k : Nat) (d : Decision) (segs : List Segment) (forced : Bool) (s : State) :
    (writeDecision k d segs forced s).inputs = s.inputs ∧ (writeDecision k d segs forced s).resetAsserted = s.resetAsserted ∧
    (writeDecision k d segs forced s).outputs = s.outputs ∧ (writeDecision k d segs forced s).shadow = s.shadow ∧
    (writeDecision k d segs forced s).tracker.lug = s.tracker.lug ∧
    (writeDecision k d segs forced s).tracker.areas = s.tracker.areas ∧
    (writeDecision k d segs forced s).tracker.everRan = s.tracker.everRan ∧ (writeDecision k d segs forced s).intake = s.intake ∧
    (writeDecision k d segs forced s).measure = s.measure ∧ (writeDecision k d segs forced s).optimizer = s.optimizer ∧
    (writeDecision k d segs forced s).skip = s.skip ∧ (writeDecision k d segs forced s).overrides = s.overrides ∧
    (writeDecision k d segs forced s).dispatch.waiting = s.dispatch.waiting ∧
    (writeDecision k d segs forced s).dispatch.counts = s.dispatch.counts ∧ (writeDecision k d segs forced s).tally = s.tally ∧
    (writeDecision k d segs forced s).lineGuard = s.lineGuard ∧ (writeDecision k d segs forced s).events = s.events ∧
    (writeDecision k d segs forced s).bus.mem = s.bus.mem ∧ (writeDecision k d segs forced s).bus.through = s.bus.through ∧
    (writeDecision k d segs forced s).bus.internal = s.bus.internal ∧ (writeDecision k d segs forced s).bus.port = s.bus.port ∧
    (writeDecision k d segs forced s).bus.lastGrant = s.bus.lastGrant ∧
    (writeDecision k d segs forced s).bus.nextTxn = s.bus.nextTxn ∧ (writeDecision k d segs forced s).pending = s.pending := by
  unfold writeDecision
  split <;> simp

@[simp] theorem emitTrimRange_frame (r : Record) (s : State) :
    (emitTrimRange r s).inputs = s.inputs ∧ (emitTrimRange r s).resetAsserted = s.resetAsserted ∧
    (emitTrimRange r s).outputs = s.outputs ∧ (emitTrimRange r s).shadow = s.shadow ∧ (emitTrimRange r s).tracker = s.tracker ∧
    (emitTrimRange r s).intake = s.intake ∧ (emitTrimRange r s).measure = s.measure ∧
    (emitTrimRange r s).optimizer = s.optimizer ∧ (emitTrimRange r s).skip = s.skip ∧
    (emitTrimRange r s).overrides = s.overrides ∧ (emitTrimRange r s).dispatch = s.dispatch ∧
    (emitTrimRange r s).tally = s.tally ∧ (emitTrimRange r s).lineGuard = s.lineGuard ∧ (emitTrimRange r s).bus.mem = s.bus.mem ∧
    (emitTrimRange r s).bus.through = s.bus.through ∧ (emitTrimRange r s).bus.port = s.bus.port ∧
    (emitTrimRange r s).bus.lastGrant = s.bus.lastGrant ∧ (emitTrimRange r s).bus.nextTxn = s.bus.nextTxn ∧
    (emitTrimRange r s).bus.answers = s.bus.answers ∧ (emitTrimRange r s).pending = s.pending := by
  unfold emitTrimRange
  split <;> simp

@[simp] theorem forceDecision_frame (k : Nat) (own : Bool) (s : State) :
    (forceDecision k own s).inputs = s.inputs ∧ (forceDecision k own s).resetAsserted = s.resetAsserted ∧
    (forceDecision k own s).outputs = s.outputs ∧ (forceDecision k own s).shadow = s.shadow ∧
    (forceDecision k own s).tracker.lug = s.tracker.lug ∧ (forceDecision k own s).tracker.areas = s.tracker.areas ∧
    (forceDecision k own s).tracker.everRan = s.tracker.everRan ∧ (forceDecision k own s).intake = s.intake ∧
    (forceDecision k own s).measure = s.measure ∧ (forceDecision k own s).optimizer = s.optimizer ∧
    (forceDecision k own s).skip = s.skip ∧ (forceDecision k own s).overrides = s.overrides ∧
    (forceDecision k own s).dispatch.waiting = s.dispatch.waiting ∧ (forceDecision k own s).dispatch.counts = s.dispatch.counts ∧
    (forceDecision k own s).tally = s.tally ∧ (forceDecision k own s).lineGuard = s.lineGuard ∧
    (forceDecision k own s).bus.mem = s.bus.mem ∧ (forceDecision k own s).bus.through = s.bus.through ∧
    (forceDecision k own s).bus.port = s.bus.port ∧ (forceDecision k own s).bus.lastGrant = s.bus.lastGrant ∧
    (forceDecision k own s).bus.nextTxn = s.bus.nextTxn ∧ (forceDecision k own s).pending = s.pending := by
  simp only [forceDecision]
  split <;> simp

@[simp] theorem fallbackAtRetire_frame (k : Nat) (s : State) :
    (fallbackAtRetire k s).inputs = s.inputs ∧ (fallbackAtRetire k s).resetAsserted = s.resetAsserted ∧
    (fallbackAtRetire k s).outputs = s.outputs ∧ (fallbackAtRetire k s).shadow = s.shadow ∧
    (fallbackAtRetire k s).tracker = s.tracker ∧ (fallbackAtRetire k s).intake = s.intake ∧
    (fallbackAtRetire k s).measure = s.measure ∧ (fallbackAtRetire k s).optimizer = s.optimizer ∧
    (fallbackAtRetire k s).skip = s.skip ∧ (fallbackAtRetire k s).overrides = s.overrides ∧
    (fallbackAtRetire k s).dispatch.waiting = s.dispatch.waiting ∧ (fallbackAtRetire k s).dispatch.counts = s.dispatch.counts ∧
    (fallbackAtRetire k s).tally = s.tally ∧ (fallbackAtRetire k s).lineGuard.force = s.lineGuard.force ∧
    (fallbackAtRetire k s).bus.mem = s.bus.mem ∧ (fallbackAtRetire k s).bus.through = s.bus.through ∧
    (fallbackAtRetire k s).bus.port = s.bus.port ∧ (fallbackAtRetire k s).bus.lastGrant = s.bus.lastGrant ∧
    (fallbackAtRetire k s).bus.nextTxn = s.bus.nextTxn ∧ (fallbackAtRetire k s).pending = s.pending := by
  unfold fallbackAtRetire
  split <;> simp

@[simp] theorem freeRecord_frame (k : Nat) (s : State) :
    (freeRecord k s).inputs = s.inputs ∧ (freeRecord k s).resetAsserted = s.resetAsserted ∧
    (freeRecord k s).outputs = s.outputs ∧ (freeRecord k s).shadow = s.shadow ∧ (freeRecord k s).tracker.lug = s.tracker.lug ∧
    (freeRecord k s).tracker.areas = s.tracker.areas ∧ (freeRecord k s).tracker.everRan = s.tracker.everRan ∧
    (freeRecord k s).skip = s.skip ∧ (freeRecord k s).overrides.fifo = s.overrides.fifo ∧
    (freeRecord k s).overrides.readback = s.overrides.readback ∧ (freeRecord k s).overrides.waiting = s.overrides.waiting ∧
    (freeRecord k s).overrides.sawMask = s.overrides.sawMask ∧ (freeRecord k s).overrides.sawTimer = s.overrides.sawTimer ∧
    (freeRecord k s).dispatch = s.dispatch ∧ (freeRecord k s).tally = s.tally ∧ (freeRecord k s).lineGuard = s.lineGuard ∧
    (freeRecord k s).events = s.events ∧ (freeRecord k s).bus = s.bus ∧ (freeRecord k s).pending = s.pending := by
  simp [freeRecord]

end Sys2Proof.Machine
end

