-- ==== Sys2Proof/Laws/TallyUnit.lean ====
section
/-! SUPPORT. Frames of the tally unit: for each operation, every field of State that
it leaves as it was. Proofs cite these and never unfold an operation to learn what it does not touch. -/

namespace Sys2Proof.Machine

@[simp] theorem writeTallyHeader_frame (s : State) :
    (writeTallyHeader s).inputs = s.inputs ∧ (writeTallyHeader s).resetAsserted = s.resetAsserted ∧
    (writeTallyHeader s).outputs = s.outputs ∧ (writeTallyHeader s).shadow = s.shadow ∧
    (writeTallyHeader s).tracker = s.tracker ∧ (writeTallyHeader s).intake = s.intake ∧
    (writeTallyHeader s).measure = s.measure ∧ (writeTallyHeader s).optimizer = s.optimizer ∧
    (writeTallyHeader s).skip = s.skip ∧ (writeTallyHeader s).overrides = s.overrides ∧
    (writeTallyHeader s).dispatch = s.dispatch ∧ (writeTallyHeader s).tally = s.tally ∧
    (writeTallyHeader s).lineGuard = s.lineGuard ∧ (writeTallyHeader s).events = s.events ∧
    (writeTallyHeader s).bus.mem = s.bus.mem ∧ (writeTallyHeader s).bus.through = s.bus.through ∧
    (writeTallyHeader s).bus.port = s.bus.port ∧ (writeTallyHeader s).bus.lastGrant = s.bus.lastGrant ∧
    (writeTallyHeader s).bus.nextTxn = s.bus.nextTxn ∧ (writeTallyHeader s).bus.answers = s.bus.answers ∧
    (writeTallyHeader s).pending = s.pending := by
  unfold writeTallyHeader
  split <;> simp

@[simp] theorem joinTally_frame (u : TallyUpdate) (s : State) :
    (joinTally u s).inputs = s.inputs ∧ (joinTally u s).resetAsserted = s.resetAsserted ∧ (joinTally u s).outputs = s.outputs ∧
    (joinTally u s).shadow = s.shadow ∧ (joinTally u s).tracker = s.tracker ∧ (joinTally u s).intake = s.intake ∧
    (joinTally u s).measure = s.measure ∧ (joinTally u s).optimizer = s.optimizer ∧ (joinTally u s).skip = s.skip ∧
    (joinTally u s).overrides = s.overrides ∧ (joinTally u s).dispatch = s.dispatch ∧ (joinTally u s).tally.bank = s.tally.bank ∧
    (joinTally u s).tally.swap = s.tally.swap ∧ (joinTally u s).tally.saturated0 = s.tally.saturated0 ∧
    (joinTally u s).tally.saturated1 = s.tally.saturated1 ∧ (joinTally u s).tally.engine = s.tally.engine ∧
    (joinTally u s).tally.kept = s.tally.kept ∧ (joinTally u s).lineGuard = s.lineGuard ∧ (joinTally u s).events = s.events ∧
    (joinTally u s).bus = s.bus ∧ (joinTally u s).pending = s.pending := by
  simp [joinTally]

@[simp] theorem handUnsorted_frame (lug : Lug) (s : State) :
    (handUnsorted lug s).inputs = s.inputs ∧ (handUnsorted lug s).resetAsserted = s.resetAsserted ∧
    (handUnsorted lug s).outputs = s.outputs ∧ (handUnsorted lug s).shadow = s.shadow ∧
    (handUnsorted lug s).tracker = s.tracker ∧ (handUnsorted lug s).intake = s.intake ∧
    (handUnsorted lug s).measure = s.measure ∧ (handUnsorted lug s).optimizer = s.optimizer ∧
    (handUnsorted lug s).skip = s.skip ∧ (handUnsorted lug s).overrides = s.overrides ∧
    (handUnsorted lug s).dispatch = s.dispatch ∧ (handUnsorted lug s).tally.bank = s.tally.bank ∧
    (handUnsorted lug s).tally.swap = s.tally.swap ∧ (handUnsorted lug s).tally.saturated0 = s.tally.saturated0 ∧
    (handUnsorted lug s).tally.saturated1 = s.tally.saturated1 ∧ (handUnsorted lug s).tally.engine = s.tally.engine ∧
    (handUnsorted lug s).tally.kept = s.tally.kept ∧ (handUnsorted lug s).lineGuard = s.lineGuard ∧
    (handUnsorted lug s).bus.mem = s.bus.mem ∧ (handUnsorted lug s).bus.through = s.bus.through ∧
    (handUnsorted lug s).bus.port = s.bus.port ∧ (handUnsorted lug s).bus.lastGrant = s.bus.lastGrant ∧
    (handUnsorted lug s).bus.nextTxn = s.bus.nextTxn ∧ (handUnsorted lug s).bus.answers = s.bus.answers ∧
    (handUnsorted lug s).pending = s.pending := by
  unfold handUnsorted
  split <;> simp

@[simp] theorem startTally_frame (s : State) :
    (startTally s).inputs = s.inputs ∧ (startTally s).resetAsserted = s.resetAsserted ∧ (startTally s).outputs = s.outputs ∧
    (startTally s).shadow = s.shadow ∧ (startTally s).tracker = s.tracker ∧ (startTally s).intake = s.intake ∧
    (startTally s).measure = s.measure ∧ (startTally s).optimizer = s.optimizer ∧ (startTally s).skip = s.skip ∧
    (startTally s).overrides = s.overrides ∧ (startTally s).dispatch = s.dispatch ∧ (startTally s).tally.bank = s.tally.bank ∧
    (startTally s).tally.swap = s.tally.swap ∧ (startTally s).tally.saturated0 = s.tally.saturated0 ∧
    (startTally s).tally.saturated1 = s.tally.saturated1 ∧ (startTally s).tally.queue = s.tally.queue ∧
    (startTally s).tally.kept = s.tally.kept ∧ (startTally s).lineGuard = s.lineGuard ∧ (startTally s).events = s.events ∧
    (startTally s).bus.mem = s.bus.mem ∧ (startTally s).bus.through = s.bus.through ∧ (startTally s).bus.port = s.bus.port ∧
    (startTally s).bus.lastGrant = s.bus.lastGrant ∧ (startTally s).bus.nextTxn = s.bus.nextTxn ∧
    (startTally s).bus.answers = s.bus.answers ∧ (startTally s).pending = s.pending := by
  simp only [startTally]
  repeat' split
  all_goals simp

@[simp] theorem beginZeroing_frame (s : State) :
    (beginZeroing s).inputs = s.inputs ∧ (beginZeroing s).resetAsserted = s.resetAsserted ∧
    (beginZeroing s).outputs = s.outputs ∧ (beginZeroing s).shadow = s.shadow ∧ (beginZeroing s).tracker = s.tracker ∧
    (beginZeroing s).intake = s.intake ∧ (beginZeroing s).measure = s.measure ∧ (beginZeroing s).optimizer = s.optimizer ∧
    (beginZeroing s).skip = s.skip ∧ (beginZeroing s).overrides = s.overrides ∧ (beginZeroing s).dispatch = s.dispatch ∧
    (beginZeroing s).tally.bank = s.tally.bank ∧ (beginZeroing s).tally.saturated0 = s.tally.saturated0 ∧
    (beginZeroing s).tally.saturated1 = s.tally.saturated1 ∧ (beginZeroing s).tally.queue = s.tally.queue ∧
    (beginZeroing s).tally.engine = s.tally.engine ∧ (beginZeroing s).tally.kept = s.tally.kept ∧
    (beginZeroing s).lineGuard = s.lineGuard ∧ (beginZeroing s).events = s.events ∧ (beginZeroing s).bus.mem = s.bus.mem ∧
    (beginZeroing s).bus.through = s.bus.through ∧ (beginZeroing s).bus.port = s.bus.port ∧
    (beginZeroing s).bus.lastGrant = s.bus.lastGrant ∧ (beginZeroing s).bus.nextTxn = s.bus.nextTxn ∧
    (beginZeroing s).bus.answers = s.bus.answers ∧ (beginZeroing s).pending = s.pending := by
  simp only [beginZeroing]
  repeat' split
  all_goals simp

@[simp] theorem beginSwap_frame (s : State) :
    (beginSwap s).inputs = s.inputs ∧ (beginSwap s).resetAsserted = s.resetAsserted ∧ (beginSwap s).outputs = s.outputs ∧
    (beginSwap s).shadow = s.shadow ∧ (beginSwap s).tracker = s.tracker ∧ (beginSwap s).intake = s.intake ∧
    (beginSwap s).measure = s.measure ∧ (beginSwap s).optimizer = s.optimizer ∧ (beginSwap s).skip = s.skip ∧
    (beginSwap s).overrides = s.overrides ∧ (beginSwap s).dispatch = s.dispatch ∧ (beginSwap s).lineGuard = s.lineGuard ∧
    (beginSwap s).events = s.events ∧ (beginSwap s).bus.mem = s.bus.mem ∧ (beginSwap s).bus.through = s.bus.through ∧
    (beginSwap s).bus.port = s.bus.port ∧ (beginSwap s).bus.lastGrant = s.bus.lastGrant ∧
    (beginSwap s).bus.nextTxn = s.bus.nextTxn ∧ (beginSwap s).bus.answers = s.bus.answers ∧ (beginSwap s).pending = s.pending := by
  simp [beginSwap]

@[simp] theorem endSwapIfDone_frame (s : State) :
    (endSwapIfDone s).inputs = s.inputs ∧ (endSwapIfDone s).resetAsserted = s.resetAsserted ∧
    (endSwapIfDone s).outputs = s.outputs ∧ (endSwapIfDone s).shadow = s.shadow ∧ (endSwapIfDone s).tracker = s.tracker ∧
    (endSwapIfDone s).intake = s.intake ∧ (endSwapIfDone s).measure = s.measure ∧ (endSwapIfDone s).optimizer = s.optimizer ∧
    (endSwapIfDone s).skip = s.skip ∧ (endSwapIfDone s).overrides = s.overrides ∧ (endSwapIfDone s).dispatch = s.dispatch ∧
    (endSwapIfDone s).tally.bank = s.tally.bank ∧ (endSwapIfDone s).tally.saturated0 = s.tally.saturated0 ∧
    (endSwapIfDone s).tally.saturated1 = s.tally.saturated1 ∧ (endSwapIfDone s).tally.queue = s.tally.queue ∧
    (endSwapIfDone s).tally.engine = s.tally.engine ∧ (endSwapIfDone s).tally.kept = s.tally.kept ∧
    (endSwapIfDone s).lineGuard = s.lineGuard ∧ (endSwapIfDone s).bus.mem = s.bus.mem ∧
    (endSwapIfDone s).bus.through = s.bus.through ∧ (endSwapIfDone s).bus.port = s.bus.port ∧
    (endSwapIfDone s).bus.lastGrant = s.bus.lastGrant ∧ (endSwapIfDone s).bus.nextTxn = s.bus.nextTxn ∧
    (endSwapIfDone s).bus.answers = s.bus.answers ∧ (endSwapIfDone s).pending = s.pending := by
  simp only [endSwapIfDone]
  repeat' split
  all_goals simp

@[simp] theorem tallyWindowChanged_frame (s : State) :
    (tallyWindowChanged s).inputs = s.inputs ∧ (tallyWindowChanged s).resetAsserted = s.resetAsserted ∧
    (tallyWindowChanged s).outputs = s.outputs ∧ (tallyWindowChanged s).shadow = s.shadow ∧
    (tallyWindowChanged s).tracker = s.tracker ∧ (tallyWindowChanged s).intake = s.intake ∧
    (tallyWindowChanged s).measure = s.measure ∧ (tallyWindowChanged s).optimizer = s.optimizer ∧
    (tallyWindowChanged s).skip = s.skip ∧ (tallyWindowChanged s).overrides = s.overrides ∧
    (tallyWindowChanged s).dispatch = s.dispatch ∧ (tallyWindowChanged s).tally.bank = s.tally.bank ∧
    (tallyWindowChanged s).tally.saturated0 = s.tally.saturated0 ∧ (tallyWindowChanged s).tally.saturated1 = s.tally.saturated1 ∧
    (tallyWindowChanged s).tally.queue = s.tally.queue ∧ (tallyWindowChanged s).tally.engine = s.tally.engine ∧
    (tallyWindowChanged s).tally.kept = s.tally.kept ∧ (tallyWindowChanged s).lineGuard = s.lineGuard ∧
    (tallyWindowChanged s).events = s.events ∧ (tallyWindowChanged s).bus.mem = s.bus.mem ∧
    (tallyWindowChanged s).bus.through = s.bus.through ∧ (tallyWindowChanged s).bus.lastGrant = s.bus.lastGrant ∧
    (tallyWindowChanged s).bus.nextTxn = s.bus.nextTxn ∧ (tallyWindowChanged s).bus.answers = s.bus.answers ∧
    (tallyWindowChanged s).pending = s.pending := by
  simp [tallyWindowChanged]

end Sys2Proof.Machine
end

