-- ==== Sys2Proof/Laws/Publish.lean ====
section
/-! SUPPORT. Frames of publication and the close of a step: for each operation, every field of State that
it leaves as it was. Proofs cite these and never unfold an operation to learn what it does not touch. -/

namespace Sys2Proof.Machine

@[simp] theorem State.setArea_frame (s : State) (k : Nat) (a : Area) :
    (State.setArea s k a).inputs = s.inputs ∧ (State.setArea s k a).resetAsserted = s.resetAsserted ∧
    (State.setArea s k a).outputs = s.outputs ∧ (State.setArea s k a).shadow = s.shadow ∧
    (State.setArea s k a).tracker.lug = s.tracker.lug ∧ (State.setArea s k a).tracker.records = s.tracker.records ∧
    (State.setArea s k a).tracker.everRan = s.tracker.everRan ∧ (State.setArea s k a).intake = s.intake ∧
    (State.setArea s k a).measure = s.measure ∧ (State.setArea s k a).optimizer = s.optimizer ∧
    (State.setArea s k a).skip = s.skip ∧ (State.setArea s k a).overrides = s.overrides ∧
    (State.setArea s k a).dispatch = s.dispatch ∧ (State.setArea s k a).tally = s.tally ∧
    (State.setArea s k a).lineGuard = s.lineGuard ∧ (State.setArea s k a).events = s.events ∧ (State.setArea s k a).bus = s.bus ∧
    (State.setArea s k a).pending = s.pending := by
  simp [State.setArea]

@[simp] theorem beginMirror_frame (k : Nat) (s : State) :
    (beginMirror k s).inputs = s.inputs ∧ (beginMirror k s).resetAsserted = s.resetAsserted ∧
    (beginMirror k s).outputs = s.outputs ∧ (beginMirror k s).shadow = s.shadow ∧ (beginMirror k s).tracker.lug = s.tracker.lug ∧
    (beginMirror k s).tracker.records = s.tracker.records ∧ (beginMirror k s).tracker.everRan = s.tracker.everRan ∧
    (beginMirror k s).intake = s.intake ∧ (beginMirror k s).measure = s.measure ∧ (beginMirror k s).optimizer = s.optimizer ∧
    (beginMirror k s).skip = s.skip ∧ (beginMirror k s).overrides = s.overrides ∧ (beginMirror k s).dispatch = s.dispatch ∧
    (beginMirror k s).tally = s.tally ∧ (beginMirror k s).lineGuard = s.lineGuard ∧ (beginMirror k s).events = s.events ∧
    (beginMirror k s).bus.mem = s.bus.mem ∧ (beginMirror k s).bus.through = s.bus.through ∧
    (beginMirror k s).bus.port = s.bus.port ∧ (beginMirror k s).bus.lastGrant = s.bus.lastGrant ∧
    (beginMirror k s).bus.nextTxn = s.bus.nextTxn ∧ (beginMirror k s).bus.answers = s.bus.answers ∧
    (beginMirror k s).pending = s.pending := by
  unfold beginMirror
  split <;> simp

@[simp] theorem publishArea_frame (k : Nat) (s : State) :
    (publishArea k s).inputs = s.inputs ∧ (publishArea k s).resetAsserted = s.resetAsserted ∧
    (publishArea k s).outputs = s.outputs ∧ (publishArea k s).shadow = s.shadow ∧ (publishArea k s).tracker.lug = s.tracker.lug ∧
    (publishArea k s).tracker.records = s.tracker.records ∧ (publishArea k s).tracker.everRan = s.tracker.everRan ∧
    (publishArea k s).intake = s.intake ∧ (publishArea k s).measure = s.measure ∧ (publishArea k s).optimizer = s.optimizer ∧
    (publishArea k s).skip = s.skip ∧ (publishArea k s).overrides = s.overrides ∧ (publishArea k s).dispatch = s.dispatch ∧
    (publishArea k s).tally = s.tally ∧ (publishArea k s).lineGuard = s.lineGuard ∧ (publishArea k s).events = s.events ∧
    (publishArea k s).bus.mem = s.bus.mem ∧ (publishArea k s).bus.through = s.bus.through ∧
    (publishArea k s).bus.port = s.bus.port ∧ (publishArea k s).bus.lastGrant = s.bus.lastGrant ∧
    (publishArea k s).bus.nextTxn = s.bus.nextTxn ∧ (publishArea k s).bus.answers = s.bus.answers ∧
    (publishArea k s).pending = s.pending := by
  unfold publishArea
  split <;> simp

@[simp] theorem publishAll_frame (s : State) :
    (publishAll s).inputs = s.inputs ∧ (publishAll s).resetAsserted = s.resetAsserted ∧ (publishAll s).outputs = s.outputs ∧
    (publishAll s).shadow = s.shadow ∧ (publishAll s).tracker.lug = s.tracker.lug ∧
    (publishAll s).tracker.records = s.tracker.records ∧ (publishAll s).tracker.everRan = s.tracker.everRan ∧
    (publishAll s).intake = s.intake ∧ (publishAll s).measure = s.measure ∧ (publishAll s).optimizer = s.optimizer ∧
    (publishAll s).skip = s.skip ∧ (publishAll s).overrides = s.overrides ∧ (publishAll s).dispatch = s.dispatch ∧
    (publishAll s).tally = s.tally ∧ (publishAll s).lineGuard = s.lineGuard ∧ (publishAll s).events = s.events ∧
    (publishAll s).bus.mem = s.bus.mem ∧ (publishAll s).bus.through = s.bus.through ∧ (publishAll s).bus.port = s.bus.port ∧
    (publishAll s).bus.lastGrant = s.bus.lastGrant ∧ (publishAll s).bus.nextTxn = s.bus.nextTxn ∧
    (publishAll s).bus.answers = s.bus.answers ∧ (publishAll s).pending = s.pending := by
  simp [publishAll]

@[simp] theorem publish_frame (s0 : State) (s1 : State) :
    (publish s0 s1).inputs = s1.inputs ∧ (publish s0 s1).resetAsserted = s1.resetAsserted ∧
    (publish s0 s1).outputs = s1.outputs ∧ (publish s0 s1).shadow = s1.shadow ∧ (publish s0 s1).tracker.lug = s1.tracker.lug ∧
    (publish s0 s1).tracker.records = s1.tracker.records ∧ (publish s0 s1).tracker.everRan = s1.tracker.everRan ∧
    (publish s0 s1).intake = s1.intake ∧ (publish s0 s1).measure = s1.measure ∧ (publish s0 s1).optimizer = s1.optimizer ∧
    (publish s0 s1).skip = s1.skip ∧ (publish s0 s1).overrides = s1.overrides ∧ (publish s0 s1).dispatch = s1.dispatch ∧
    (publish s0 s1).tally = s1.tally ∧ (publish s0 s1).lineGuard = s1.lineGuard ∧ (publish s0 s1).events = s1.events ∧
    (publish s0 s1).bus.mem = s1.bus.mem ∧ (publish s0 s1).bus.through = s1.bus.through ∧
    (publish s0 s1).bus.port = s1.bus.port ∧ (publish s0 s1).bus.lastGrant = s1.bus.lastGrant ∧
    (publish s0 s1).bus.nextTxn = s1.bus.nextTxn ∧ (publish s0 s1).bus.answers = s1.bus.answers ∧
    (publish s0 s1).pending = s1.pending := by
  simp only [publish]
  repeat' split
  all_goals simp

@[simp] theorem startRun_frame (s : State) :
    (startRun s).inputs = s.inputs ∧ (startRun s).resetAsserted = s.resetAsserted ∧ (startRun s).outputs = s.outputs ∧
    (startRun s).shadow = s.shadow ∧ (startRun s).tracker.lug = s.tracker.lug ∧ (startRun s).tracker.everRan = s.tracker.everRan ∧
    (startRun s).intake = s.intake ∧ (startRun s).measure = s.measure ∧ (startRun s).skip = s.skip ∧
    (startRun s).overrides = s.overrides ∧ (startRun s).dispatch = s.dispatch ∧ (startRun s).tally = s.tally ∧
    (startRun s).lineGuard = s.lineGuard ∧ (startRun s).events = s.events ∧ (startRun s).bus.mem = s.bus.mem ∧
    (startRun s).bus.through = s.bus.through ∧ (startRun s).bus.port = s.bus.port ∧ (startRun s).bus.lastGrant = s.bus.lastGrant ∧
    (startRun s).bus.nextTxn = s.bus.nextTxn ∧ (startRun s).bus.answers = s.bus.answers ∧ (startRun s).pending = s.pending := by
  simp [startRun]

@[simp] theorem settle_frame (s0 : State) (s1 : State) :
    (settle s0 s1).inputs = s1.inputs ∧ (settle s0 s1).resetAsserted = s1.resetAsserted ∧ (settle s0 s1).outputs = s1.outputs ∧
    (settle s0 s1).shadow = s1.shadow ∧ (settle s0 s1).tracker.lug = s1.tracker.lug ∧
    (settle s0 s1).tracker.everRan = s1.tracker.everRan ∧ (settle s0 s1).intake = s1.intake ∧
    (settle s0 s1).measure = s1.measure ∧ (settle s0 s1).skip = s1.skip ∧ (settle s0 s1).overrides = s1.overrides ∧
    (settle s0 s1).dispatch = s1.dispatch ∧ (settle s0 s1).tally.bank = s1.tally.bank ∧
    (settle s0 s1).tally.swap = s1.tally.swap ∧ (settle s0 s1).tally.saturated0 = s1.tally.saturated0 ∧
    (settle s0 s1).tally.saturated1 = s1.tally.saturated1 ∧ (settle s0 s1).tally.queue = s1.tally.queue ∧
    (settle s0 s1).tally.kept = s1.tally.kept ∧ (settle s0 s1).lineGuard = s1.lineGuard ∧ (settle s0 s1).events = s1.events ∧
    (settle s0 s1).bus.mem = s1.bus.mem ∧ (settle s0 s1).bus.through = s1.bus.through ∧ (settle s0 s1).bus.port = s1.bus.port ∧
    (settle s0 s1).bus.lastGrant = s1.bus.lastGrant ∧ (settle s0 s1).bus.nextTxn = s1.bus.nextTxn ∧
    (settle s0 s1).bus.answers = s1.bus.answers ∧ (settle s0 s1).pending = s1.pending := by
  simp [settle]

@[simp] theorem finish_frame (s : State) :
    (finish s).inputs = s.inputs ∧ (finish s).resetAsserted = s.resetAsserted ∧ (finish s).shadow = s.shadow ∧
    (finish s).tracker = s.tracker ∧ (finish s).intake = s.intake ∧ (finish s).measure = s.measure ∧
    (finish s).optimizer = s.optimizer ∧ (finish s).skip = s.skip ∧ (finish s).overrides = s.overrides ∧
    (finish s).dispatch = s.dispatch ∧ (finish s).tally = s.tally ∧ (finish s).lineGuard = s.lineGuard ∧
    (finish s).events = s.events ∧ (finish s).bus.mem = s.bus.mem ∧ (finish s).bus.nextTxn = s.bus.nextTxn ∧
    (finish s).bus.answers = s.bus.answers ∧ (finish s).pending = s.pending := by
  simp [finish]

end Sys2Proof.Machine
end

