-- ==== Sys2Proof/Laws/DispatchUnit.lean ====
section
/-! SUPPORT. Frames of the dispatch unit: for each operation, every field of State that
it leaves as it was. Proofs cite these and never unfold an operation to learn what it does not touch. -/

namespace Sys2Proof.Machine

@[simp] theorem holdRead_frame (txn : Nat) (m : Master) (k : Nat) (s : State) :
    (holdRead txn m k s).inputs = s.inputs ∧ (holdRead txn m k s).resetAsserted = s.resetAsserted ∧
    (holdRead txn m k s).outputs = s.outputs ∧ (holdRead txn m k s).shadow = s.shadow ∧
    (holdRead txn m k s).tracker = s.tracker ∧ (holdRead txn m k s).intake = s.intake ∧
    (holdRead txn m k s).measure = s.measure ∧ (holdRead txn m k s).optimizer = s.optimizer ∧
    (holdRead txn m k s).skip = s.skip ∧ (holdRead txn m k s).overrides = s.overrides ∧
    (holdRead txn m k s).dispatch.waiting = s.dispatch.waiting ∧ (holdRead txn m k s).dispatch.counts = s.dispatch.counts ∧
    (holdRead txn m k s).tally = s.tally ∧ (holdRead txn m k s).lineGuard = s.lineGuard ∧
    (holdRead txn m k s).bus.mem = s.bus.mem ∧ (holdRead txn m k s).bus.through = s.bus.through ∧
    (holdRead txn m k s).bus.port = s.bus.port ∧ (holdRead txn m k s).bus.lastGrant = s.bus.lastGrant ∧
    (holdRead txn m k s).bus.nextTxn = s.bus.nextTxn ∧ (holdRead txn m k s).pending = s.pending := by
  unfold holdRead
  split <;> simp

@[simp] theorem trimReadSlot_frame (txn : Nat) (m : Master) (k : Nat) (s : State) :
    (trimReadSlot txn m k s).inputs = s.inputs ∧ (trimReadSlot txn m k s).resetAsserted = s.resetAsserted ∧
    (trimReadSlot txn m k s).outputs = s.outputs ∧ (trimReadSlot txn m k s).shadow = s.shadow ∧
    (trimReadSlot txn m k s).tracker.lug = s.tracker.lug ∧ (trimReadSlot txn m k s).tracker.areas = s.tracker.areas ∧
    (trimReadSlot txn m k s).tracker.everRan = s.tracker.everRan ∧ (trimReadSlot txn m k s).intake = s.intake ∧
    (trimReadSlot txn m k s).measure = s.measure ∧ (trimReadSlot txn m k s).optimizer = s.optimizer ∧
    (trimReadSlot txn m k s).skip = s.skip ∧ (trimReadSlot txn m k s).overrides = s.overrides ∧
    (trimReadSlot txn m k s).dispatch.waiting = s.dispatch.waiting ∧
    (trimReadSlot txn m k s).dispatch.counts = s.dispatch.counts ∧ (trimReadSlot txn m k s).tally = s.tally ∧
    (trimReadSlot txn m k s).lineGuard = s.lineGuard ∧ (trimReadSlot txn m k s).bus.mem = s.bus.mem ∧
    (trimReadSlot txn m k s).bus.through = s.bus.through ∧ (trimReadSlot txn m k s).bus.port = s.bus.port ∧
    (trimReadSlot txn m k s).bus.lastGrant = s.bus.lastGrant ∧ (trimReadSlot txn m k s).bus.nextTxn = s.bus.nextTxn ∧
    (trimReadSlot txn m k s).pending = s.pending := by
  simp only [trimReadSlot]
  split <;> simp

@[simp] theorem answerExpired_frame (h : HeldRead) (word : Word) (s : State) :
    (answerExpired h word s).inputs = s.inputs ∧ (answerExpired h word s).resetAsserted = s.resetAsserted ∧
    (answerExpired h word s).outputs = s.outputs ∧ (answerExpired h word s).shadow = s.shadow ∧
    (answerExpired h word s).tracker = s.tracker ∧ (answerExpired h word s).intake = s.intake ∧
    (answerExpired h word s).measure = s.measure ∧ (answerExpired h word s).optimizer = s.optimizer ∧
    (answerExpired h word s).skip = s.skip ∧ (answerExpired h word s).overrides = s.overrides ∧
    (answerExpired h word s).dispatch.waiting = s.dispatch.waiting ∧
    (answerExpired h word s).dispatch.counts = s.dispatch.counts ∧ (answerExpired h word s).tally = s.tally ∧
    (answerExpired h word s).lineGuard = s.lineGuard ∧ (answerExpired h word s).events = s.events ∧
    (answerExpired h word s).bus.mem = s.bus.mem ∧ (answerExpired h word s).bus.through = s.bus.through ∧
    (answerExpired h word s).bus.internal = s.bus.internal ∧ (answerExpired h word s).bus.port = s.bus.port ∧
    (answerExpired h word s).bus.lastGrant = s.bus.lastGrant ∧ (answerExpired h word s).bus.nextTxn = s.bus.nextTxn ∧
    (answerExpired h word s).pending = s.pending := by
  simp [answerExpired]

@[simp] theorem emitLate_frame (r : Record) (blog : Nat) (s : State) :
    (emitLate r blog s).inputs = s.inputs ∧ (emitLate r blog s).resetAsserted = s.resetAsserted ∧
    (emitLate r blog s).outputs = s.outputs ∧ (emitLate r blog s).shadow = s.shadow ∧ (emitLate r blog s).tracker = s.tracker ∧
    (emitLate r blog s).intake = s.intake ∧ (emitLate r blog s).measure = s.measure ∧
    (emitLate r blog s).optimizer = s.optimizer ∧ (emitLate r blog s).skip = s.skip ∧
    (emitLate r blog s).overrides = s.overrides ∧ (emitLate r blog s).dispatch = s.dispatch ∧
    (emitLate r blog s).tally = s.tally ∧ (emitLate r blog s).lineGuard = s.lineGuard ∧ (emitLate r blog s).bus.mem = s.bus.mem ∧
    (emitLate r blog s).bus.through = s.bus.through ∧ (emitLate r blog s).bus.port = s.bus.port ∧
    (emitLate r blog s).bus.lastGrant = s.bus.lastGrant ∧ (emitLate r blog s).bus.nextTxn = s.bus.nextTxn ∧
    (emitLate r blog s).bus.answers = s.bus.answers ∧ (emitLate r blog s).pending = s.pending := by
  unfold emitLate
  split <;> simp

@[simp] theorem expireHold_frame (h : HeldRead) (s : State) :
    (expireHold h s).inputs = s.inputs ∧ (expireHold h s).resetAsserted = s.resetAsserted ∧
    (expireHold h s).outputs = s.outputs ∧ (expireHold h s).shadow = s.shadow ∧ (expireHold h s).tracker.lug = s.tracker.lug ∧
    (expireHold h s).tracker.areas = s.tracker.areas ∧ (expireHold h s).tracker.everRan = s.tracker.everRan ∧
    (expireHold h s).intake = s.intake ∧ (expireHold h s).skip = s.skip ∧ (expireHold h s).overrides = s.overrides ∧
    (expireHold h s).dispatch.waiting = s.dispatch.waiting ∧ (expireHold h s).dispatch.counts = s.dispatch.counts ∧
    (expireHold h s).tally = s.tally ∧ (expireHold h s).lineGuard.force = s.lineGuard.force ∧
    (expireHold h s).bus.mem = s.bus.mem ∧ (expireHold h s).bus.through = s.bus.through ∧
    (expireHold h s).bus.port = s.bus.port ∧ (expireHold h s).bus.lastGrant = s.bus.lastGrant ∧
    (expireHold h s).bus.nextTxn = s.bus.nextTxn ∧ (expireHold h s).pending = s.pending := by
  simp only [expireHold]
  split <;> simp

@[simp] theorem raiseBin_frame (b : Nat) (s : State) :
    (raiseBin b s).inputs = s.inputs ∧ (raiseBin b s).resetAsserted = s.resetAsserted ∧ (raiseBin b s).outputs = s.outputs ∧
    (raiseBin b s).shadow = s.shadow ∧ (raiseBin b s).tracker = s.tracker ∧ (raiseBin b s).intake = s.intake ∧
    (raiseBin b s).measure = s.measure ∧ (raiseBin b s).optimizer = s.optimizer ∧ (raiseBin b s).skip = s.skip ∧
    (raiseBin b s).overrides = s.overrides ∧ (raiseBin b s).dispatch.held = s.dispatch.held ∧
    (raiseBin b s).dispatch.waiting = s.dispatch.waiting ∧ (raiseBin b s).tally = s.tally ∧
    (raiseBin b s).lineGuard = s.lineGuard ∧ (raiseBin b s).events = s.events ∧ (raiseBin b s).bus = s.bus ∧
    (raiseBin b s).pending = s.pending := by
  simp [raiseBin]

@[simp] theorem emitBinFull_frame (b : Nat) (lug : Lug) (s : State) :
    (emitBinFull b lug s).inputs = s.inputs ∧ (emitBinFull b lug s).resetAsserted = s.resetAsserted ∧
    (emitBinFull b lug s).outputs = s.outputs ∧ (emitBinFull b lug s).shadow = s.shadow ∧
    (emitBinFull b lug s).tracker = s.tracker ∧ (emitBinFull b lug s).intake = s.intake ∧
    (emitBinFull b lug s).measure = s.measure ∧ (emitBinFull b lug s).optimizer = s.optimizer ∧
    (emitBinFull b lug s).skip = s.skip ∧ (emitBinFull b lug s).overrides = s.overrides ∧
    (emitBinFull b lug s).dispatch = s.dispatch ∧ (emitBinFull b lug s).tally = s.tally ∧
    (emitBinFull b lug s).lineGuard = s.lineGuard ∧ (emitBinFull b lug s).bus.mem = s.bus.mem ∧
    (emitBinFull b lug s).bus.through = s.bus.through ∧ (emitBinFull b lug s).bus.port = s.bus.port ∧
    (emitBinFull b lug s).bus.lastGrant = s.bus.lastGrant ∧ (emitBinFull b lug s).bus.nextTxn = s.bus.nextTxn ∧
    (emitBinFull b lug s).bus.answers = s.bus.answers ∧ (emitBinFull b lug s).pending = s.pending := by
  unfold emitBinFull
  split <;> simp

@[simp] theorem emitNoBin_frame (r : Record) (s : State) :
    (emitNoBin r s).inputs = s.inputs ∧ (emitNoBin r s).resetAsserted = s.resetAsserted ∧ (emitNoBin r s).outputs = s.outputs ∧
    (emitNoBin r s).shadow = s.shadow ∧ (emitNoBin r s).tracker = s.tracker ∧ (emitNoBin r s).intake = s.intake ∧
    (emitNoBin r s).measure = s.measure ∧ (emitNoBin r s).optimizer = s.optimizer ∧ (emitNoBin r s).skip = s.skip ∧
    (emitNoBin r s).overrides = s.overrides ∧ (emitNoBin r s).dispatch = s.dispatch ∧ (emitNoBin r s).tally = s.tally ∧
    (emitNoBin r s).lineGuard = s.lineGuard ∧ (emitNoBin r s).bus.mem = s.bus.mem ∧ (emitNoBin r s).bus.through = s.bus.through ∧
    (emitNoBin r s).bus.port = s.bus.port ∧ (emitNoBin r s).bus.lastGrant = s.bus.lastGrant ∧
    (emitNoBin r s).bus.nextTxn = s.bus.nextTxn ∧ (emitNoBin r s).bus.answers = s.bus.answers ∧
    (emitNoBin r s).pending = s.pending := by
  unfold emitNoBin
  split <;> simp

@[simp] theorem emitUntrimmed_frame (r : Record) (s : State) :
    (emitUntrimmed r s).inputs = s.inputs ∧ (emitUntrimmed r s).resetAsserted = s.resetAsserted ∧
    (emitUntrimmed r s).outputs = s.outputs ∧ (emitUntrimmed r s).shadow = s.shadow ∧ (emitUntrimmed r s).tracker = s.tracker ∧
    (emitUntrimmed r s).intake = s.intake ∧ (emitUntrimmed r s).measure = s.measure ∧
    (emitUntrimmed r s).optimizer = s.optimizer ∧ (emitUntrimmed r s).skip = s.skip ∧
    (emitUntrimmed r s).overrides = s.overrides ∧ (emitUntrimmed r s).dispatch = s.dispatch ∧
    (emitUntrimmed r s).tally = s.tally ∧ (emitUntrimmed r s).lineGuard = s.lineGuard ∧ (emitUntrimmed r s).bus.mem = s.bus.mem ∧
    (emitUntrimmed r s).bus.through = s.bus.through ∧ (emitUntrimmed r s).bus.port = s.bus.port ∧
    (emitUntrimmed r s).bus.lastGrant = s.bus.lastGrant ∧ (emitUntrimmed r s).bus.nextTxn = s.bus.nextTxn ∧
    (emitUntrimmed r s).bus.answers = s.bus.answers ∧ (emitUntrimmed r s).pending = s.pending := by
  simp [emitUntrimmed]

@[simp] theorem judgeSort_frame (txn : Nat) (m : Master) (k : Nat) (s : State) :
    (judgeSort txn m k s).inputs = s.inputs ∧ (judgeSort txn m k s).resetAsserted = s.resetAsserted ∧
    (judgeSort txn m k s).outputs = s.outputs ∧ (judgeSort txn m k s).shadow = s.shadow ∧
    (judgeSort txn m k s).tracker.lug = s.tracker.lug ∧ (judgeSort txn m k s).tracker.areas = s.tracker.areas ∧
    (judgeSort txn m k s).tracker.everRan = s.tracker.everRan ∧ (judgeSort txn m k s).skip = s.skip ∧
    (judgeSort txn m k s).overrides.fifo = s.overrides.fifo ∧ (judgeSort txn m k s).overrides.readback = s.overrides.readback ∧
    (judgeSort txn m k s).overrides.waiting = s.overrides.waiting ∧
    (judgeSort txn m k s).overrides.sawMask = s.overrides.sawMask ∧
    (judgeSort txn m k s).overrides.sawTimer = s.overrides.sawTimer ∧
    (judgeSort txn m k s).dispatch.waiting = s.dispatch.waiting ∧ (judgeSort txn m k s).tally.bank = s.tally.bank ∧
    (judgeSort txn m k s).tally.swap = s.tally.swap ∧ (judgeSort txn m k s).tally.saturated0 = s.tally.saturated0 ∧
    (judgeSort txn m k s).tally.saturated1 = s.tally.saturated1 ∧ (judgeSort txn m k s).tally.engine = s.tally.engine ∧
    (judgeSort txn m k s).tally.kept = s.tally.kept ∧ (judgeSort txn m k s).lineGuard.force = s.lineGuard.force ∧
    (judgeSort txn m k s).bus.mem = s.bus.mem ∧ (judgeSort txn m k s).bus.through = s.bus.through ∧
    (judgeSort txn m k s).bus.port = s.bus.port ∧ (judgeSort txn m k s).bus.lastGrant = s.bus.lastGrant ∧
    (judgeSort txn m k s).bus.nextTxn = s.bus.nextTxn ∧ (judgeSort txn m k s).pending = s.pending := by
  simp only [judgeSort]
  repeat' split
  all_goals simp

@[simp] theorem sortReadSlot_frame (txn : Nat) (m : Master) (k : Nat) (s : State) :
    (sortReadSlot txn m k s).inputs = s.inputs ∧ (sortReadSlot txn m k s).resetAsserted = s.resetAsserted ∧
    (sortReadSlot txn m k s).outputs = s.outputs ∧ (sortReadSlot txn m k s).shadow = s.shadow ∧
    (sortReadSlot txn m k s).tracker.lug = s.tracker.lug ∧ (sortReadSlot txn m k s).tracker.areas = s.tracker.areas ∧
    (sortReadSlot txn m k s).tracker.everRan = s.tracker.everRan ∧ (sortReadSlot txn m k s).skip = s.skip ∧
    (sortReadSlot txn m k s).overrides.fifo = s.overrides.fifo ∧
    (sortReadSlot txn m k s).overrides.readback = s.overrides.readback ∧
    (sortReadSlot txn m k s).overrides.waiting = s.overrides.waiting ∧
    (sortReadSlot txn m k s).overrides.sawMask = s.overrides.sawMask ∧
    (sortReadSlot txn m k s).overrides.sawTimer = s.overrides.sawTimer ∧ (sortReadSlot txn m k s).tally.bank = s.tally.bank ∧
    (sortReadSlot txn m k s).tally.swap = s.tally.swap ∧ (sortReadSlot txn m k s).tally.saturated0 = s.tally.saturated0 ∧
    (sortReadSlot txn m k s).tally.saturated1 = s.tally.saturated1 ∧ (sortReadSlot txn m k s).tally.engine = s.tally.engine ∧
    (sortReadSlot txn m k s).tally.kept = s.tally.kept ∧ (sortReadSlot txn m k s).lineGuard.force = s.lineGuard.force ∧
    (sortReadSlot txn m k s).bus.mem = s.bus.mem ∧ (sortReadSlot txn m k s).bus.through = s.bus.through ∧
    (sortReadSlot txn m k s).bus.port = s.bus.port ∧ (sortReadSlot txn m k s).bus.lastGrant = s.bus.lastGrant ∧
    (sortReadSlot txn m k s).bus.nextTxn = s.bus.nextTxn ∧ (sortReadSlot txn m k s).pending = s.pending := by
  simp only [sortReadSlot]
  repeat' split
  all_goals simp

@[simp] theorem judgeWaiting_frame (fuel : Nat) (s : State) :
    (judgeWaiting fuel s).inputs = s.inputs ∧ (judgeWaiting fuel s).resetAsserted = s.resetAsserted ∧
    (judgeWaiting fuel s).outputs = s.outputs ∧ (judgeWaiting fuel s).shadow = s.shadow ∧
    (judgeWaiting fuel s).tracker.lug = s.tracker.lug ∧ (judgeWaiting fuel s).tracker.areas = s.tracker.areas ∧
    (judgeWaiting fuel s).tracker.everRan = s.tracker.everRan ∧ (judgeWaiting fuel s).skip = s.skip ∧
    (judgeWaiting fuel s).overrides.fifo = s.overrides.fifo ∧ (judgeWaiting fuel s).overrides.readback = s.overrides.readback ∧
    (judgeWaiting fuel s).overrides.waiting = s.overrides.waiting ∧
    (judgeWaiting fuel s).overrides.sawMask = s.overrides.sawMask ∧
    (judgeWaiting fuel s).overrides.sawTimer = s.overrides.sawTimer ∧ (judgeWaiting fuel s).tally.bank = s.tally.bank ∧
    (judgeWaiting fuel s).tally.swap = s.tally.swap ∧ (judgeWaiting fuel s).tally.saturated0 = s.tally.saturated0 ∧
    (judgeWaiting fuel s).tally.saturated1 = s.tally.saturated1 ∧ (judgeWaiting fuel s).tally.engine = s.tally.engine ∧
    (judgeWaiting fuel s).tally.kept = s.tally.kept ∧ (judgeWaiting fuel s).lineGuard.force = s.lineGuard.force ∧
    (judgeWaiting fuel s).bus.mem = s.bus.mem ∧ (judgeWaiting fuel s).bus.through = s.bus.through ∧
    (judgeWaiting fuel s).bus.port = s.bus.port ∧ (judgeWaiting fuel s).bus.lastGrant = s.bus.lastGrant ∧
    (judgeWaiting fuel s).bus.nextTxn = s.bus.nextTxn ∧ (judgeWaiting fuel s).pending = s.pending := by
  induction fuel generalizing s with
  | zero => simp [judgeWaiting]
  | succ n ih =>
    unfold judgeWaiting
    split
    · simp
    · split <;> simp [ih]

end Sys2Proof.Machine
end

