-- ==== Sys2Proof/Laws/LugEvent.lean ====
section
/-! SUPPORT. Frames of the lug event and the input filters: for each operation, every field of State that
it leaves as it was. Proofs cite these and never unfold an operation to learn what it does not touch. -/

namespace Sys2Proof.Machine

@[simp] theorem setTrimEntry_frame (k : Nat) (kind : OverrideKind) (addr : Word) (tag : BitVec 15) (s : State) :
    (setTrimEntry k kind addr tag s).inputs = s.inputs ∧ (setTrimEntry k kind addr tag s).resetAsserted = s.resetAsserted ∧
    (setTrimEntry k kind addr tag s).outputs = s.outputs ∧ (setTrimEntry k kind addr tag s).shadow = s.shadow ∧
    (setTrimEntry k kind addr tag s).tracker = s.tracker ∧ (setTrimEntry k kind addr tag s).intake = s.intake ∧
    (setTrimEntry k kind addr tag s).measure = s.measure ∧ (setTrimEntry k kind addr tag s).optimizer = s.optimizer ∧
    (setTrimEntry k kind addr tag s).skip = s.skip ∧ (setTrimEntry k kind addr tag s).overrides.fifo = s.overrides.fifo ∧
    (setTrimEntry k kind addr tag s).overrides.readback = s.overrides.readback ∧
    (setTrimEntry k kind addr tag s).overrides.waiting = s.overrides.waiting ∧
    (setTrimEntry k kind addr tag s).overrides.sawMask = s.overrides.sawMask ∧
    (setTrimEntry k kind addr tag s).overrides.sawTimer = s.overrides.sawTimer ∧
    (setTrimEntry k kind addr tag s).dispatch = s.dispatch ∧ (setTrimEntry k kind addr tag s).tally = s.tally ∧
    (setTrimEntry k kind addr tag s).lineGuard = s.lineGuard ∧ (setTrimEntry k kind addr tag s).events = s.events ∧
    (setTrimEntry k kind addr tag s).bus = s.bus ∧ (setTrimEntry k kind addr tag s).pending = s.pending := by
  unfold setTrimEntry
  split <;> simp

@[simp] theorem applyPart_frame (k : Nat) (kind : OverrideKind) (arg : Word) (addr : Word) (tag : BitVec 15) (s : State) :
    (applyPart k kind arg addr tag s).inputs = s.inputs ∧ (applyPart k kind arg addr tag s).resetAsserted = s.resetAsserted ∧
    (applyPart k kind arg addr tag s).outputs = s.outputs ∧ (applyPart k kind arg addr tag s).shadow = s.shadow ∧
    (applyPart k kind arg addr tag s).tracker.lug = s.tracker.lug ∧
    (applyPart k kind arg addr tag s).tracker.areas = s.tracker.areas ∧
    (applyPart k kind arg addr tag s).tracker.everRan = s.tracker.everRan ∧ (applyPart k kind arg addr tag s).intake = s.intake ∧
    (applyPart k kind arg addr tag s).measure = s.measure ∧ (applyPart k kind arg addr tag s).optimizer = s.optimizer ∧
    (applyPart k kind arg addr tag s).skip = s.skip ∧ (applyPart k kind arg addr tag s).overrides.fifo = s.overrides.fifo ∧
    (applyPart k kind arg addr tag s).overrides.readback = s.overrides.readback ∧
    (applyPart k kind arg addr tag s).overrides.waiting = s.overrides.waiting ∧
    (applyPart k kind arg addr tag s).overrides.sawMask = s.overrides.sawMask ∧
    (applyPart k kind arg addr tag s).overrides.sawTimer = s.overrides.sawTimer ∧
    (applyPart k kind arg addr tag s).dispatch = s.dispatch ∧ (applyPart k kind arg addr tag s).tally = s.tally ∧
    (applyPart k kind arg addr tag s).lineGuard = s.lineGuard ∧ (applyPart k kind arg addr tag s).events = s.events ∧
    (applyPart k kind arg addr tag s).bus = s.bus ∧ (applyPart k kind arg addr tag s).pending = s.pending := by
  simp [applyPart]

@[simp] theorem retireUnsorted_frame (k : Nat) (s : State) :
    (retireUnsorted k s).inputs = s.inputs ∧ (retireUnsorted k s).resetAsserted = s.resetAsserted ∧
    (retireUnsorted k s).outputs = s.outputs ∧ (retireUnsorted k s).shadow = s.shadow ∧
    (retireUnsorted k s).tracker.lug = s.tracker.lug ∧ (retireUnsorted k s).tracker.areas = s.tracker.areas ∧
    (retireUnsorted k s).tracker.everRan = s.tracker.everRan ∧ (retireUnsorted k s).skip = s.skip ∧
    (retireUnsorted k s).overrides.fifo = s.overrides.fifo ∧ (retireUnsorted k s).overrides.readback = s.overrides.readback ∧
    (retireUnsorted k s).overrides.waiting = s.overrides.waiting ∧ (retireUnsorted k s).overrides.sawMask = s.overrides.sawMask ∧
    (retireUnsorted k s).overrides.sawTimer = s.overrides.sawTimer ∧ (retireUnsorted k s).dispatch.waiting = s.dispatch.waiting ∧
    (retireUnsorted k s).dispatch.counts = s.dispatch.counts ∧ (retireUnsorted k s).tally.bank = s.tally.bank ∧
    (retireUnsorted k s).tally.swap = s.tally.swap ∧ (retireUnsorted k s).tally.saturated0 = s.tally.saturated0 ∧
    (retireUnsorted k s).tally.saturated1 = s.tally.saturated1 ∧ (retireUnsorted k s).tally.engine = s.tally.engine ∧
    (retireUnsorted k s).tally.kept = s.tally.kept ∧ (retireUnsorted k s).lineGuard.force = s.lineGuard.force ∧
    (retireUnsorted k s).bus.mem = s.bus.mem ∧ (retireUnsorted k s).bus.through = s.bus.through ∧
    (retireUnsorted k s).bus.port = s.bus.port ∧ (retireUnsorted k s).bus.lastGrant = s.bus.lastGrant ∧
    (retireUnsorted k s).bus.nextTxn = s.bus.nextTxn ∧ (retireUnsorted k s).pending = s.pending := by
  simp [retireUnsorted]

@[simp] theorem retireStep_frame (s : State) :
    (retireStep s).inputs = s.inputs ∧ (retireStep s).resetAsserted = s.resetAsserted ∧ (retireStep s).outputs = s.outputs ∧
    (retireStep s).shadow = s.shadow ∧ (retireStep s).tracker.lug = s.tracker.lug ∧
    (retireStep s).tracker.areas = s.tracker.areas ∧ (retireStep s).tracker.everRan = s.tracker.everRan ∧
    (retireStep s).skip = s.skip ∧ (retireStep s).overrides.fifo = s.overrides.fifo ∧
    (retireStep s).overrides.readback = s.overrides.readback ∧ (retireStep s).overrides.waiting = s.overrides.waiting ∧
    (retireStep s).overrides.sawMask = s.overrides.sawMask ∧ (retireStep s).overrides.sawTimer = s.overrides.sawTimer ∧
    (retireStep s).dispatch.waiting = s.dispatch.waiting ∧ (retireStep s).dispatch.counts = s.dispatch.counts ∧
    (retireStep s).tally.bank = s.tally.bank ∧ (retireStep s).tally.swap = s.tally.swap ∧
    (retireStep s).tally.saturated0 = s.tally.saturated0 ∧ (retireStep s).tally.saturated1 = s.tally.saturated1 ∧
    (retireStep s).tally.engine = s.tally.engine ∧ (retireStep s).tally.kept = s.tally.kept ∧
    (retireStep s).lineGuard.force = s.lineGuard.force ∧ (retireStep s).bus.mem = s.bus.mem ∧
    (retireStep s).bus.through = s.bus.through ∧ (retireStep s).bus.port = s.bus.port ∧
    (retireStep s).bus.lastGrant = s.bus.lastGrant ∧ (retireStep s).bus.nextTxn = s.bus.nextTxn ∧
    (retireStep s).pending = s.pending := by
  simp only [retireStep]
  split <;> simp

@[simp] theorem closeStep_frame (s : State) :
    (closeStep s).inputs = s.inputs ∧ (closeStep s).resetAsserted = s.resetAsserted ∧ (closeStep s).outputs = s.outputs ∧
    (closeStep s).shadow = s.shadow ∧ (closeStep s).tracker.lug = s.tracker.lug ∧ (closeStep s).tracker.areas = s.tracker.areas ∧
    (closeStep s).tracker.everRan = s.tracker.everRan ∧ (closeStep s).intake = s.intake ∧ (closeStep s).optimizer = s.optimizer ∧
    (closeStep s).skip = s.skip ∧ (closeStep s).overrides = s.overrides ∧ (closeStep s).dispatch = s.dispatch ∧
    (closeStep s).tally = s.tally ∧ (closeStep s).lineGuard = s.lineGuard ∧ (closeStep s).events = s.events ∧
    (closeStep s).bus = s.bus ∧ (closeStep s).pending = s.pending := by
  simp only [closeStep]
  split <;> simp

@[simp] theorem commitStep_frame (s : State) :
    (commitStep s).inputs = s.inputs ∧ (commitStep s).resetAsserted = s.resetAsserted ∧ (commitStep s).outputs = s.outputs ∧
    (commitStep s).shadow = s.shadow ∧ (commitStep s).tracker.lug = s.tracker.lug ∧
    (commitStep s).tracker.areas = s.tracker.areas ∧ (commitStep s).tracker.everRan = s.tracker.everRan ∧
    (commitStep s).intake = s.intake ∧ (commitStep s).measure = s.measure ∧ (commitStep s).optimizer = s.optimizer ∧
    (commitStep s).skip = s.skip ∧ (commitStep s).overrides = s.overrides ∧ (commitStep s).dispatch = s.dispatch ∧
    (commitStep s).tally = s.tally ∧ (commitStep s).lineGuard = s.lineGuard ∧ (commitStep s).events = s.events ∧
    (commitStep s).bus = s.bus ∧ (commitStep s).pending = s.pending := by
  simp [commitStep]

@[simp] theorem applyWaiting_frame (k : Nat) (ps : List PendingOverride) (s : State) :
    (applyWaiting k ps s).inputs = s.inputs ∧ (applyWaiting k ps s).resetAsserted = s.resetAsserted ∧
    (applyWaiting k ps s).outputs = s.outputs ∧ (applyWaiting k ps s).shadow = s.shadow ∧
    (applyWaiting k ps s).tracker.lug = s.tracker.lug ∧ (applyWaiting k ps s).tracker.areas = s.tracker.areas ∧
    (applyWaiting k ps s).tracker.everRan = s.tracker.everRan ∧ (applyWaiting k ps s).intake = s.intake ∧
    (applyWaiting k ps s).measure = s.measure ∧ (applyWaiting k ps s).optimizer = s.optimizer ∧
    (applyWaiting k ps s).skip = s.skip ∧ (applyWaiting k ps s).overrides.fifo = s.overrides.fifo ∧
    (applyWaiting k ps s).overrides.readback = s.overrides.readback ∧
    (applyWaiting k ps s).overrides.waiting = s.overrides.waiting ∧
    (applyWaiting k ps s).overrides.sawMask = s.overrides.sawMask ∧
    (applyWaiting k ps s).overrides.sawTimer = s.overrides.sawTimer ∧ (applyWaiting k ps s).dispatch = s.dispatch ∧
    (applyWaiting k ps s).tally = s.tally ∧ (applyWaiting k ps s).lineGuard = s.lineGuard ∧
    (applyWaiting k ps s).events = s.events ∧ (applyWaiting k ps s).bus = s.bus ∧ (applyWaiting k ps s).pending = s.pending := by
  simp [applyWaiting]

@[simp] theorem createStep_frame (s : State) :
    (createStep s).inputs = s.inputs ∧ (createStep s).resetAsserted = s.resetAsserted ∧ (createStep s).outputs = s.outputs ∧
    (createStep s).shadow = s.shadow ∧ (createStep s).tracker.lug = s.tracker.lug ∧
    (createStep s).tracker.areas = s.tracker.areas ∧ (createStep s).tracker.everRan = s.tracker.everRan ∧
    (createStep s).intake = s.intake ∧ (createStep s).measure = s.measure ∧ (createStep s).optimizer = s.optimizer ∧
    (createStep s).skip = s.skip ∧ (createStep s).overrides.fifo = s.overrides.fifo ∧
    (createStep s).overrides.readback = s.overrides.readback ∧ (createStep s).overrides.sawMask = s.overrides.sawMask ∧
    (createStep s).overrides.sawTimer = s.overrides.sawTimer ∧ (createStep s).dispatch = s.dispatch ∧
    (createStep s).tally = s.tally ∧ (createStep s).lineGuard = s.lineGuard ∧ (createStep s).events = s.events ∧
    (createStep s).bus = s.bus ∧ (createStep s).pending = s.pending := by
  unfold createStep
  split <;> simp

@[simp] theorem trackerStep_frame (s : State) :
    (trackerStep s).inputs = s.inputs ∧ (trackerStep s).resetAsserted = s.resetAsserted ∧ (trackerStep s).outputs = s.outputs ∧
    (trackerStep s).shadow = s.shadow ∧ (trackerStep s).tracker.lug = s.tracker.lug ∧
    (trackerStep s).tracker.areas = s.tracker.areas ∧ (trackerStep s).tracker.everRan = s.tracker.everRan ∧
    (trackerStep s).skip = s.skip ∧ (trackerStep s).overrides.fifo = s.overrides.fifo ∧
    (trackerStep s).overrides.readback = s.overrides.readback ∧ (trackerStep s).overrides.sawMask = s.overrides.sawMask ∧
    (trackerStep s).overrides.sawTimer = s.overrides.sawTimer ∧ (trackerStep s).dispatch.waiting = s.dispatch.waiting ∧
    (trackerStep s).dispatch.counts = s.dispatch.counts ∧ (trackerStep s).tally.bank = s.tally.bank ∧
    (trackerStep s).tally.swap = s.tally.swap ∧ (trackerStep s).tally.saturated0 = s.tally.saturated0 ∧
    (trackerStep s).tally.saturated1 = s.tally.saturated1 ∧ (trackerStep s).tally.engine = s.tally.engine ∧
    (trackerStep s).tally.kept = s.tally.kept ∧ (trackerStep s).lineGuard.force = s.lineGuard.force ∧
    (trackerStep s).bus.mem = s.bus.mem ∧ (trackerStep s).bus.through = s.bus.through ∧ (trackerStep s).bus.port = s.bus.port ∧
    (trackerStep s).bus.lastGrant = s.bus.lastGrant ∧ (trackerStep s).bus.nextTxn = s.bus.nextTxn ∧
    (trackerStep s).pending = s.pending := by
  simp [trackerStep]

@[simp] theorem pacingStep_frame (s : State) :
    (pacingStep s).inputs = s.inputs ∧ (pacingStep s).resetAsserted = s.resetAsserted ∧ (pacingStep s).outputs = s.outputs ∧
    (pacingStep s).shadow = s.shadow ∧ (pacingStep s).tracker = s.tracker ∧ (pacingStep s).intake = s.intake ∧
    (pacingStep s).measure = s.measure ∧ (pacingStep s).optimizer = s.optimizer ∧ (pacingStep s).overrides = s.overrides ∧
    (pacingStep s).dispatch = s.dispatch ∧ (pacingStep s).tally = s.tally ∧ (pacingStep s).lineGuard = s.lineGuard ∧
    (pacingStep s).events = s.events ∧ (pacingStep s).bus = s.bus ∧ (pacingStep s).pending = s.pending := by
  simp [pacingStep]

@[simp] theorem emitLatched_frame (i : Nat) (s : State) :
    (emitLatched i s).inputs = s.inputs ∧ (emitLatched i s).resetAsserted = s.resetAsserted ∧
    (emitLatched i s).outputs = s.outputs ∧ (emitLatched i s).shadow = s.shadow ∧ (emitLatched i s).tracker = s.tracker ∧
    (emitLatched i s).intake = s.intake ∧ (emitLatched i s).measure = s.measure ∧ (emitLatched i s).optimizer = s.optimizer ∧
    (emitLatched i s).skip = s.skip ∧ (emitLatched i s).overrides = s.overrides ∧ (emitLatched i s).dispatch = s.dispatch ∧
    (emitLatched i s).tally = s.tally ∧ (emitLatched i s).lineGuard = s.lineGuard ∧ (emitLatched i s).bus.mem = s.bus.mem ∧
    (emitLatched i s).bus.through = s.bus.through ∧ (emitLatched i s).bus.port = s.bus.port ∧
    (emitLatched i s).bus.lastGrant = s.bus.lastGrant ∧ (emitLatched i s).bus.nextTxn = s.bus.nextTxn ∧
    (emitLatched i s).bus.answers = s.bus.answers ∧ (emitLatched i s).pending = s.pending := by
  simp [emitLatched]

@[simp] theorem guardStep_frame (ended : Lug) (s : State) :
    (guardStep ended s).inputs = s.inputs ∧ (guardStep ended s).resetAsserted = s.resetAsserted ∧
    (guardStep ended s).outputs = s.outputs ∧ (guardStep ended s).shadow = s.shadow ∧ (guardStep ended s).tracker = s.tracker ∧
    (guardStep ended s).intake = s.intake ∧ (guardStep ended s).measure = s.measure ∧
    (guardStep ended s).optimizer = s.optimizer ∧ (guardStep ended s).skip = s.skip ∧
    (guardStep ended s).overrides = s.overrides ∧ (guardStep ended s).dispatch = s.dispatch ∧
    (guardStep ended s).tally = s.tally ∧ (guardStep ended s).lineGuard.force = s.lineGuard.force ∧
    (guardStep ended s).bus.mem = s.bus.mem ∧ (guardStep ended s).bus.through = s.bus.through ∧
    (guardStep ended s).bus.port = s.bus.port ∧ (guardStep ended s).bus.lastGrant = s.bus.lastGrant ∧
    (guardStep ended s).bus.nextTxn = s.bus.nextTxn ∧ (guardStep ended s).bus.answers = s.bus.answers ∧
    (guardStep ended s).pending = s.pending := by
  simp [guardStep]

@[simp] theorem lugEvent_frame (o : LugOrder) (s0 : State) :
    (lugEvent o s0).inputs = s0.inputs ∧ (lugEvent o s0).resetAsserted = s0.resetAsserted ∧
    (lugEvent o s0).outputs = s0.outputs ∧ (lugEvent o s0).shadow = s0.shadow ∧
    (lugEvent o s0).tracker.everRan = s0.tracker.everRan ∧ (lugEvent o s0).overrides.fifo = s0.overrides.fifo ∧
    (lugEvent o s0).overrides.readback = s0.overrides.readback ∧ (lugEvent o s0).overrides.sawMask = s0.overrides.sawMask ∧
    (lugEvent o s0).overrides.sawTimer = s0.overrides.sawTimer ∧ (lugEvent o s0).dispatch.waiting = s0.dispatch.waiting ∧
    (lugEvent o s0).dispatch.counts = s0.dispatch.counts ∧ (lugEvent o s0).tally.bank = s0.tally.bank ∧
    (lugEvent o s0).tally.swap = s0.tally.swap ∧ (lugEvent o s0).tally.saturated0 = s0.tally.saturated0 ∧
    (lugEvent o s0).tally.saturated1 = s0.tally.saturated1 ∧ (lugEvent o s0).tally.kept = s0.tally.kept ∧
    (lugEvent o s0).lineGuard.force = s0.lineGuard.force ∧ (lugEvent o s0).bus.mem = s0.bus.mem ∧
    (lugEvent o s0).bus.through = s0.bus.through ∧ (lugEvent o s0).bus.port = s0.bus.port ∧
    (lugEvent o s0).bus.lastGrant = s0.bus.lastGrant ∧ (lugEvent o s0).bus.nextTxn = s0.bus.nextTxn ∧
    (lugEvent o s0).pending = s0.pending := by
  simp only [lugEvent]
  repeat' split
  all_goals simp

@[simp] theorem State.setFilter_frame (s : State) (p : Input) (f : Filter) :
    (State.setFilter s p f).resetAsserted = s.resetAsserted ∧ (State.setFilter s p f).outputs = s.outputs ∧
    (State.setFilter s p f).shadow = s.shadow ∧ (State.setFilter s p f).tracker = s.tracker ∧
    (State.setFilter s p f).intake = s.intake ∧ (State.setFilter s p f).measure = s.measure ∧
    (State.setFilter s p f).optimizer = s.optimizer ∧ (State.setFilter s p f).skip = s.skip ∧
    (State.setFilter s p f).overrides = s.overrides ∧ (State.setFilter s p f).dispatch = s.dispatch ∧
    (State.setFilter s p f).tally = s.tally ∧ (State.setFilter s p f).lineGuard = s.lineGuard ∧
    (State.setFilter s p f).events = s.events ∧ (State.setFilter s p f).bus = s.bus ∧ (State.setFilter s p f).pending = s.pending := by
  simp [State.setFilter]

@[simp] theorem filterStep_frame (p : Input) (f' : Filter) (o : LugOrder) (s : State) :
    (filterStep p f' o s).resetAsserted = s.resetAsserted ∧ (filterStep p f' o s).outputs = s.outputs ∧
    (filterStep p f' o s).shadow = s.shadow ∧ (filterStep p f' o s).tracker.everRan = s.tracker.everRan ∧
    (filterStep p f' o s).overrides.fifo = s.overrides.fifo ∧ (filterStep p f' o s).overrides.readback = s.overrides.readback ∧
    (filterStep p f' o s).overrides.sawMask = s.overrides.sawMask ∧
    (filterStep p f' o s).overrides.sawTimer = s.overrides.sawTimer ∧
    (filterStep p f' o s).dispatch.waiting = s.dispatch.waiting ∧ (filterStep p f' o s).dispatch.counts = s.dispatch.counts ∧
    (filterStep p f' o s).tally.bank = s.tally.bank ∧ (filterStep p f' o s).tally.swap = s.tally.swap ∧
    (filterStep p f' o s).tally.saturated0 = s.tally.saturated0 ∧ (filterStep p f' o s).tally.saturated1 = s.tally.saturated1 ∧
    (filterStep p f' o s).tally.kept = s.tally.kept ∧ (filterStep p f' o s).lineGuard.force = s.lineGuard.force ∧
    (filterStep p f' o s).bus.mem = s.bus.mem ∧ (filterStep p f' o s).bus.through = s.bus.through ∧
    (filterStep p f' o s).bus.port = s.bus.port ∧ (filterStep p f' o s).bus.lastGrant = s.bus.lastGrant ∧
    (filterStep p f' o s).bus.nextTxn = s.bus.nextTxn ∧ (filterStep p f' o s).pending = s.pending := by
  unfold filterStep
  split <;> simp

end Sys2Proof.Machine
end

