-- ==== Sys2Proof/Laws/OverrideUnit.lean ====
section
/-! SUPPORT. Frames of the override unit: for each operation, every field of State that
it leaves as it was. Proofs cite these and never unfold an operation to learn what it does not touch. -/

namespace Sys2Proof.Machine

@[simp] theorem acceptRescan_frame (k : Nat) (s : State) :
    (acceptRescan k s).inputs = s.inputs ∧ (acceptRescan k s).resetAsserted = s.resetAsserted ∧
    (acceptRescan k s).outputs = s.outputs ∧ (acceptRescan k s).shadow = s.shadow ∧
    (acceptRescan k s).tracker.lug = s.tracker.lug ∧ (acceptRescan k s).tracker.areas = s.tracker.areas ∧
    (acceptRescan k s).tracker.everRan = s.tracker.everRan ∧ (acceptRescan k s).intake.tables = s.intake.tables ∧
    (acceptRescan k s).intake.engine = s.intake.engine ∧ (acceptRescan k s).skip = s.skip ∧
    (acceptRescan k s).overrides = s.overrides ∧ (acceptRescan k s).dispatch = s.dispatch ∧ (acceptRescan k s).tally = s.tally ∧
    (acceptRescan k s).lineGuard = s.lineGuard ∧ (acceptRescan k s).events = s.events ∧ (acceptRescan k s).bus = s.bus ∧
    (acceptRescan k s).pending = s.pending := by
  simp [acceptRescan]

@[simp] theorem applyOverride_frame (kind : OverrideKind) (k : Nat) (arg : Word) (addr : Word) (tag : BitVec 15) (s : State) :
    (applyOverride kind k arg addr tag s).1.inputs = s.inputs ∧
    (applyOverride kind k arg addr tag s).1.resetAsserted = s.resetAsserted ∧
    (applyOverride kind k arg addr tag s).1.outputs = s.outputs ∧ (applyOverride kind k arg addr tag s).1.shadow = s.shadow ∧
    (applyOverride kind k arg addr tag s).1.tracker.lug = s.tracker.lug ∧
    (applyOverride kind k arg addr tag s).1.tracker.areas = s.tracker.areas ∧
    (applyOverride kind k arg addr tag s).1.tracker.everRan = s.tracker.everRan ∧
    (applyOverride kind k arg addr tag s).1.intake.tables = s.intake.tables ∧
    (applyOverride kind k arg addr tag s).1.intake.engine = s.intake.engine ∧
    (applyOverride kind k arg addr tag s).1.skip = s.skip ∧
    (applyOverride kind k arg addr tag s).1.overrides.fifo = s.overrides.fifo ∧
    (applyOverride kind k arg addr tag s).1.overrides.readback = s.overrides.readback ∧
    (applyOverride kind k arg addr tag s).1.overrides.waiting = s.overrides.waiting ∧
    (applyOverride kind k arg addr tag s).1.overrides.sawMask = s.overrides.sawMask ∧
    (applyOverride kind k arg addr tag s).1.overrides.sawTimer = s.overrides.sawTimer ∧
    (applyOverride kind k arg addr tag s).1.dispatch.waiting = s.dispatch.waiting ∧
    (applyOverride kind k arg addr tag s).1.dispatch.counts = s.dispatch.counts ∧
    (applyOverride kind k arg addr tag s).1.tally = s.tally ∧ (applyOverride kind k arg addr tag s).1.lineGuard = s.lineGuard ∧
    (applyOverride kind k arg addr tag s).1.bus.mem = s.bus.mem ∧
    (applyOverride kind k arg addr tag s).1.bus.through = s.bus.through ∧
    (applyOverride kind k arg addr tag s).1.bus.port = s.bus.port ∧
    (applyOverride kind k arg addr tag s).1.bus.lastGrant = s.bus.lastGrant ∧
    (applyOverride kind k arg addr tag s).1.bus.nextTxn = s.bus.nextTxn ∧
    (applyOverride kind k arg addr tag s).1.pending = s.pending := by
  simp only [applyOverride]
  repeat' split
  all_goals simp

@[simp] theorem joinWaiting_frame (p : PendingOverride) (s : State) :
    (joinWaiting p s).inputs = s.inputs ∧ (joinWaiting p s).resetAsserted = s.resetAsserted ∧
    (joinWaiting p s).outputs = s.outputs ∧ (joinWaiting p s).shadow = s.shadow ∧ (joinWaiting p s).tracker = s.tracker ∧
    (joinWaiting p s).intake = s.intake ∧ (joinWaiting p s).measure = s.measure ∧ (joinWaiting p s).optimizer = s.optimizer ∧
    (joinWaiting p s).skip = s.skip ∧ (joinWaiting p s).overrides.fifo = s.overrides.fifo ∧
    (joinWaiting p s).overrides.readback = s.overrides.readback ∧
    (joinWaiting p s).overrides.trimEntries = s.overrides.trimEntries ∧
    (joinWaiting p s).overrides.sawMask = s.overrides.sawMask ∧ (joinWaiting p s).overrides.sawTimer = s.overrides.sawTimer ∧
    (joinWaiting p s).dispatch = s.dispatch ∧ (joinWaiting p s).tally = s.tally ∧ (joinWaiting p s).lineGuard = s.lineGuard ∧
    (joinWaiting p s).events = s.events ∧ (joinWaiting p s).bus = s.bus ∧ (joinWaiting p s).pending = s.pending := by
  simp [joinWaiting]

@[simp] theorem judgeBoard_frame (kind : OverrideKind) (lug : Lug) (arg : Word) (addr : Word) (tag : BitVec 15) (s : State) :
    (judgeBoard kind lug arg addr tag s).1.inputs = s.inputs ∧
    (judgeBoard kind lug arg addr tag s).1.resetAsserted = s.resetAsserted ∧
    (judgeBoard kind lug arg addr tag s).1.outputs = s.outputs ∧ (judgeBoard kind lug arg addr tag s).1.shadow = s.shadow ∧
    (judgeBoard kind lug arg addr tag s).1.tracker.lug = s.tracker.lug ∧
    (judgeBoard kind lug arg addr tag s).1.tracker.areas = s.tracker.areas ∧
    (judgeBoard kind lug arg addr tag s).1.tracker.everRan = s.tracker.everRan ∧
    (judgeBoard kind lug arg addr tag s).1.intake.tables = s.intake.tables ∧
    (judgeBoard kind lug arg addr tag s).1.intake.engine = s.intake.engine ∧
    (judgeBoard kind lug arg addr tag s).1.skip = s.skip ∧
    (judgeBoard kind lug arg addr tag s).1.overrides.fifo = s.overrides.fifo ∧
    (judgeBoard kind lug arg addr tag s).1.overrides.readback = s.overrides.readback ∧
    (judgeBoard kind lug arg addr tag s).1.overrides.sawMask = s.overrides.sawMask ∧
    (judgeBoard kind lug arg addr tag s).1.overrides.sawTimer = s.overrides.sawTimer ∧
    (judgeBoard kind lug arg addr tag s).1.dispatch.waiting = s.dispatch.waiting ∧
    (judgeBoard kind lug arg addr tag s).1.dispatch.counts = s.dispatch.counts ∧
    (judgeBoard kind lug arg addr tag s).1.tally = s.tally ∧ (judgeBoard kind lug arg addr tag s).1.lineGuard = s.lineGuard ∧
    (judgeBoard kind lug arg addr tag s).1.bus.mem = s.bus.mem ∧
    (judgeBoard kind lug arg addr tag s).1.bus.through = s.bus.through ∧
    (judgeBoard kind lug arg addr tag s).1.bus.port = s.bus.port ∧
    (judgeBoard kind lug arg addr tag s).1.bus.lastGrant = s.bus.lastGrant ∧
    (judgeBoard kind lug arg addr tag s).1.bus.nextTxn = s.bus.nextTxn ∧
    (judgeBoard kind lug arg addr tag s).1.pending = s.pending := by
  unfold judgeBoard
  split <;> simp

@[simp] theorem emptyBin_frame (b : Nat) (s : State) :
    (emptyBin b s).inputs = s.inputs ∧ (emptyBin b s).resetAsserted = s.resetAsserted ∧ (emptyBin b s).outputs = s.outputs ∧
    (emptyBin b s).shadow = s.shadow ∧ (emptyBin b s).tracker = s.tracker ∧ (emptyBin b s).intake = s.intake ∧
    (emptyBin b s).measure = s.measure ∧ (emptyBin b s).optimizer = s.optimizer ∧ (emptyBin b s).skip = s.skip ∧
    (emptyBin b s).overrides = s.overrides ∧ (emptyBin b s).dispatch.held = s.dispatch.held ∧
    (emptyBin b s).dispatch.waiting = s.dispatch.waiting ∧ (emptyBin b s).tally = s.tally ∧
    (emptyBin b s).lineGuard = s.lineGuard ∧ (emptyBin b s).events = s.events ∧ (emptyBin b s).bus = s.bus ∧
    (emptyBin b s).pending = s.pending := by
  simp [emptyBin]

@[simp] theorem judgeShift_frame (s : State) :
    (judgeShift s).1.inputs = s.inputs ∧ (judgeShift s).1.resetAsserted = s.resetAsserted ∧
    (judgeShift s).1.outputs = s.outputs ∧ (judgeShift s).1.shadow = s.shadow ∧ (judgeShift s).1.tracker = s.tracker ∧
    (judgeShift s).1.intake = s.intake ∧ (judgeShift s).1.measure = s.measure ∧ (judgeShift s).1.optimizer = s.optimizer ∧
    (judgeShift s).1.skip = s.skip ∧ (judgeShift s).1.overrides = s.overrides ∧ (judgeShift s).1.dispatch = s.dispatch ∧
    (judgeShift s).1.lineGuard = s.lineGuard ∧ (judgeShift s).1.events = s.events ∧ (judgeShift s).1.bus.mem = s.bus.mem ∧
    (judgeShift s).1.bus.through = s.bus.through ∧ (judgeShift s).1.bus.port = s.bus.port ∧
    (judgeShift s).1.bus.lastGrant = s.bus.lastGrant ∧ (judgeShift s).1.bus.nextTxn = s.bus.nextTxn ∧
    (judgeShift s).1.bus.answers = s.bus.answers ∧ (judgeShift s).1.pending = s.pending := by
  unfold judgeShift
  split <;> simp

@[simp] theorem acknowledgeFlags_frame (mask : BitVec 6) (s : State) :
    (acknowledgeFlags mask s).inputs = s.inputs ∧ (acknowledgeFlags mask s).resetAsserted = s.resetAsserted ∧
    (acknowledgeFlags mask s).outputs = s.outputs ∧ (acknowledgeFlags mask s).shadow = s.shadow ∧
    (acknowledgeFlags mask s).tracker = s.tracker ∧ (acknowledgeFlags mask s).intake = s.intake ∧
    (acknowledgeFlags mask s).measure = s.measure ∧ (acknowledgeFlags mask s).optimizer = s.optimizer ∧
    (acknowledgeFlags mask s).skip = s.skip ∧ (acknowledgeFlags mask s).overrides = s.overrides ∧
    (acknowledgeFlags mask s).dispatch = s.dispatch ∧ (acknowledgeFlags mask s).tally = s.tally ∧
    (acknowledgeFlags mask s).lineGuard.force = s.lineGuard.force ∧ (acknowledgeFlags mask s).events = s.events ∧
    (acknowledgeFlags mask s).bus = s.bus ∧ (acknowledgeFlags mask s).pending = s.pending := by
  simp [acknowledgeFlags]

@[simp] theorem setForce_frame (on : Bool) (s : State) :
    (setForce on s).inputs = s.inputs ∧ (setForce on s).resetAsserted = s.resetAsserted ∧ (setForce on s).outputs = s.outputs ∧
    (setForce on s).shadow = s.shadow ∧ (setForce on s).tracker = s.tracker ∧ (setForce on s).intake = s.intake ∧
    (setForce on s).measure = s.measure ∧ (setForce on s).optimizer = s.optimizer ∧ (setForce on s).skip = s.skip ∧
    (setForce on s).overrides = s.overrides ∧ (setForce on s).dispatch = s.dispatch ∧ (setForce on s).tally = s.tally ∧
    (setForce on s).lineGuard.flags = s.lineGuard.flags ∧ (setForce on s).events = s.events ∧ (setForce on s).bus = s.bus ∧
    (setForce on s).pending = s.pending := by
  simp [setForce]

@[simp] theorem judgeSawTest_frame (mask : Saws) (s : State) :
    (judgeSawTest mask s).1.inputs = s.inputs ∧ (judgeSawTest mask s).1.resetAsserted = s.resetAsserted ∧
    (judgeSawTest mask s).1.outputs = s.outputs ∧ (judgeSawTest mask s).1.shadow = s.shadow ∧
    (judgeSawTest mask s).1.tracker = s.tracker ∧ (judgeSawTest mask s).1.intake = s.intake ∧
    (judgeSawTest mask s).1.measure = s.measure ∧ (judgeSawTest mask s).1.optimizer = s.optimizer ∧
    (judgeSawTest mask s).1.skip = s.skip ∧ (judgeSawTest mask s).1.overrides.fifo = s.overrides.fifo ∧
    (judgeSawTest mask s).1.overrides.readback = s.overrides.readback ∧
    (judgeSawTest mask s).1.overrides.waiting = s.overrides.waiting ∧
    (judgeSawTest mask s).1.overrides.trimEntries = s.overrides.trimEntries ∧ (judgeSawTest mask s).1.dispatch = s.dispatch ∧
    (judgeSawTest mask s).1.tally = s.tally ∧ (judgeSawTest mask s).1.lineGuard = s.lineGuard ∧
    (judgeSawTest mask s).1.events = s.events ∧ (judgeSawTest mask s).1.bus = s.bus ∧ (judgeSawTest mask s).1.pending = s.pending := by
  unfold judgeSawTest
  split <;> simp

@[simp] theorem judgeLineReset_frame (m : Master) (s : State) :
    (judgeLineReset m s).1.inputs = s.inputs ∧ (judgeLineReset m s).1.resetAsserted = s.resetAsserted ∧
    (judgeLineReset m s).1.outputs = s.outputs ∧ (judgeLineReset m s).1.shadow.part = s.shadow.part ∧
    (judgeLineReset m s).1.shadow.words = s.shadow.words ∧ (judgeLineReset m s).1.shadow.entries = s.shadow.entries ∧
    (judgeLineReset m s).1.shadow.load = s.shadow.load ∧ (judgeLineReset m s).1.shadow.report = s.shadow.report ∧
    (judgeLineReset m s).1.shadow.held = s.shadow.held ∧ (judgeLineReset m s).1.tracker = s.tracker ∧
    (judgeLineReset m s).1.intake = s.intake ∧ (judgeLineReset m s).1.measure = s.measure ∧
    (judgeLineReset m s).1.optimizer = s.optimizer ∧ (judgeLineReset m s).1.skip = s.skip ∧
    (judgeLineReset m s).1.overrides = s.overrides ∧ (judgeLineReset m s).1.dispatch = s.dispatch ∧
    (judgeLineReset m s).1.tally = s.tally ∧ (judgeLineReset m s).1.lineGuard = s.lineGuard ∧
    (judgeLineReset m s).1.events = s.events ∧ (judgeLineReset m s).1.bus = s.bus ∧ (judgeLineReset m s).1.pending = s.pending := by
  unfold judgeLineReset
  split <;> simp

@[simp] theorem judgeEntry_frame (p : Post) (w0 : Word) (w1 : Word) (w2 : Word) (s : State) :
    (judgeEntry p w0 w1 w2 s).1.inputs = s.inputs ∧ (judgeEntry p w0 w1 w2 s).1.resetAsserted = s.resetAsserted ∧
    (judgeEntry p w0 w1 w2 s).1.outputs = s.outputs ∧ (judgeEntry p w0 w1 w2 s).1.shadow.part = s.shadow.part ∧
    (judgeEntry p w0 w1 w2 s).1.shadow.words = s.shadow.words ∧ (judgeEntry p w0 w1 w2 s).1.shadow.entries = s.shadow.entries ∧
    (judgeEntry p w0 w1 w2 s).1.shadow.load = s.shadow.load ∧ (judgeEntry p w0 w1 w2 s).1.shadow.report = s.shadow.report ∧
    (judgeEntry p w0 w1 w2 s).1.shadow.held = s.shadow.held ∧ (judgeEntry p w0 w1 w2 s).1.tracker.lug = s.tracker.lug ∧
    (judgeEntry p w0 w1 w2 s).1.tracker.areas = s.tracker.areas ∧
    (judgeEntry p w0 w1 w2 s).1.tracker.everRan = s.tracker.everRan ∧
    (judgeEntry p w0 w1 w2 s).1.intake.tables = s.intake.tables ∧ (judgeEntry p w0 w1 w2 s).1.intake.engine = s.intake.engine ∧
    (judgeEntry p w0 w1 w2 s).1.skip = s.skip ∧ (judgeEntry p w0 w1 w2 s).1.overrides.fifo = s.overrides.fifo ∧
    (judgeEntry p w0 w1 w2 s).1.overrides.readback = s.overrides.readback ∧
    (judgeEntry p w0 w1 w2 s).1.dispatch.waiting = s.dispatch.waiting ∧ (judgeEntry p w0 w1 w2 s).1.bus.mem = s.bus.mem ∧
    (judgeEntry p w0 w1 w2 s).1.bus.through = s.bus.through ∧ (judgeEntry p w0 w1 w2 s).1.bus.port = s.bus.port ∧
    (judgeEntry p w0 w1 w2 s).1.bus.lastGrant = s.bus.lastGrant ∧ (judgeEntry p w0 w1 w2 s).1.bus.nextTxn = s.bus.nextTxn ∧
    (judgeEntry p w0 w1 w2 s).1.pending = s.pending := by
  simp only [judgeEntry]
  repeat' split
  all_goals simp

@[simp] theorem completeReadback_frame (w0 : Word) (w1 : Word) (w2 : Word) (s0 : State) :
    (completeReadback w0 w1 w2 s0).inputs = s0.inputs ∧ (completeReadback w0 w1 w2 s0).resetAsserted = s0.resetAsserted ∧
    (completeReadback w0 w1 w2 s0).outputs = s0.outputs ∧ (completeReadback w0 w1 w2 s0).shadow.part = s0.shadow.part ∧
    (completeReadback w0 w1 w2 s0).shadow.words = s0.shadow.words ∧
    (completeReadback w0 w1 w2 s0).shadow.entries = s0.shadow.entries ∧
    (completeReadback w0 w1 w2 s0).shadow.load = s0.shadow.load ∧
    (completeReadback w0 w1 w2 s0).shadow.report = s0.shadow.report ∧
    (completeReadback w0 w1 w2 s0).shadow.held = s0.shadow.held ∧ (completeReadback w0 w1 w2 s0).tracker.lug = s0.tracker.lug ∧
    (completeReadback w0 w1 w2 s0).tracker.everRan = s0.tracker.everRan ∧
    (completeReadback w0 w1 w2 s0).intake.tables = s0.intake.tables ∧
    (completeReadback w0 w1 w2 s0).intake.engine = s0.intake.engine ∧ (completeReadback w0 w1 w2 s0).skip = s0.skip ∧
    (completeReadback w0 w1 w2 s0).dispatch.waiting = s0.dispatch.waiting ∧ (completeReadback w0 w1 w2 s0).bus.mem = s0.bus.mem ∧
    (completeReadback w0 w1 w2 s0).bus.through = s0.bus.through ∧ (completeReadback w0 w1 w2 s0).bus.port = s0.bus.port ∧
    (completeReadback w0 w1 w2 s0).bus.lastGrant = s0.bus.lastGrant ∧
    (completeReadback w0 w1 w2 s0).bus.nextTxn = s0.bus.nextTxn ∧ (completeReadback w0 w1 w2 s0).pending = s0.pending := by
  unfold completeReadback
  split <;> simp

@[simp] theorem startReadback_frame (s : State) :
    (startReadback s).inputs = s.inputs ∧ (startReadback s).resetAsserted = s.resetAsserted ∧
    (startReadback s).outputs = s.outputs ∧ (startReadback s).shadow = s.shadow ∧ (startReadback s).tracker = s.tracker ∧
    (startReadback s).intake = s.intake ∧ (startReadback s).measure = s.measure ∧ (startReadback s).optimizer = s.optimizer ∧
    (startReadback s).skip = s.skip ∧ (startReadback s).overrides.fifo = s.overrides.fifo ∧
    (startReadback s).overrides.waiting = s.overrides.waiting ∧
    (startReadback s).overrides.trimEntries = s.overrides.trimEntries ∧
    (startReadback s).overrides.sawMask = s.overrides.sawMask ∧ (startReadback s).overrides.sawTimer = s.overrides.sawTimer ∧
    (startReadback s).dispatch = s.dispatch ∧ (startReadback s).tally = s.tally ∧ (startReadback s).lineGuard = s.lineGuard ∧
    (startReadback s).events = s.events ∧ (startReadback s).bus.mem = s.bus.mem ∧ (startReadback s).bus.through = s.bus.through ∧
    (startReadback s).bus.port = s.bus.port ∧ (startReadback s).bus.lastGrant = s.bus.lastGrant ∧
    (startReadback s).bus.nextTxn = s.bus.nextTxn ∧ (startReadback s).bus.answers = s.bus.answers ∧
    (startReadback s).pending = s.pending := by
  simp only [startReadback]
  repeat' split
  all_goals simp

@[simp] theorem expireSawTest_frame (s : State) :
    (expireSawTest s).inputs = s.inputs ∧ (expireSawTest s).resetAsserted = s.resetAsserted ∧
    (expireSawTest s).outputs = s.outputs ∧ (expireSawTest s).shadow = s.shadow ∧ (expireSawTest s).tracker = s.tracker ∧
    (expireSawTest s).intake = s.intake ∧ (expireSawTest s).measure = s.measure ∧ (expireSawTest s).optimizer = s.optimizer ∧
    (expireSawTest s).skip = s.skip ∧ (expireSawTest s).overrides.fifo = s.overrides.fifo ∧
    (expireSawTest s).overrides.readback = s.overrides.readback ∧ (expireSawTest s).overrides.waiting = s.overrides.waiting ∧
    (expireSawTest s).overrides.trimEntries = s.overrides.trimEntries ∧ (expireSawTest s).dispatch = s.dispatch ∧
    (expireSawTest s).tally = s.tally ∧ (expireSawTest s).lineGuard = s.lineGuard ∧ (expireSawTest s).bus.mem = s.bus.mem ∧
    (expireSawTest s).bus.through = s.bus.through ∧ (expireSawTest s).bus.port = s.bus.port ∧
    (expireSawTest s).bus.lastGrant = s.bus.lastGrant ∧ (expireSawTest s).bus.nextTxn = s.bus.nextTxn ∧
    (expireSawTest s).bus.answers = s.bus.answers ∧ (expireSawTest s).pending = s.pending := by
  unfold expireSawTest
  split <;> simp

end Sys2Proof.Machine
end

