-- ==== Sys2Proof/Laws/BusPath.lean ====
section
/-! SUPPORT. Frames of the bus path: for each operation, every field of State that
it leaves as it was. Proofs cite these and never unfold an operation to learn what it does not touch. -/

namespace Sys2Proof.Machine

@[simp] theorem emitAccess_frame (t : Transaction) (c : AccessCause) (s : State) :
    (emitAccess t c s).inputs = s.inputs ∧ (emitAccess t c s).resetAsserted = s.resetAsserted ∧
    (emitAccess t c s).outputs = s.outputs ∧ (emitAccess t c s).shadow = s.shadow ∧ (emitAccess t c s).tracker = s.tracker ∧
    (emitAccess t c s).intake = s.intake ∧ (emitAccess t c s).measure = s.measure ∧ (emitAccess t c s).optimizer = s.optimizer ∧
    (emitAccess t c s).skip = s.skip ∧ (emitAccess t c s).overrides = s.overrides ∧ (emitAccess t c s).dispatch = s.dispatch ∧
    (emitAccess t c s).tally = s.tally ∧ (emitAccess t c s).lineGuard = s.lineGuard ∧ (emitAccess t c s).bus.mem = s.bus.mem ∧
    (emitAccess t c s).bus.through = s.bus.through ∧ (emitAccess t c s).bus.port = s.bus.port ∧
    (emitAccess t c s).bus.lastGrant = s.bus.lastGrant ∧ (emitAccess t c s).bus.nextTxn = s.bus.nextTxn ∧
    (emitAccess t c s).bus.answers = s.bus.answers ∧ (emitAccess t c s).pending = s.pending := by
  simp [emitAccess]

@[simp] theorem moveSlot_frame (h : Nat) (txn : Nat) (b : SlotBeat) (s : State) :
    (moveSlot h txn b s).inputs = s.inputs ∧ (moveSlot h txn b s).resetAsserted = s.resetAsserted ∧
    (moveSlot h txn b s).outputs = s.outputs ∧ (moveSlot h txn b s).shadow = s.shadow ∧
    (moveSlot h txn b s).tracker = s.tracker ∧ (moveSlot h txn b s).intake.engine = s.intake.engine ∧
    (moveSlot h txn b s).measure = s.measure ∧ (moveSlot h txn b s).optimizer = s.optimizer ∧
    (moveSlot h txn b s).skip = s.skip ∧ (moveSlot h txn b s).overrides = s.overrides ∧
    (moveSlot h txn b s).dispatch = s.dispatch ∧ (moveSlot h txn b s).tally = s.tally ∧
    (moveSlot h txn b s).lineGuard = s.lineGuard ∧ (moveSlot h txn b s).events = s.events ∧ (moveSlot h txn b s).bus = s.bus ∧
    (moveSlot h txn b s).pending = s.pending := by
  simp only [moveSlot]
  repeat' split
  all_goals simp

@[simp] theorem frameWrite_frame (txn : Nat) (e : WindowEntry) (h : Nat) (w : BusWrite) (s : State) :
    (frameWrite txn e h w s).inputs = s.inputs ∧ (frameWrite txn e h w s).resetAsserted = s.resetAsserted ∧
    (frameWrite txn e h w s).outputs = s.outputs ∧ (frameWrite txn e h w s).shadow = s.shadow ∧
    (frameWrite txn e h w s).tracker = s.tracker ∧ (frameWrite txn e h w s).intake.engine = s.intake.engine ∧
    (frameWrite txn e h w s).measure = s.measure ∧ (frameWrite txn e h w s).optimizer = s.optimizer ∧
    (frameWrite txn e h w s).skip = s.skip ∧ (frameWrite txn e h w s).overrides = s.overrides ∧
    (frameWrite txn e h w s).dispatch = s.dispatch ∧ (frameWrite txn e h w s).tally = s.tally ∧
    (frameWrite txn e h w s).lineGuard = s.lineGuard ∧ (frameWrite txn e h w s).bus.mem = s.bus.mem ∧
    (frameWrite txn e h w s).bus.port = s.bus.port ∧ (frameWrite txn e h w s).bus.lastGrant = s.bus.lastGrant ∧
    (frameWrite txn e h w s).bus.nextTxn = s.bus.nextTxn ∧ (frameWrite txn e h w s).pending = s.pending := by
  simp only [frameWrite]
  repeat' split
  all_goals simp

@[simp] theorem overrideWrite_frame (txn : Nat) (e : WindowEntry) (w : BusWrite) (s : State) :
    (overrideWrite txn e w s).inputs = s.inputs ∧ (overrideWrite txn e w s).resetAsserted = s.resetAsserted ∧
    (overrideWrite txn e w s).outputs = s.outputs ∧ (overrideWrite txn e w s).shadow = s.shadow ∧
    (overrideWrite txn e w s).tracker = s.tracker ∧ (overrideWrite txn e w s).intake = s.intake ∧
    (overrideWrite txn e w s).measure = s.measure ∧ (overrideWrite txn e w s).optimizer = s.optimizer ∧
    (overrideWrite txn e w s).skip = s.skip ∧ (overrideWrite txn e w s).overrides.readback = s.overrides.readback ∧
    (overrideWrite txn e w s).overrides.waiting = s.overrides.waiting ∧
    (overrideWrite txn e w s).overrides.trimEntries = s.overrides.trimEntries ∧
    (overrideWrite txn e w s).overrides.sawMask = s.overrides.sawMask ∧
    (overrideWrite txn e w s).overrides.sawTimer = s.overrides.sawTimer ∧ (overrideWrite txn e w s).dispatch = s.dispatch ∧
    (overrideWrite txn e w s).tally = s.tally ∧ (overrideWrite txn e w s).lineGuard = s.lineGuard ∧
    (overrideWrite txn e w s).bus.mem = s.bus.mem ∧ (overrideWrite txn e w s).bus.port = s.bus.port ∧
    (overrideWrite txn e w s).bus.lastGrant = s.bus.lastGrant ∧ (overrideWrite txn e w s).bus.nextTxn = s.bus.nextTxn ∧
    (overrideWrite txn e w s).pending = s.pending := by
  simp only [overrideWrite]
  repeat' split
  all_goals simp

@[simp] theorem takeConsumer_frame (e : WindowEntry) (c : Nat) (s : State) :
    (takeConsumer e c s).inputs = s.inputs ∧ (takeConsumer e c s).resetAsserted = s.resetAsserted ∧
    (takeConsumer e c s).outputs = s.outputs ∧ (takeConsumer e c s).shadow = s.shadow ∧
    (takeConsumer e c s).tracker = s.tracker ∧ (takeConsumer e c s).intake = s.intake ∧
    (takeConsumer e c s).measure = s.measure ∧ (takeConsumer e c s).optimizer = s.optimizer ∧
    (takeConsumer e c s).skip = s.skip ∧ (takeConsumer e c s).overrides = s.overrides ∧
    (takeConsumer e c s).dispatch = s.dispatch ∧ (takeConsumer e c s).tally = s.tally ∧
    (takeConsumer e c s).lineGuard = s.lineGuard ∧ (takeConsumer e c s).bus.mem = s.bus.mem ∧
    (takeConsumer e c s).bus.through = s.bus.through ∧ (takeConsumer e c s).bus.port = s.bus.port ∧
    (takeConsumer e c s).bus.lastGrant = s.bus.lastGrant ∧ (takeConsumer e c s).bus.nextTxn = s.bus.nextTxn ∧
    (takeConsumer e c s).bus.answers = s.bus.answers ∧ (takeConsumer e c s).pending = s.pending := by
  simp only [takeConsumer]
  repeat' split
  all_goals simp

@[simp] theorem eventWrite_frame (txn : Nat) (e : WindowEntry) (w : BusWrite) (s : State) :
    (eventWrite txn e w s).inputs = s.inputs ∧ (eventWrite txn e w s).resetAsserted = s.resetAsserted ∧
    (eventWrite txn e w s).outputs = s.outputs ∧ (eventWrite txn e w s).shadow = s.shadow ∧
    (eventWrite txn e w s).tracker = s.tracker ∧ (eventWrite txn e w s).intake = s.intake ∧
    (eventWrite txn e w s).measure = s.measure ∧ (eventWrite txn e w s).optimizer = s.optimizer ∧
    (eventWrite txn e w s).skip = s.skip ∧ (eventWrite txn e w s).overrides = s.overrides ∧
    (eventWrite txn e w s).dispatch = s.dispatch ∧ (eventWrite txn e w s).tally = s.tally ∧
    (eventWrite txn e w s).lineGuard = s.lineGuard ∧ (eventWrite txn e w s).bus.mem = s.bus.mem ∧
    (eventWrite txn e w s).bus.port = s.bus.port ∧ (eventWrite txn e w s).bus.lastGrant = s.bus.lastGrant ∧
    (eventWrite txn e w s).bus.nextTxn = s.bus.nextTxn ∧ (eventWrite txn e w s).bus.answers = s.bus.answers ∧
    (eventWrite txn e w s).pending = s.pending := by
  unfold eventWrite
  split <;> simp

@[simp] theorem emitIgnored_frame (p : Nat × Nat) (s : State) :
    (emitIgnored p s).inputs = s.inputs ∧ (emitIgnored p s).resetAsserted = s.resetAsserted ∧
    (emitIgnored p s).outputs = s.outputs ∧ (emitIgnored p s).shadow = s.shadow ∧ (emitIgnored p s).tracker = s.tracker ∧
    (emitIgnored p s).intake = s.intake ∧ (emitIgnored p s).measure = s.measure ∧ (emitIgnored p s).optimizer = s.optimizer ∧
    (emitIgnored p s).skip = s.skip ∧ (emitIgnored p s).overrides = s.overrides ∧ (emitIgnored p s).dispatch = s.dispatch ∧
    (emitIgnored p s).tally = s.tally ∧ (emitIgnored p s).lineGuard = s.lineGuard ∧ (emitIgnored p s).bus.mem = s.bus.mem ∧
    (emitIgnored p s).bus.through = s.bus.through ∧ (emitIgnored p s).bus.port = s.bus.port ∧
    (emitIgnored p s).bus.lastGrant = s.bus.lastGrant ∧ (emitIgnored p s).bus.nextTxn = s.bus.nextTxn ∧
    (emitIgnored p s).bus.answers = s.bus.answers ∧ (emitIgnored p s).pending = s.pending := by
  simp [emitIgnored]

@[simp] theorem emitClamped_frame (n : Nat) (s : State) :
    (emitClamped n s).inputs = s.inputs ∧ (emitClamped n s).resetAsserted = s.resetAsserted ∧
    (emitClamped n s).outputs = s.outputs ∧ (emitClamped n s).shadow = s.shadow ∧ (emitClamped n s).tracker = s.tracker ∧
    (emitClamped n s).intake = s.intake ∧ (emitClamped n s).measure = s.measure ∧ (emitClamped n s).optimizer = s.optimizer ∧
    (emitClamped n s).skip = s.skip ∧ (emitClamped n s).overrides = s.overrides ∧ (emitClamped n s).dispatch = s.dispatch ∧
    (emitClamped n s).tally = s.tally ∧ (emitClamped n s).lineGuard = s.lineGuard ∧ (emitClamped n s).bus.mem = s.bus.mem ∧
    (emitClamped n s).bus.through = s.bus.through ∧ (emitClamped n s).bus.port = s.bus.port ∧
    (emitClamped n s).bus.lastGrant = s.bus.lastGrant ∧ (emitClamped n s).bus.nextTxn = s.bus.nextTxn ∧
    (emitClamped n s).bus.answers = s.bus.answers ∧ (emitClamped n s).pending = s.pending := by
  simp [emitClamped]

@[simp] theorem emitLost_frame (h n : Nat) (s : State) :
    (emitLost h n s).inputs = s.inputs ∧ (emitLost h n s).resetAsserted = s.resetAsserted ∧
    (emitLost h n s).outputs = s.outputs ∧ (emitLost h n s).shadow = s.shadow ∧ (emitLost h n s).tracker = s.tracker ∧
    (emitLost h n s).intake = s.intake ∧ (emitLost h n s).measure = s.measure ∧ (emitLost h n s).optimizer = s.optimizer ∧
    (emitLost h n s).skip = s.skip ∧ (emitLost h n s).overrides = s.overrides ∧ (emitLost h n s).dispatch = s.dispatch ∧
    (emitLost h n s).tally = s.tally ∧ (emitLost h n s).lineGuard = s.lineGuard ∧ (emitLost h n s).bus.mem = s.bus.mem ∧
    (emitLost h n s).bus.through = s.bus.through ∧ (emitLost h n s).bus.port = s.bus.port ∧
    (emitLost h n s).bus.lastGrant = s.bus.lastGrant ∧ (emitLost h n s).bus.nextTxn = s.bus.nextTxn ∧
    (emitLost h n s).bus.answers = s.bus.answers ∧ (emitLost h n s).pending = s.pending := by
  simp [emitLost]

@[simp] theorem loseTables_frame (hs : List Nat) (s : State) :
    (loseTables hs s).inputs = s.inputs ∧ (loseTables hs s).resetAsserted = s.resetAsserted ∧ (loseTables hs s).outputs = s.outputs ∧
    (loseTables hs s).shadow = s.shadow ∧ (loseTables hs s).tracker.lug = s.tracker.lug ∧
    (loseTables hs s).tracker.areas = s.tracker.areas ∧ (loseTables hs s).tracker.everRan = s.tracker.everRan ∧
    (loseTables hs s).intake.tables = s.intake.tables ∧ (loseTables hs s).optimizer = s.optimizer ∧ (loseTables hs s).skip = s.skip ∧
    (loseTables hs s).overrides = s.overrides ∧ (loseTables hs s).dispatch = s.dispatch ∧ (loseTables hs s).tally = s.tally ∧
    (loseTables hs s).lineGuard = s.lineGuard ∧ (loseTables hs s).bus.mem = s.bus.mem ∧ (loseTables hs s).bus.through = s.bus.through ∧
    (loseTables hs s).bus.port = s.bus.port ∧ (loseTables hs s).bus.lastGrant = s.bus.lastGrant ∧
    (loseTables hs s).bus.nextTxn = s.bus.nextTxn ∧ (loseTables hs s).bus.answers = s.bus.answers ∧
    (loseTables hs s).pending = s.pending := by
  unfold loseTables
  split <;> simp

@[simp] theorem frameWindowsChanged_frame (old : List WindowEntry) (s : State) :
    (frameWindowsChanged old s).inputs = s.inputs ∧ (frameWindowsChanged old s).resetAsserted = s.resetAsserted ∧
    (frameWindowsChanged old s).outputs = s.outputs ∧ (frameWindowsChanged old s).shadow = s.shadow ∧
    (frameWindowsChanged old s).tracker.lug = s.tracker.lug ∧ (frameWindowsChanged old s).tracker.areas = s.tracker.areas ∧
    (frameWindowsChanged old s).tracker.everRan = s.tracker.everRan ∧ (frameWindowsChanged old s).optimizer = s.optimizer ∧
    (frameWindowsChanged old s).skip = s.skip ∧ (frameWindowsChanged old s).overrides = s.overrides ∧
    (frameWindowsChanged old s).dispatch = s.dispatch ∧ (frameWindowsChanged old s).tally = s.tally ∧
    (frameWindowsChanged old s).lineGuard = s.lineGuard ∧ (frameWindowsChanged old s).bus.mem = s.bus.mem ∧
    (frameWindowsChanged old s).bus.through = s.bus.through ∧ (frameWindowsChanged old s).bus.port = s.bus.port ∧
    (frameWindowsChanged old s).bus.lastGrant = s.bus.lastGrant ∧ (frameWindowsChanged old s).bus.nextTxn = s.bus.nextTxn ∧
    (frameWindowsChanged old s).bus.answers = s.bus.answers ∧ (frameWindowsChanged old s).pending = s.pending := by
  simp [frameWindowsChanged]

@[simp] theorem askEventHeader_frame (s : State) :
    (askEventHeader s).inputs = s.inputs ∧ (askEventHeader s).resetAsserted = s.resetAsserted ∧
    (askEventHeader s).outputs = s.outputs ∧ (askEventHeader s).shadow = s.shadow ∧ (askEventHeader s).tracker = s.tracker ∧
    (askEventHeader s).intake = s.intake ∧ (askEventHeader s).measure = s.measure ∧ (askEventHeader s).optimizer = s.optimizer ∧
    (askEventHeader s).skip = s.skip ∧ (askEventHeader s).overrides = s.overrides ∧ (askEventHeader s).dispatch = s.dispatch ∧
    (askEventHeader s).tally = s.tally ∧ (askEventHeader s).lineGuard = s.lineGuard ∧
    (askEventHeader s).events.overflow = s.events.overflow ∧ (askEventHeader s).events.classes = s.events.classes ∧
    (askEventHeader s).bus.mem = s.bus.mem ∧ (askEventHeader s).bus.through = s.bus.through ∧
    (askEventHeader s).bus.lastGrant = s.bus.lastGrant ∧ (askEventHeader s).bus.nextTxn = s.bus.nextTxn ∧
    (askEventHeader s).bus.answers = s.bus.answers ∧ (askEventHeader s).pending = s.pending := by
  simp only [askEventHeader]
  split <;> simp

@[simp] theorem eventWindowChanged_frame (old : List WindowEntry) (s : State) :
    (eventWindowChanged old s).inputs = s.inputs ∧ (eventWindowChanged old s).resetAsserted = s.resetAsserted ∧
    (eventWindowChanged old s).outputs = s.outputs ∧ (eventWindowChanged old s).shadow = s.shadow ∧ (eventWindowChanged old s).tracker = s.tracker ∧
    (eventWindowChanged old s).intake = s.intake ∧ (eventWindowChanged old s).measure = s.measure ∧ (eventWindowChanged old s).optimizer = s.optimizer ∧
    (eventWindowChanged old s).skip = s.skip ∧ (eventWindowChanged old s).overrides = s.overrides ∧ (eventWindowChanged old s).dispatch = s.dispatch ∧
    (eventWindowChanged old s).tally = s.tally ∧ (eventWindowChanged old s).lineGuard = s.lineGuard ∧
    (eventWindowChanged old s).events.overflow = s.events.overflow ∧ (eventWindowChanged old s).events.classes = s.events.classes ∧
    (eventWindowChanged old s).bus.mem = s.bus.mem ∧ (eventWindowChanged old s).bus.through = s.bus.through ∧
    (eventWindowChanged old s).bus.lastGrant = s.bus.lastGrant ∧ (eventWindowChanged old s).bus.nextTxn = s.bus.nextTxn ∧
    (eventWindowChanged old s).bus.answers = s.bus.answers ∧ (eventWindowChanged old s).pending = s.pending := by
  unfold eventWindowChanged
  split <;> simp

@[simp] theorem windowsChanged_frame (old : List WindowEntry) (s : State) :
    (windowsChanged old s).inputs = s.inputs ∧ (windowsChanged old s).resetAsserted = s.resetAsserted ∧
    (windowsChanged old s).outputs = s.outputs ∧ (windowsChanged old s).shadow = s.shadow ∧
    (windowsChanged old s).tracker.lug = s.tracker.lug ∧ (windowsChanged old s).tracker.areas = s.tracker.areas ∧
    (windowsChanged old s).tracker.everRan = s.tracker.everRan ∧ (windowsChanged old s).optimizer = s.optimizer ∧
    (windowsChanged old s).skip = s.skip ∧ (windowsChanged old s).overrides = s.overrides ∧
    (windowsChanged old s).dispatch = s.dispatch ∧ (windowsChanged old s).tally.bank = s.tally.bank ∧
    (windowsChanged old s).tally.saturated0 = s.tally.saturated0 ∧ (windowsChanged old s).tally.saturated1 = s.tally.saturated1 ∧
    (windowsChanged old s).tally.queue = s.tally.queue ∧ (windowsChanged old s).tally.engine = s.tally.engine ∧
    (windowsChanged old s).tally.kept = s.tally.kept ∧ (windowsChanged old s).lineGuard = s.lineGuard ∧
    (windowsChanged old s).bus.mem = s.bus.mem ∧ (windowsChanged old s).bus.through = s.bus.through ∧
    (windowsChanged old s).bus.lastGrant = s.bus.lastGrant ∧ (windowsChanged old s).bus.nextTxn = s.bus.nextTxn ∧
    (windowsChanged old s).bus.answers = s.bus.answers ∧ (windowsChanged old s).pending = s.pending := by
  simp only [windowsChanged]
  repeat' split
  all_goals simp

@[simp] theorem gradingWrite_frame (s : State) :
    (gradingWrite s).inputs = s.inputs ∧ (gradingWrite s).resetAsserted = s.resetAsserted ∧
    (gradingWrite s).outputs = s.outputs ∧ (gradingWrite s).shadow = s.shadow ∧ (gradingWrite s).tracker.lug = s.tracker.lug ∧
    (gradingWrite s).tracker.areas = s.tracker.areas ∧ (gradingWrite s).tracker.everRan = s.tracker.everRan ∧
    (gradingWrite s).intake = s.intake ∧ (gradingWrite s).measure = s.measure ∧ (gradingWrite s).skip = s.skip ∧
    (gradingWrite s).overrides = s.overrides ∧ (gradingWrite s).dispatch = s.dispatch ∧ (gradingWrite s).tally = s.tally ∧
    (gradingWrite s).lineGuard = s.lineGuard ∧ (gradingWrite s).bus.mem = s.bus.mem ∧
    (gradingWrite s).bus.through = s.bus.through ∧ (gradingWrite s).bus.port = s.bus.port ∧
    (gradingWrite s).bus.lastGrant = s.bus.lastGrant ∧ (gradingWrite s).bus.nextTxn = s.bus.nextTxn ∧
    (gradingWrite s).bus.answers = s.bus.answers ∧ (gradingWrite s).pending = s.pending := by
  simp only [gradingWrite]
  split <;> simp

@[simp] theorem followSetup_frame (w : BusWrite) (s : State) :
    (followSetup w s).resetAsserted = s.resetAsserted ∧ (followSetup w s).outputs = s.outputs ∧
    (followSetup w s).shadow.part = s.shadow.part ∧ (followSetup w s).shadow.load = s.shadow.load ∧
    (followSetup w s).shadow.phase = s.shadow.phase ∧ (followSetup w s).shadow.report = s.shadow.report ∧
    (followSetup w s).shadow.held = s.shadow.held ∧ (followSetup w s).tracker.lug = s.tracker.lug ∧
    (followSetup w s).tracker.areas = s.tracker.areas ∧ (followSetup w s).tracker.everRan = s.tracker.everRan ∧
    (followSetup w s).skip = s.skip ∧ (followSetup w s).overrides = s.overrides ∧ (followSetup w s).dispatch = s.dispatch ∧
    (followSetup w s).tally.bank = s.tally.bank ∧ (followSetup w s).tally.saturated0 = s.tally.saturated0 ∧
    (followSetup w s).tally.saturated1 = s.tally.saturated1 ∧ (followSetup w s).tally.queue = s.tally.queue ∧
    (followSetup w s).tally.engine = s.tally.engine ∧ (followSetup w s).tally.kept = s.tally.kept ∧
    (followSetup w s).lineGuard = s.lineGuard ∧ (followSetup w s).bus.mem = s.bus.mem ∧
    (followSetup w s).bus.through = s.bus.through ∧ (followSetup w s).bus.lastGrant = s.bus.lastGrant ∧
    (followSetup w s).bus.nextTxn = s.bus.nextTxn ∧ (followSetup w s).bus.answers = s.bus.answers ∧
    (followSetup w s).pending = s.pending := by
  simp only [followSetup]
  split <;> simp

@[simp] theorem handle_frame (txn : Nat) (t : Transaction) (r : Region) (s : State) :
    (handle txn t r s).resetAsserted = s.resetAsserted ∧ (handle txn t r s).outputs = s.outputs ∧
    (handle txn t r s).shadow.part = s.shadow.part ∧ (handle txn t r s).shadow.load = s.shadow.load ∧
    (handle txn t r s).shadow.phase = s.shadow.phase ∧ (handle txn t r s).shadow.report = s.shadow.report ∧
    (handle txn t r s).shadow.held = s.shadow.held ∧ (handle txn t r s).tracker.lug = s.tracker.lug ∧
    (handle txn t r s).tracker.areas = s.tracker.areas ∧ (handle txn t r s).tracker.everRan = s.tracker.everRan ∧
    (handle txn t r s).skip = s.skip ∧ (handle txn t r s).overrides.readback = s.overrides.readback ∧
    (handle txn t r s).overrides.waiting = s.overrides.waiting ∧ (handle txn t r s).overrides.sawMask = s.overrides.sawMask ∧
    (handle txn t r s).overrides.sawTimer = s.overrides.sawTimer ∧ (handle txn t r s).tally.bank = s.tally.bank ∧
    (handle txn t r s).tally.saturated0 = s.tally.saturated0 ∧ (handle txn t r s).tally.saturated1 = s.tally.saturated1 ∧
    (handle txn t r s).tally.engine = s.tally.engine ∧ (handle txn t r s).tally.kept = s.tally.kept ∧
    (handle txn t r s).lineGuard.force = s.lineGuard.force ∧ (handle txn t r s).bus.mem = s.bus.mem ∧
    (handle txn t r s).bus.lastGrant = s.bus.lastGrant ∧ (handle txn t r s).bus.nextTxn = s.bus.nextTxn ∧
    (handle txn t r s).pending = s.pending := by
  simp only [handle]
  repeat' split
  all_goals simp

@[simp] theorem judge_frame (txn : Nat) (t : Transaction) (s : State) :
    (judge txn t s).resetAsserted = s.resetAsserted ∧ (judge txn t s).outputs = s.outputs ∧
    (judge txn t s).shadow.part = s.shadow.part ∧ (judge txn t s).shadow.load = s.shadow.load ∧
    (judge txn t s).shadow.phase = s.shadow.phase ∧ (judge txn t s).shadow.report = s.shadow.report ∧
    (judge txn t s).shadow.held = s.shadow.held ∧ (judge txn t s).tracker.lug = s.tracker.lug ∧
    (judge txn t s).tracker.everRan = s.tracker.everRan ∧ (judge txn t s).skip = s.skip ∧
    (judge txn t s).overrides.readback = s.overrides.readback ∧ (judge txn t s).overrides.waiting = s.overrides.waiting ∧
    (judge txn t s).overrides.sawMask = s.overrides.sawMask ∧ (judge txn t s).overrides.sawTimer = s.overrides.sawTimer ∧
    (judge txn t s).tally.bank = s.tally.bank ∧ (judge txn t s).tally.saturated0 = s.tally.saturated0 ∧
    (judge txn t s).tally.saturated1 = s.tally.saturated1 ∧ (judge txn t s).tally.kept = s.tally.kept ∧
    (judge txn t s).lineGuard.force = s.lineGuard.force ∧ (judge txn t s).bus.mem = s.bus.mem ∧
    (judge txn t s).bus.lastGrant = s.bus.lastGrant ∧ (judge txn t s).bus.nextTxn = s.bus.nextTxn ∧
    (judge txn t s).pending = s.pending := by
  unfold judge
  split <;> simp

@[simp] theorem arrive_frame (t : Transaction) (s : State) :
    (arrive t s).resetAsserted = s.resetAsserted ∧ (arrive t s).outputs = s.outputs ∧ (arrive t s).shadow.part = s.shadow.part ∧
    (arrive t s).shadow.load = s.shadow.load ∧ (arrive t s).shadow.phase = s.shadow.phase ∧
    (arrive t s).shadow.report = s.shadow.report ∧ (arrive t s).tracker.lug = s.tracker.lug ∧
    (arrive t s).tracker.everRan = s.tracker.everRan ∧ (arrive t s).skip = s.skip ∧
    (arrive t s).overrides.readback = s.overrides.readback ∧ (arrive t s).overrides.waiting = s.overrides.waiting ∧
    (arrive t s).overrides.sawMask = s.overrides.sawMask ∧ (arrive t s).overrides.sawTimer = s.overrides.sawTimer ∧
    (arrive t s).tally.bank = s.tally.bank ∧ (arrive t s).tally.saturated0 = s.tally.saturated0 ∧
    (arrive t s).tally.saturated1 = s.tally.saturated1 ∧ (arrive t s).tally.kept = s.tally.kept ∧
    (arrive t s).lineGuard.force = s.lineGuard.force ∧ (arrive t s).bus.mem = s.bus.mem ∧
    (arrive t s).bus.lastGrant = s.bus.lastGrant ∧ (arrive t s).pending = s.pending := by
  simp only [arrive]
  repeat' split
  all_goals simp

end Sys2Proof.Machine
end

