-- ==== Sys2Proof/Laws/FrameIntake.lean ====
section
/-! SUPPORT. Frames of frame intake, closes and runs: for each operation, every field of State that
it leaves as it was. Proofs cite these and never unfold an operation to learn what it does not touch. -/

namespace Sys2Proof.Machine

@[simp] theorem startIntake_frame (s : State) :
    (startIntake s).inputs = s.inputs ∧ (startIntake s).resetAsserted = s.resetAsserted ∧ (startIntake s).outputs = s.outputs ∧
    (startIntake s).shadow = s.shadow ∧ (startIntake s).tracker = s.tracker ∧ (startIntake s).intake.tables = s.intake.tables ∧
    (startIntake s).intake.queue = s.intake.queue ∧ (startIntake s).measure = s.measure ∧
    (startIntake s).optimizer = s.optimizer ∧ (startIntake s).skip = s.skip ∧ (startIntake s).overrides = s.overrides ∧
    (startIntake s).dispatch = s.dispatch ∧ (startIntake s).tally = s.tally ∧ (startIntake s).lineGuard = s.lineGuard ∧
    (startIntake s).events = s.events ∧ (startIntake s).bus.mem = s.bus.mem ∧ (startIntake s).bus.through = s.bus.through ∧
    (startIntake s).bus.port = s.bus.port ∧ (startIntake s).bus.lastGrant = s.bus.lastGrant ∧
    (startIntake s).bus.nextTxn = s.bus.nextTxn ∧ (startIntake s).bus.answers = s.bus.answers ∧
    (startIntake s).pending = s.pending := by
  simp only [startIntake]
  repeat' split
  all_goals simp

@[simp] theorem leaveByJudgement_frame (e : IntakeRun) (s : State) :
    (leaveByJudgement e s).inputs = s.inputs ∧ (leaveByJudgement e s).resetAsserted = s.resetAsserted ∧
    (leaveByJudgement e s).outputs = s.outputs ∧ (leaveByJudgement e s).shadow = s.shadow ∧
    (leaveByJudgement e s).tracker = s.tracker ∧ (leaveByJudgement e s).intake.tables = s.intake.tables ∧
    (leaveByJudgement e s).intake.engine = s.intake.engine ∧ (leaveByJudgement e s).optimizer = s.optimizer ∧
    (leaveByJudgement e s).skip = s.skip ∧ (leaveByJudgement e s).overrides = s.overrides ∧
    (leaveByJudgement e s).dispatch = s.dispatch ∧ (leaveByJudgement e s).tally = s.tally ∧
    (leaveByJudgement e s).lineGuard = s.lineGuard ∧ (leaveByJudgement e s).events = s.events ∧
    (leaveByJudgement e s).bus = s.bus ∧ (leaveByJudgement e s).pending = s.pending := by
  simp [leaveByJudgement]

@[simp] theorem emitTruncated_frame (e : IntakeRun) (lug : Lug) (s : State) :
    (emitTruncated e lug s).inputs = s.inputs ∧ (emitTruncated e lug s).resetAsserted = s.resetAsserted ∧
    (emitTruncated e lug s).outputs = s.outputs ∧ (emitTruncated e lug s).shadow = s.shadow ∧
    (emitTruncated e lug s).tracker = s.tracker ∧ (emitTruncated e lug s).intake = s.intake ∧
    (emitTruncated e lug s).measure = s.measure ∧ (emitTruncated e lug s).optimizer = s.optimizer ∧
    (emitTruncated e lug s).skip = s.skip ∧ (emitTruncated e lug s).overrides = s.overrides ∧
    (emitTruncated e lug s).dispatch = s.dispatch ∧ (emitTruncated e lug s).tally = s.tally ∧
    (emitTruncated e lug s).lineGuard = s.lineGuard ∧ (emitTruncated e lug s).bus.mem = s.bus.mem ∧
    (emitTruncated e lug s).bus.through = s.bus.through ∧ (emitTruncated e lug s).bus.port = s.bus.port ∧
    (emitTruncated e lug s).bus.lastGrant = s.bus.lastGrant ∧ (emitTruncated e lug s).bus.nextTxn = s.bus.nextTxn ∧
    (emitTruncated e lug s).bus.answers = s.bus.answers ∧ (emitTruncated e lug s).pending = s.pending := by
  unfold emitTruncated
  split <;> simp

@[simp] theorem mergeFresh_frame (e : IntakeRun) (lug : Lug) (s : State) :
    (mergeFresh e lug s).inputs = s.inputs ∧ (mergeFresh e lug s).resetAsserted = s.resetAsserted ∧
    (mergeFresh e lug s).outputs = s.outputs ∧ (mergeFresh e lug s).shadow = s.shadow ∧
    (mergeFresh e lug s).tracker.lug = s.tracker.lug ∧ (mergeFresh e lug s).tracker.areas = s.tracker.areas ∧
    (mergeFresh e lug s).tracker.everRan = s.tracker.everRan ∧ (mergeFresh e lug s).intake.queue = s.intake.queue ∧
    (mergeFresh e lug s).intake.engine = s.intake.engine ∧ (mergeFresh e lug s).measure = s.measure ∧
    (mergeFresh e lug s).optimizer = s.optimizer ∧ (mergeFresh e lug s).skip = s.skip ∧
    (mergeFresh e lug s).overrides = s.overrides ∧ (mergeFresh e lug s).dispatch = s.dispatch ∧
    (mergeFresh e lug s).tally = s.tally ∧ (mergeFresh e lug s).lineGuard = s.lineGuard ∧
    (mergeFresh e lug s).events = s.events ∧ (mergeFresh e lug s).bus = s.bus ∧ (mergeFresh e lug s).pending = s.pending := by
  simp only [mergeFresh]
  split <;> simp

@[simp] theorem discardFresh_frame (e : IntakeRun) (lug : Lug) (s : State) :
    (discardFresh e lug s).inputs = s.inputs ∧ (discardFresh e lug s).resetAsserted = s.resetAsserted ∧
    (discardFresh e lug s).outputs = s.outputs ∧ (discardFresh e lug s).shadow = s.shadow ∧
    (discardFresh e lug s).tracker = s.tracker ∧ (discardFresh e lug s).intake.queue = s.intake.queue ∧
    (discardFresh e lug s).intake.engine = s.intake.engine ∧ (discardFresh e lug s).measure = s.measure ∧
    (discardFresh e lug s).optimizer = s.optimizer ∧ (discardFresh e lug s).skip = s.skip ∧
    (discardFresh e lug s).overrides = s.overrides ∧ (discardFresh e lug s).dispatch = s.dispatch ∧
    (discardFresh e lug s).tally = s.tally ∧ (discardFresh e lug s).lineGuard.force = s.lineGuard.force ∧
    (discardFresh e lug s).bus.mem = s.bus.mem ∧ (discardFresh e lug s).bus.through = s.bus.through ∧
    (discardFresh e lug s).bus.port = s.bus.port ∧ (discardFresh e lug s).bus.lastGrant = s.bus.lastGrant ∧
    (discardFresh e lug s).bus.nextTxn = s.bus.nextTxn ∧ (discardFresh e lug s).bus.answers = s.bus.answers ∧
    (discardFresh e lug s).pending = s.pending := by
  simp only [discardFresh]
  split <;> simp

@[simp] theorem judgeFresh_frame (e : IntakeRun) (s : State) :
    (judgeFresh e s).inputs = s.inputs ∧ (judgeFresh e s).resetAsserted = s.resetAsserted ∧
    (judgeFresh e s).outputs = s.outputs ∧ (judgeFresh e s).shadow = s.shadow ∧ (judgeFresh e s).tracker.lug = s.tracker.lug ∧
    (judgeFresh e s).tracker.areas = s.tracker.areas ∧ (judgeFresh e s).tracker.everRan = s.tracker.everRan ∧
    (judgeFresh e s).intake.engine = s.intake.engine ∧ (judgeFresh e s).optimizer = s.optimizer ∧
    (judgeFresh e s).skip = s.skip ∧ (judgeFresh e s).overrides = s.overrides ∧ (judgeFresh e s).dispatch = s.dispatch ∧
    (judgeFresh e s).tally = s.tally ∧ (judgeFresh e s).lineGuard.force = s.lineGuard.force ∧
    (judgeFresh e s).bus.mem = s.bus.mem ∧ (judgeFresh e s).bus.through = s.bus.through ∧
    (judgeFresh e s).bus.port = s.bus.port ∧ (judgeFresh e s).bus.lastGrant = s.bus.lastGrant ∧
    (judgeFresh e s).bus.nextTxn = s.bus.nextTxn ∧ (judgeFresh e s).bus.answers = s.bus.answers ∧
    (judgeFresh e s).pending = s.pending := by
  simp only [judgeFresh]
  repeat' split
  all_goals simp

@[simp] theorem failReadBack_frame (e : IntakeRun) (lug : Lug) (s : State) :
    (failReadBack e lug s).inputs = s.inputs ∧ (failReadBack e lug s).resetAsserted = s.resetAsserted ∧
    (failReadBack e lug s).outputs = s.outputs ∧ (failReadBack e lug s).shadow = s.shadow ∧
    (failReadBack e lug s).tracker.lug = s.tracker.lug ∧ (failReadBack e lug s).tracker.areas = s.tracker.areas ∧
    (failReadBack e lug s).tracker.everRan = s.tracker.everRan ∧ (failReadBack e lug s).intake.queue = s.intake.queue ∧
    (failReadBack e lug s).intake.engine = s.intake.engine ∧ (failReadBack e lug s).measure = s.measure ∧
    (failReadBack e lug s).optimizer = s.optimizer ∧ (failReadBack e lug s).skip = s.skip ∧
    (failReadBack e lug s).overrides = s.overrides ∧ (failReadBack e lug s).dispatch = s.dispatch ∧
    (failReadBack e lug s).tally = s.tally ∧ (failReadBack e lug s).lineGuard = s.lineGuard ∧
    (failReadBack e lug s).bus.mem = s.bus.mem ∧ (failReadBack e lug s).bus.through = s.bus.through ∧
    (failReadBack e lug s).bus.port = s.bus.port ∧ (failReadBack e lug s).bus.lastGrant = s.bus.lastGrant ∧
    (failReadBack e lug s).bus.nextTxn = s.bus.nextTxn ∧ (failReadBack e lug s).bus.answers = s.bus.answers ∧
    (failReadBack e lug s).pending = s.pending := by
  simp [failReadBack]

@[simp] theorem judgeReadBack_frame (e : IntakeRun) (lug : Lug) (s : State) :
    (judgeReadBack e lug s).inputs = s.inputs ∧ (judgeReadBack e lug s).resetAsserted = s.resetAsserted ∧
    (judgeReadBack e lug s).outputs = s.outputs ∧ (judgeReadBack e lug s).shadow = s.shadow ∧
    (judgeReadBack e lug s).tracker.lug = s.tracker.lug ∧ (judgeReadBack e lug s).tracker.areas = s.tracker.areas ∧
    (judgeReadBack e lug s).tracker.everRan = s.tracker.everRan ∧ (judgeReadBack e lug s).intake.engine = s.intake.engine ∧
    (judgeReadBack e lug s).optimizer = s.optimizer ∧ (judgeReadBack e lug s).skip = s.skip ∧
    (judgeReadBack e lug s).overrides = s.overrides ∧ (judgeReadBack e lug s).dispatch = s.dispatch ∧
    (judgeReadBack e lug s).tally = s.tally ∧ (judgeReadBack e lug s).lineGuard = s.lineGuard ∧
    (judgeReadBack e lug s).bus.mem = s.bus.mem ∧ (judgeReadBack e lug s).bus.through = s.bus.through ∧
    (judgeReadBack e lug s).bus.port = s.bus.port ∧ (judgeReadBack e lug s).bus.lastGrant = s.bus.lastGrant ∧
    (judgeReadBack e lug s).bus.nextTxn = s.bus.nextTxn ∧ (judgeReadBack e lug s).bus.answers = s.bus.answers ∧
    (judgeReadBack e lug s).pending = s.pending := by
  simp only [judgeReadBack]
  repeat' split
  all_goals simp

@[simp] theorem completeIntake_frame (s0 : State) :
    (completeIntake s0).inputs = s0.inputs ∧ (completeIntake s0).resetAsserted = s0.resetAsserted ∧
    (completeIntake s0).outputs = s0.outputs ∧ (completeIntake s0).shadow = s0.shadow ∧
    (completeIntake s0).tracker.lug = s0.tracker.lug ∧ (completeIntake s0).tracker.everRan = s0.tracker.everRan ∧
    (completeIntake s0).skip = s0.skip ∧ (completeIntake s0).overrides = s0.overrides ∧
    (completeIntake s0).dispatch = s0.dispatch ∧ (completeIntake s0).tally.bank = s0.tally.bank ∧
    (completeIntake s0).tally.swap = s0.tally.swap ∧ (completeIntake s0).tally.saturated0 = s0.tally.saturated0 ∧
    (completeIntake s0).tally.saturated1 = s0.tally.saturated1 ∧ (completeIntake s0).tally.queue = s0.tally.queue ∧
    (completeIntake s0).tally.kept = s0.tally.kept ∧ (completeIntake s0).lineGuard.force = s0.lineGuard.force ∧
    (completeIntake s0).bus.mem = s0.bus.mem ∧ (completeIntake s0).bus.through = s0.bus.through ∧
    (completeIntake s0).bus.port = s0.bus.port ∧ (completeIntake s0).bus.lastGrant = s0.bus.lastGrant ∧
    (completeIntake s0).bus.nextTxn = s0.bus.nextTxn ∧ (completeIntake s0).bus.answers = s0.bus.answers ∧
    (completeIntake s0).pending = s0.pending := by
  simp only [completeIntake]
  repeat' split
  all_goals simp

@[simp] theorem reportSilent_frame (r : Record) (s : State) :
    (reportSilent r s).inputs = s.inputs ∧ (reportSilent r s).resetAsserted = s.resetAsserted ∧
    (reportSilent r s).outputs = s.outputs ∧ (reportSilent r s).shadow = s.shadow ∧ (reportSilent r s).tracker = s.tracker ∧
    (reportSilent r s).intake = s.intake ∧ (reportSilent r s).measure = s.measure ∧ (reportSilent r s).optimizer = s.optimizer ∧
    (reportSilent r s).skip = s.skip ∧ (reportSilent r s).overrides = s.overrides ∧ (reportSilent r s).dispatch = s.dispatch ∧
    (reportSilent r s).tally = s.tally ∧ (reportSilent r s).lineGuard.force = s.lineGuard.force ∧
    (reportSilent r s).bus.mem = s.bus.mem ∧ (reportSilent r s).bus.through = s.bus.through ∧
    (reportSilent r s).bus.port = s.bus.port ∧ (reportSilent r s).bus.lastGrant = s.bus.lastGrant ∧
    (reportSilent r s).bus.nextTxn = s.bus.nextTxn ∧ (reportSilent r s).bus.answers = s.bus.answers ∧
    (reportSilent r s).pending = s.pending := by
  unfold reportSilent
  split <;> simp

@[simp] theorem completeClose_frame (s0 : State) :
    (completeClose s0).inputs = s0.inputs ∧ (completeClose s0).resetAsserted = s0.resetAsserted ∧
    (completeClose s0).outputs = s0.outputs ∧ (completeClose s0).shadow = s0.shadow ∧
    (completeClose s0).tracker.lug = s0.tracker.lug ∧ (completeClose s0).tracker.everRan = s0.tracker.everRan ∧
    (completeClose s0).intake = s0.intake ∧ (completeClose s0).measure.awaiting = s0.measure.awaiting ∧
    (completeClose s0).skip = s0.skip ∧ (completeClose s0).overrides = s0.overrides ∧
    (completeClose s0).dispatch.waiting = s0.dispatch.waiting ∧ (completeClose s0).dispatch.counts = s0.dispatch.counts ∧
    (completeClose s0).tally.bank = s0.tally.bank ∧ (completeClose s0).tally.swap = s0.tally.swap ∧
    (completeClose s0).tally.saturated0 = s0.tally.saturated0 ∧ (completeClose s0).tally.saturated1 = s0.tally.saturated1 ∧
    (completeClose s0).tally.queue = s0.tally.queue ∧ (completeClose s0).tally.kept = s0.tally.kept ∧
    (completeClose s0).lineGuard.force = s0.lineGuard.force ∧ (completeClose s0).bus.mem = s0.bus.mem ∧
    (completeClose s0).bus.through = s0.bus.through ∧ (completeClose s0).bus.port = s0.bus.port ∧
    (completeClose s0).bus.lastGrant = s0.bus.lastGrant ∧ (completeClose s0).bus.nextTxn = s0.bus.nextTxn ∧
    (completeClose s0).pending = s0.pending := by
  simp only [completeClose]
  repeat' split
  all_goals simp

@[simp] theorem emitDecided_frame (d : Decision) (lug : Lug) (s : State) :
    (emitDecided d lug s).inputs = s.inputs ∧ (emitDecided d lug s).resetAsserted = s.resetAsserted ∧
    (emitDecided d lug s).outputs = s.outputs ∧ (emitDecided d lug s).shadow = s.shadow ∧
    (emitDecided d lug s).tracker = s.tracker ∧ (emitDecided d lug s).intake = s.intake ∧
    (emitDecided d lug s).measure = s.measure ∧ (emitDecided d lug s).optimizer = s.optimizer ∧
    (emitDecided d lug s).skip = s.skip ∧ (emitDecided d lug s).overrides = s.overrides ∧
    (emitDecided d lug s).dispatch = s.dispatch ∧ (emitDecided d lug s).tally = s.tally ∧
    (emitDecided d lug s).lineGuard = s.lineGuard ∧ (emitDecided d lug s).bus.mem = s.bus.mem ∧
    (emitDecided d lug s).bus.through = s.bus.through ∧ (emitDecided d lug s).bus.port = s.bus.port ∧
    (emitDecided d lug s).bus.lastGrant = s.bus.lastGrant ∧ (emitDecided d lug s).bus.nextTxn = s.bus.nextTxn ∧
    (emitDecided d lug s).bus.answers = s.bus.answers ∧ (emitDecided d lug s).pending = s.pending := by
  unfold emitDecided
  split <;> simp

@[simp] theorem completeRun_frame (s0 : State) :
    (completeRun s0).inputs = s0.inputs ∧ (completeRun s0).resetAsserted = s0.resetAsserted ∧
    (completeRun s0).outputs = s0.outputs ∧ (completeRun s0).shadow = s0.shadow ∧ (completeRun s0).tracker.lug = s0.tracker.lug ∧
    (completeRun s0).tracker.everRan = s0.tracker.everRan ∧ (completeRun s0).intake = s0.intake ∧
    (completeRun s0).measure = s0.measure ∧ (completeRun s0).skip = s0.skip ∧ (completeRun s0).overrides = s0.overrides ∧
    (completeRun s0).dispatch.waiting = s0.dispatch.waiting ∧ (completeRun s0).dispatch.counts = s0.dispatch.counts ∧
    (completeRun s0).tally.bank = s0.tally.bank ∧ (completeRun s0).tally.swap = s0.tally.swap ∧
    (completeRun s0).tally.saturated0 = s0.tally.saturated0 ∧ (completeRun s0).tally.saturated1 = s0.tally.saturated1 ∧
    (completeRun s0).tally.queue = s0.tally.queue ∧ (completeRun s0).tally.kept = s0.tally.kept ∧
    (completeRun s0).lineGuard = s0.lineGuard ∧ (completeRun s0).bus.mem = s0.bus.mem ∧
    (completeRun s0).bus.through = s0.bus.through ∧ (completeRun s0).bus.port = s0.bus.port ∧
    (completeRun s0).bus.lastGrant = s0.bus.lastGrant ∧ (completeRun s0).bus.nextTxn = s0.bus.nextTxn ∧
    (completeRun s0).pending = s0.pending := by
  simp only [completeRun]
  repeat' split
  all_goals simp

end Sys2Proof.Machine
end

