-- ==== Sys2Proof/Laws/Memory.lean ====
section
/-! SUPPORT. Line memory: every operation keeps the canonical form, a read after a write, and what a write leaves alone. -/

namespace Sys2Proof.Machine

theorem Memory.wf_nil : Memory.wf [] := by simp [Memory.wf]

theorem Memory.wf_cons {c : Host.Cell} {m : List Host.Cell} :
    Memory.wf (c :: m) ↔ (∀ d ∈ m, c.1 < d.1) ∧ c.2 ≠ Config.unwrittenByte ∧ Memory.wf m := by
  simp only [Memory.wf, List.pairwise_cons, List.forall_mem_cons]
  tauto

/-- An address below every listed one reads as unwritten. -/
theorem Memory.read_below {m : List Host.Cell} {a : Nat} (h : ∀ d ∈ m, a < d.1) : Memory.read m a = Config.unwrittenByte := by
  induction m with
  | nil => rfl
  | cons c rest ih =>
    have hc : c.1 ≠ a := by have := h c (by simp); omega
    simp only [Memory.read, if_neg hc]
    exact ih fun d hd => h d (by simp [hd])

/-- A write lists only addresses that were listed, and its own. -/
theorem Memory.mem_write {m : List Host.Cell} {a : Nat} {v : Byte} {d : Host.Cell} (h : d ∈ Memory.write m a v) :
    d ∈ m ∨ d = (a, v) := by
  induction m with
  | nil =>
    simp only [Memory.write] at h
    split at h <;> simp_all
  | cons c rest ih =>
    simp only [Memory.write] at h
    split at h
    · split at h <;> simp_all
      tauto
    · split at h
      · split at h <;> simp_all
        tauto
      · simp only [List.mem_cons] at h ⊢
        rcases h with h | h
        · exact .inl (.inl h)
        · rcases ih h with h | h
          · exact .inl (.inr h)
          · exact .inr h

/-- A write keeps the canonical form. -/
theorem Memory.write_wf {m : List Host.Cell} (h : Memory.wf m) (a : Nat) (v : Byte) : Memory.wf (Memory.write m a v) := by
  induction m with
  | nil =>
    simp only [Memory.write]
    split
    · exact Memory.wf_nil
    · simp_all [Memory.wf]
  | cons c rest ih =>
    obtain ⟨hlt, hne, hrest⟩ := Memory.wf_cons.mp h
    simp only [Memory.write]
    split
    case isTrue hac =>
      split
      · exact h
      case isFalse hv =>
        refine Memory.wf_cons.mpr ⟨?_, hv, h⟩
        intro d hd
        rcases List.mem_cons.mp hd with rfl | hd
        · exact hac
        · exact lt_trans hac (hlt d hd)
    case isFalse hac =>
      split
      case isTrue heq =>
        split
        · exact hrest
        case isFalse hv =>
          exact Memory.wf_cons.mpr ⟨by intro d hd; rw [heq]; exact hlt d hd, hv, hrest⟩
      case isFalse heq =>
        refine Memory.wf_cons.mpr ⟨?_, hne, ih hrest⟩
        intro d hd
        rcases Memory.mem_write hd with hd | rfl
        · exact hlt d hd
        · simp only; omega

/-- A byte written is the byte read. -/
theorem Memory.read_write_same {m : List Host.Cell} (h : Memory.wf m) (a : Nat) (v : Byte) :
    Memory.read (Memory.write m a v) a = v := by
  induction m with
  | nil =>
    simp only [Memory.write]
    split
    · simp_all [Memory.read]
    · simp [Memory.read]
  | cons c rest ih =>
    obtain ⟨hlt, -, hrest⟩ := Memory.wf_cons.mp h
    simp only [Memory.write]
    split
    case isTrue hac =>
      split
      case isTrue hv =>
        rw [hv]
        refine Memory.read_below ?_
        intro d hd
        rcases List.mem_cons.mp hd with rfl | hd
        · exact hac
        · exact lt_trans hac (hlt d hd)
      · simp [Memory.read]
    case isFalse hac =>
      split
      case isTrue heq =>
        split
        case isTrue hv => rw [hv, heq]; exact Memory.read_below hlt
        · simp [Memory.read]
      case isFalse heq => simp only [Memory.read, if_neg (Ne.symm heq)]; exact ih hrest

/-- A write leaves every other byte alone. -/
theorem Memory.read_write_other (m : List Host.Cell) {a b : Nat} (v : Byte) (hab : b ≠ a) :
    Memory.read (Memory.write m a v) b = Memory.read m b := by
  induction m with
  | nil =>
    simp only [Memory.write]
    split
    · rfl
    · simp [Memory.read, Ne.symm hab]
  | cons c rest ih =>
    simp only [Memory.write]
    split
    · split
      · rfl
      · simp [Memory.read, Ne.symm hab]
    · split
      case isTrue heq =>
        have hc : c.1 ≠ b := by omega
        split <;> simp [Memory.read, hc, Ne.symm hab]
      · simp only [Memory.read, ih]

/-- Every list of byte writes keeps the canonical form. -/
theorem Memory.writeCells_wf {m : List Host.Cell} (h : Memory.wf m) (cells : List Host.Cell) :
    Memory.wf (Memory.writeCells m cells) := by
  induction cells generalizing m with
  | nil => exact h
  | cons c rest ih => exact ih (Memory.write_wf h c.1 c.2)

/-- A list of byte writes leaves every address it does not name alone. -/
theorem Memory.read_writeCells_other (m : List Host.Cell) (cells : List Host.Cell) {b : Nat} (h : ∀ c ∈ cells, c.1 ≠ b) :
    Memory.read (Memory.writeCells m cells) b = Memory.read m b := by
  induction cells generalizing m with
  | nil => rfl
  | cons c rest ih =>
    have hc : b ≠ c.1 := Ne.symm (h c (by simp))
    exact (ih _ fun d hd => h d (by simp [hd])).trans (Memory.read_write_other m c.2 hc)

theorem Memory.writeBeats_wf {m : List Host.Cell} (h : Memory.wf m) (a : Nat) (beats : List Beat) :
    Memory.wf (Memory.writeBeats m a beats) := Memory.writeCells_wf h _

/-- Completing a burst keeps the canonical form. -/
theorem Burst.perform_wf {m : List Host.Cell} (h : Memory.wf m) (b : Burst) : Memory.wf (Burst.perform m b).1 := by
  unfold Burst.perform
  split
  · exact h
  · exact Memory.writeBeats_wf h _ _

/-- A read burst changes no byte. -/
theorem Burst.perform_read (m : List Host.Cell) (b : Burst) (n : Nat) (h : b.access = .read n) :
    Burst.perform m b = (m, Memory.readWords m b.addr.toNat n) := by simp [Burst.perform, h]

theorem Memory.reset_wf : Memory.wf State.reset.bus.mem := Memory.wf_nil

end Sys2Proof.Machine
end

