-- ==== Sys2Proof/Laws/PerInstr.lean ====
section
/-! SUPPORT. The family of statements made command by command: a command is well formed exactly when each operand that can be out of
range is in range. -/

namespace Sys2Proof.Laws

/-- The operand check of a command, spelled out: a burst of 1 to 16 words, a place of the held-read list below 4, and nothing else. -/
def OperandsChecked.Statement (i : Instr) : Prop :=
  i.wellFormed = true ↔
    (∀ w : BusWrite, (i = .setupWriteHeld w ∨ i = .setupWrite w ∨ i = .windowEntryWrite w ∨ i = .gradingTableWrite w ∨
        i = .guardEnableMaskWrite w ∨ i = .eventClassEnableWrite w ∨ i = .frameHeaderWrite w ∨ i = .trailerWrite w ∨ i = .post w ∨
        i = .consumerWrite w ∨ i = .chassisTransaction (.write w)) → 1 ≤ w.beats.length ∧ w.beats.length ≤ 16) ∧
    (∀ r : BusRead, i = .chassisTransaction (.read r) → 1 ≤ r.words ∧ r.words ≤ 16) ∧
    (∀ n : Nat, i = .holdExpiry n → n < 4)

theorem OperandsChecked.rawLevelChange (pin : Input) (level : Bool) (order : LugOrder) : OperandsChecked.Statement (.rawLevelChange pin level order) := by
  simp [OperandsChecked.Statement, Instr.wellFormed]

theorem OperandsChecked.filterTimerExpiry (pin : Input) (order : LugOrder) : OperandsChecked.Statement (.filterTimerExpiry pin order) := by
  simp [OperandsChecked.Statement, Instr.wellFormed]

theorem OperandsChecked.resetNAssert : OperandsChecked.Statement .resetNAssert := by
  simp [OperandsChecked.Statement, Instr.wellFormed]

theorem OperandsChecked.resetNRelease : OperandsChecked.Statement .resetNRelease := by
  simp [OperandsChecked.Statement, Instr.wellFormed]

theorem OperandsChecked.formatWordReadDone : OperandsChecked.Statement .formatWordReadDone := by
  simp [OperandsChecked.Statement, Instr.wellFormed]

theorem OperandsChecked.setupReadDone : OperandsChecked.Statement .setupReadDone := by
  simp [OperandsChecked.Statement, Instr.wellFormed]

theorem OperandsChecked.eventHeaderReadDone : OperandsChecked.Statement .eventHeaderReadDone := by
  simp [OperandsChecked.Statement, Instr.wellFormed]

theorem OperandsChecked.tallyHeaderReadDone : OperandsChecked.Statement .tallyHeaderReadDone := by
  simp [OperandsChecked.Statement, Instr.wellFormed]

theorem OperandsChecked.formatWordWrite : OperandsChecked.Statement .formatWordWrite := by
  simp [OperandsChecked.Statement, Instr.wellFormed]

theorem OperandsChecked.setupWriteHeld (w : BusWrite) : OperandsChecked.Statement (.setupWriteHeld w) := by
  simp [OperandsChecked.Statement, Instr.wellFormed, BusWrite.wellFormed]

theorem OperandsChecked.chassisTransaction (t : Transaction) : OperandsChecked.Statement (.chassisTransaction t) := by
  cases t <;> simp [OperandsChecked.Statement, Instr.wellFormed, Transaction.wellFormed, BusRead.wellFormed, BusWrite.wellFormed]

theorem OperandsChecked.memoryBurstDone : OperandsChecked.Statement .memoryBurstDone := by
  simp [OperandsChecked.Statement, Instr.wellFormed]

theorem OperandsChecked.setupWrite (w : BusWrite) : OperandsChecked.Statement (.setupWrite w) := by
  simp [OperandsChecked.Statement, Instr.wellFormed, BusWrite.wellFormed]

theorem OperandsChecked.windowEntryWrite (w : BusWrite) : OperandsChecked.Statement (.windowEntryWrite w) := by
  simp [OperandsChecked.Statement, Instr.wellFormed, BusWrite.wellFormed]

theorem OperandsChecked.gradingTableWrite (w : BusWrite) : OperandsChecked.Statement (.gradingTableWrite w) := by
  simp [OperandsChecked.Statement, Instr.wellFormed, BusWrite.wellFormed]

theorem OperandsChecked.guardEnableMaskWrite (w : BusWrite) : OperandsChecked.Statement (.guardEnableMaskWrite w) := by
  simp [OperandsChecked.Statement, Instr.wellFormed, BusWrite.wellFormed]

theorem OperandsChecked.eventClassEnableWrite (w : BusWrite) : OperandsChecked.Statement (.eventClassEnableWrite w) := by
  simp [OperandsChecked.Statement, Instr.wellFormed, BusWrite.wellFormed]

theorem OperandsChecked.frameHeaderWrite (w : BusWrite) : OperandsChecked.Statement (.frameHeaderWrite w) := by
  simp [OperandsChecked.Statement, Instr.wellFormed, BusWrite.wellFormed]

theorem OperandsChecked.trailerWrite (w : BusWrite) : OperandsChecked.Statement (.trailerWrite w) := by
  simp [OperandsChecked.Statement, Instr.wellFormed, BusWrite.wellFormed]

theorem OperandsChecked.intakeStart : OperandsChecked.Statement .intakeStart := by
  simp [OperandsChecked.Statement, Instr.wellFormed]

theorem OperandsChecked.intakeComplete : OperandsChecked.Statement .intakeComplete := by
  simp [OperandsChecked.Statement, Instr.wellFormed]

theorem OperandsChecked.closeComplete : OperandsChecked.Statement .closeComplete := by
  simp [OperandsChecked.Statement, Instr.wellFormed]

theorem OperandsChecked.optimizerComplete : OperandsChecked.Statement .optimizerComplete := by
  simp [OperandsChecked.Statement, Instr.wellFormed]

theorem OperandsChecked.post (w : BusWrite) : OperandsChecked.Statement (.post w) := by
  simp [OperandsChecked.Statement, Instr.wellFormed, BusWrite.wellFormed]

theorem OperandsChecked.postReadbackStart : OperandsChecked.Statement .postReadbackStart := by
  simp [OperandsChecked.Statement, Instr.wellFormed]

theorem OperandsChecked.grade : OperandsChecked.Statement .grade := by
  simp [OperandsChecked.Statement, Instr.wellFormed]

theorem OperandsChecked.trim : OperandsChecked.Statement .trim := by
  simp [OperandsChecked.Statement, Instr.wellFormed]

theorem OperandsChecked.chip : OperandsChecked.Statement .chip := by
  simp [OperandsChecked.Statement, Instr.wellFormed]

theorem OperandsChecked.mark : OperandsChecked.Statement .mark := by
  simp [OperandsChecked.Statement, Instr.wellFormed]

theorem OperandsChecked.clear : OperandsChecked.Statement .clear := by
  simp [OperandsChecked.Statement, Instr.wellFormed]

theorem OperandsChecked.rescan : OperandsChecked.Statement .rescan := by
  simp [OperandsChecked.Statement, Instr.wellFormed]

theorem OperandsChecked.binEmpty : OperandsChecked.Statement .binEmpty := by
  simp [OperandsChecked.Statement, Instr.wellFormed]

theorem OperandsChecked.shift : OperandsChecked.Statement .shift := by
  simp [OperandsChecked.Statement, Instr.wellFormed]

theorem OperandsChecked.ack : OperandsChecked.Statement .ack := by
  simp [OperandsChecked.Statement, Instr.wellFormed]

theorem OperandsChecked.alarmTest : OperandsChecked.Statement .alarmTest := by
  simp [OperandsChecked.Statement, Instr.wellFormed]

theorem OperandsChecked.sawTest : OperandsChecked.Statement .sawTest := by
  simp [OperandsChecked.Statement, Instr.wellFormed]

theorem OperandsChecked.lineReset : OperandsChecked.Statement .lineReset := by
  simp [OperandsChecked.Statement, Instr.wellFormed]

theorem OperandsChecked.lineResetStart : OperandsChecked.Statement .lineResetStart := by
  simp [OperandsChecked.Statement, Instr.wellFormed]

theorem OperandsChecked.sawTestExpiry : OperandsChecked.Statement .sawTestExpiry := by
  simp [OperandsChecked.Statement, Instr.wellFormed]

theorem OperandsChecked.trimRead (m : Master) (addr : Word) : OperandsChecked.Statement (.trimRead m addr) := by
  simp [OperandsChecked.Statement, Instr.wellFormed]

theorem OperandsChecked.holdExpiry (index : Nat) : OperandsChecked.Statement (.holdExpiry index) := by
  simp [OperandsChecked.Statement, Instr.wellFormed]

theorem OperandsChecked.sortRead (m : Master) (addr : Word) : OperandsChecked.Statement (.sortRead m addr) := by
  simp [OperandsChecked.Statement, Instr.wellFormed]

theorem OperandsChecked.tallyReadsDone : OperandsChecked.Statement .tallyReadsDone := by
  simp [OperandsChecked.Statement, Instr.wellFormed]

theorem OperandsChecked.tallyUpdateComplete : OperandsChecked.Statement .tallyUpdateComplete := by
  simp [OperandsChecked.Statement, Instr.wellFormed]

theorem OperandsChecked.zeroingDone : OperandsChecked.Statement .zeroingDone := by
  simp [OperandsChecked.Statement, Instr.wellFormed]

theorem OperandsChecked.mirrorWriteComplete : OperandsChecked.Statement .mirrorWriteComplete := by
  simp [OperandsChecked.Statement, Instr.wellFormed]

theorem OperandsChecked.consumerWrite (w : BusWrite) : OperandsChecked.Statement (.consumerWrite w) := by
  simp [OperandsChecked.Statement, Instr.wellFormed, BusWrite.wellFormed]

theorem OperandsChecked.kindCodeOutOfRange : OperandsChecked.Statement .kindCodeOutOfRange := by
  simp [OperandsChecked.Statement, Instr.wellFormed]

end Sys2Proof.Laws
end

