-- ==== Sys2Proof/Laws/StartUp.lean ====
section
/-! SUPPORT. Frames of start-up and the line reset: for each operation, every field of State that
it leaves as it was. Proofs cite these and never unfold an operation to learn what it does not touch. -/

namespace Sys2Proof.Machine

@[simp] theorem beginLoad_frame (cause : StartCause) (s : State) :
    (beginLoad cause s).inputs = s.inputs ∧ (beginLoad cause s).resetAsserted = s.resetAsserted ∧
    (beginLoad cause s).outputs = s.outputs ∧ (beginLoad cause s).shadow.words = s.shadow.words ∧
    (beginLoad cause s).shadow.entries = s.shadow.entries ∧ (beginLoad cause s).shadow.report = s.shadow.report ∧
    (beginLoad cause s).shadow.held = s.shadow.held ∧ (beginLoad cause s).tracker = s.tracker ∧
    (beginLoad cause s).intake = s.intake ∧ (beginLoad cause s).measure = s.measure ∧
    (beginLoad cause s).optimizer = s.optimizer ∧ (beginLoad cause s).skip = s.skip ∧
    (beginLoad cause s).overrides = s.overrides ∧ (beginLoad cause s).dispatch = s.dispatch ∧
    (beginLoad cause s).tally = s.tally ∧ (beginLoad cause s).lineGuard = s.lineGuard ∧ (beginLoad cause s).bus.mem = s.bus.mem ∧
    (beginLoad cause s).bus.through = s.bus.through ∧ (beginLoad cause s).bus.lastGrant = s.bus.lastGrant ∧
    (beginLoad cause s).bus.nextTxn = s.bus.nextTxn ∧ (beginLoad cause s).bus.answers = s.bus.answers ∧
    (beginLoad cause s).pending = s.pending := by
  simp [beginLoad]

@[simp] theorem releasePlain_frame (hs : List HeldWrite) (s : State) :
    (releasePlain hs s).inputs = s.inputs ∧ (releasePlain hs s).resetAsserted = s.resetAsserted ∧
    (releasePlain hs s).outputs = s.outputs ∧ (releasePlain hs s).shadow.part = s.shadow.part ∧
    (releasePlain hs s).shadow.words = s.shadow.words ∧ (releasePlain hs s).shadow.entries = s.shadow.entries ∧
    (releasePlain hs s).shadow.load = s.shadow.load ∧ (releasePlain hs s).shadow.phase = s.shadow.phase ∧
    (releasePlain hs s).shadow.report = s.shadow.report ∧ (releasePlain hs s).tracker = s.tracker ∧
    (releasePlain hs s).intake = s.intake ∧ (releasePlain hs s).measure = s.measure ∧
    (releasePlain hs s).optimizer = s.optimizer ∧ (releasePlain hs s).skip = s.skip ∧
    (releasePlain hs s).overrides = s.overrides ∧ (releasePlain hs s).dispatch = s.dispatch ∧
    (releasePlain hs s).tally = s.tally ∧ (releasePlain hs s).lineGuard = s.lineGuard ∧ (releasePlain hs s).events = s.events ∧
    (releasePlain hs s).bus.mem = s.bus.mem ∧ (releasePlain hs s).bus.internal = s.bus.internal ∧
    (releasePlain hs s).bus.port = s.bus.port ∧ (releasePlain hs s).bus.lastGrant = s.bus.lastGrant ∧
    (releasePlain hs s).bus.nextTxn = s.bus.nextTxn ∧ (releasePlain hs s).bus.answers = s.bus.answers ∧
    (releasePlain hs s).pending = s.pending := by
  induction hs generalizing s with
  | nil => simp [releasePlain]
  | cons h hs ih =>
    simp only [releasePlain]
    split <;> simp [ih]

@[simp] theorem enterTransparent_frame (s : State) :
    (enterTransparent s).inputs = s.inputs ∧ (enterTransparent s).resetAsserted = s.resetAsserted ∧
    (enterTransparent s).outputs = s.outputs ∧ (enterTransparent s).shadow.words = s.shadow.words ∧
    (enterTransparent s).shadow.entries = s.shadow.entries ∧ (enterTransparent s).shadow.phase = s.shadow.phase ∧
    (enterTransparent s).shadow.report = s.shadow.report ∧ (enterTransparent s).tracker = s.tracker ∧
    (enterTransparent s).intake = s.intake ∧ (enterTransparent s).measure = s.measure ∧
    (enterTransparent s).optimizer = s.optimizer ∧ (enterTransparent s).skip = s.skip ∧
    (enterTransparent s).overrides = s.overrides ∧ (enterTransparent s).dispatch = s.dispatch ∧
    (enterTransparent s).tally = s.tally ∧ (enterTransparent s).lineGuard = s.lineGuard ∧
    (enterTransparent s).events = s.events ∧ (enterTransparent s).bus.mem = s.bus.mem ∧
    (enterTransparent s).bus.internal = s.bus.internal ∧ (enterTransparent s).bus.port = s.bus.port ∧
    (enterTransparent s).bus.lastGrant = s.bus.lastGrant ∧ (enterTransparent s).bus.nextTxn = s.bus.nextTxn ∧
    (enterTransparent s).bus.answers = s.bus.answers ∧ (enterTransparent s).pending = s.pending := by
  simp [enterTransparent]

@[simp] theorem tallyAtRunning_frame (s : State) :
    (tallyAtRunning s).inputs = s.inputs ∧ (tallyAtRunning s).resetAsserted = s.resetAsserted ∧
    (tallyAtRunning s).outputs = s.outputs ∧ (tallyAtRunning s).shadow = s.shadow ∧ (tallyAtRunning s).tracker = s.tracker ∧
    (tallyAtRunning s).intake = s.intake ∧ (tallyAtRunning s).measure = s.measure ∧ (tallyAtRunning s).optimizer = s.optimizer ∧
    (tallyAtRunning s).skip = s.skip ∧ (tallyAtRunning s).overrides = s.overrides ∧ (tallyAtRunning s).dispatch = s.dispatch ∧
    (tallyAtRunning s).tally.queue = s.tally.queue ∧ (tallyAtRunning s).tally.engine = s.tally.engine ∧
    (tallyAtRunning s).lineGuard = s.lineGuard ∧ (tallyAtRunning s).events = s.events ∧ (tallyAtRunning s).bus.mem = s.bus.mem ∧
    (tallyAtRunning s).bus.through = s.bus.through ∧ (tallyAtRunning s).bus.port = s.bus.port ∧
    (tallyAtRunning s).bus.lastGrant = s.bus.lastGrant ∧ (tallyAtRunning s).bus.nextTxn = s.bus.nextTxn ∧
    (tallyAtRunning s).bus.answers = s.bus.answers ∧ (tallyAtRunning s).pending = s.pending := by
  simp only [tallyAtRunning]
  repeat' split
  all_goals simp

@[simp] theorem emitLineReset_frame (s : State) :
    (emitLineReset s).inputs = s.inputs ∧ (emitLineReset s).resetAsserted = s.resetAsserted ∧
    (emitLineReset s).outputs = s.outputs ∧ (emitLineReset s).shadow.part = s.shadow.part ∧
    (emitLineReset s).shadow.words = s.shadow.words ∧ (emitLineReset s).shadow.entries = s.shadow.entries ∧
    (emitLineReset s).shadow.load = s.shadow.load ∧ (emitLineReset s).shadow.phase = s.shadow.phase ∧
    (emitLineReset s).shadow.held = s.shadow.held ∧ (emitLineReset s).tracker = s.tracker ∧ (emitLineReset s).intake = s.intake ∧
    (emitLineReset s).measure = s.measure ∧ (emitLineReset s).optimizer = s.optimizer ∧ (emitLineReset s).skip = s.skip ∧
    (emitLineReset s).overrides = s.overrides ∧ (emitLineReset s).dispatch = s.dispatch ∧ (emitLineReset s).tally = s.tally ∧
    (emitLineReset s).lineGuard.force = s.lineGuard.force ∧ (emitLineReset s).bus.mem = s.bus.mem ∧
    (emitLineReset s).bus.through = s.bus.through ∧ (emitLineReset s).bus.port = s.bus.port ∧
    (emitLineReset s).bus.lastGrant = s.bus.lastGrant ∧ (emitLineReset s).bus.nextTxn = s.bus.nextTxn ∧
    (emitLineReset s).bus.answers = s.bus.answers ∧ (emitLineReset s).pending = s.pending := by
  unfold emitLineReset
  split <;> simp

@[simp] theorem startEvents_frame (cause : StartCause) (s : State) :
    (startEvents cause s).inputs = s.inputs ∧ (startEvents cause s).resetAsserted = s.resetAsserted ∧
    (startEvents cause s).outputs = s.outputs ∧ (startEvents cause s).shadow.part = s.shadow.part ∧
    (startEvents cause s).shadow.words = s.shadow.words ∧ (startEvents cause s).shadow.entries = s.shadow.entries ∧
    (startEvents cause s).shadow.load = s.shadow.load ∧ (startEvents cause s).shadow.phase = s.shadow.phase ∧
    (startEvents cause s).shadow.held = s.shadow.held ∧ (startEvents cause s).tracker = s.tracker ∧
    (startEvents cause s).intake = s.intake ∧ (startEvents cause s).measure = s.measure ∧
    (startEvents cause s).optimizer = s.optimizer ∧ (startEvents cause s).skip = s.skip ∧
    (startEvents cause s).overrides = s.overrides ∧ (startEvents cause s).dispatch = s.dispatch ∧
    (startEvents cause s).tally = s.tally ∧ (startEvents cause s).lineGuard.force = s.lineGuard.force ∧
    (startEvents cause s).bus.mem = s.bus.mem ∧ (startEvents cause s).bus.through = s.bus.through ∧
    (startEvents cause s).bus.port = s.bus.port ∧ (startEvents cause s).bus.lastGrant = s.bus.lastGrant ∧
    (startEvents cause s).bus.nextTxn = s.bus.nextTxn ∧ (startEvents cause s).bus.answers = s.bus.answers ∧
    (startEvents cause s).pending = s.pending := by
  simp [startEvents]

@[simp] theorem releaseHeld_frame (hs : List HeldWrite) (s : State) :
    (releaseHeld hs s).resetAsserted = s.resetAsserted ∧ (releaseHeld hs s).outputs = s.outputs ∧
    (releaseHeld hs s).shadow.part = s.shadow.part ∧ (releaseHeld hs s).shadow.load = s.shadow.load ∧
    (releaseHeld hs s).shadow.phase = s.shadow.phase ∧ (releaseHeld hs s).shadow.report = s.shadow.report ∧
    (releaseHeld hs s).shadow.held = s.shadow.held ∧ (releaseHeld hs s).tracker.lug = s.tracker.lug ∧
    (releaseHeld hs s).tracker.everRan = s.tracker.everRan ∧ (releaseHeld hs s).skip = s.skip ∧
    (releaseHeld hs s).overrides.readback = s.overrides.readback ∧ (releaseHeld hs s).overrides.waiting = s.overrides.waiting ∧
    (releaseHeld hs s).overrides.sawMask = s.overrides.sawMask ∧ (releaseHeld hs s).overrides.sawTimer = s.overrides.sawTimer ∧
    (releaseHeld hs s).tally.bank = s.tally.bank ∧ (releaseHeld hs s).tally.saturated0 = s.tally.saturated0 ∧
    (releaseHeld hs s).tally.saturated1 = s.tally.saturated1 ∧ (releaseHeld hs s).tally.kept = s.tally.kept ∧
    (releaseHeld hs s).lineGuard.force = s.lineGuard.force ∧ (releaseHeld hs s).bus.mem = s.bus.mem ∧
    (releaseHeld hs s).bus.lastGrant = s.bus.lastGrant ∧ (releaseHeld hs s).bus.nextTxn = s.bus.nextTxn ∧
    (releaseHeld hs s).pending = s.pending := by
  simp [releaseHeld]

@[simp] theorem enterRunning_frame (ld : Load) (s0 : State) :
    (enterRunning ld s0).resetAsserted = s0.resetAsserted ∧ (enterRunning ld s0).outputs = s0.outputs ∧
    (enterRunning ld s0).shadow.phase = s0.shadow.phase ∧ (enterRunning ld s0).tracker.lug = s0.tracker.lug ∧
    (enterRunning ld s0).skip = s0.skip ∧ (enterRunning ld s0).overrides.readback = s0.overrides.readback ∧
    (enterRunning ld s0).overrides.waiting = s0.overrides.waiting ∧
    (enterRunning ld s0).overrides.sawMask = s0.overrides.sawMask ∧
    (enterRunning ld s0).overrides.sawTimer = s0.overrides.sawTimer ∧ (enterRunning ld s0).lineGuard.force = s0.lineGuard.force ∧
    (enterRunning ld s0).bus.mem = s0.bus.mem ∧ (enterRunning ld s0).bus.lastGrant = s0.bus.lastGrant ∧
    (enterRunning ld s0).bus.nextTxn = s0.bus.nextTxn ∧ (enterRunning ld s0).pending = s0.pending := by
  simp [enterRunning]

@[simp] theorem endLoad_frame (s : State) :
    (endLoad s).resetAsserted = s.resetAsserted ∧ (endLoad s).outputs = s.outputs ∧ (endLoad s).shadow.phase = s.shadow.phase ∧
    (endLoad s).tracker.lug = s.tracker.lug ∧ (endLoad s).skip = s.skip ∧ (endLoad s).overrides.readback = s.overrides.readback ∧
    (endLoad s).overrides.waiting = s.overrides.waiting ∧ (endLoad s).overrides.sawMask = s.overrides.sawMask ∧
    (endLoad s).overrides.sawTimer = s.overrides.sawTimer ∧ (endLoad s).lineGuard.force = s.lineGuard.force ∧
    (endLoad s).bus.mem = s.bus.mem ∧ (endLoad s).bus.lastGrant = s.bus.lastGrant ∧ (endLoad s).bus.nextTxn = s.bus.nextTxn ∧
    (endLoad s).pending = s.pending := by
  simp only [endLoad]
  repeat' split
  all_goals simp

@[simp] theorem formatWordRead_frame (w : Word) (s : State) :
    (formatWordRead w s).inputs = s.inputs ∧ (formatWordRead w s).resetAsserted = s.resetAsserted ∧
    (formatWordRead w s).outputs = s.outputs ∧ (formatWordRead w s).shadow.entries = s.shadow.entries ∧
    (formatWordRead w s).shadow.phase = s.shadow.phase ∧ (formatWordRead w s).shadow.report = s.shadow.report ∧
    (formatWordRead w s).tracker = s.tracker ∧ (formatWordRead w s).intake = s.intake ∧
    (formatWordRead w s).measure = s.measure ∧ (formatWordRead w s).optimizer = s.optimizer ∧
    (formatWordRead w s).skip = s.skip ∧ (formatWordRead w s).overrides = s.overrides ∧
    (formatWordRead w s).dispatch = s.dispatch ∧ (formatWordRead w s).tally = s.tally ∧
    (formatWordRead w s).lineGuard = s.lineGuard ∧ (formatWordRead w s).events = s.events ∧
    (formatWordRead w s).bus.mem = s.bus.mem ∧ (formatWordRead w s).bus.port = s.bus.port ∧
    (formatWordRead w s).bus.lastGrant = s.bus.lastGrant ∧ (formatWordRead w s).bus.nextTxn = s.bus.nextTxn ∧
    (formatWordRead w s).bus.answers = s.bus.answers ∧ (formatWordRead w s).pending = s.pending := by
  simp only [formatWordRead]
  repeat' split
  all_goals simp

@[simp] theorem setupRead_frame (ld : Load) (s : State) :
    (setupRead ld s).resetAsserted = s.resetAsserted ∧ (setupRead ld s).outputs = s.outputs ∧
    (setupRead ld s).shadow.phase = s.shadow.phase ∧ (setupRead ld s).tracker.lug = s.tracker.lug ∧
    (setupRead ld s).skip = s.skip ∧ (setupRead ld s).overrides.readback = s.overrides.readback ∧
    (setupRead ld s).overrides.waiting = s.overrides.waiting ∧ (setupRead ld s).overrides.sawMask = s.overrides.sawMask ∧
    (setupRead ld s).overrides.sawTimer = s.overrides.sawTimer ∧ (setupRead ld s).lineGuard.force = s.lineGuard.force ∧
    (setupRead ld s).bus.mem = s.bus.mem ∧ (setupRead ld s).bus.lastGrant = s.bus.lastGrant ∧
    (setupRead ld s).bus.nextTxn = s.bus.nextTxn ∧ (setupRead ld s).pending = s.pending := by
  simp only [setupRead]
  split <;> simp

@[simp] theorem takeEventHeader_frame (prod : Word) (cons : Word) (s : State) :
    (takeEventHeader prod cons s).inputs = s.inputs ∧ (takeEventHeader prod cons s).resetAsserted = s.resetAsserted ∧
    (takeEventHeader prod cons s).outputs = s.outputs ∧ (takeEventHeader prod cons s).shadow = s.shadow ∧
    (takeEventHeader prod cons s).tracker = s.tracker ∧ (takeEventHeader prod cons s).intake = s.intake ∧
    (takeEventHeader prod cons s).measure = s.measure ∧ (takeEventHeader prod cons s).optimizer = s.optimizer ∧
    (takeEventHeader prod cons s).skip = s.skip ∧ (takeEventHeader prod cons s).overrides = s.overrides ∧
    (takeEventHeader prod cons s).dispatch = s.dispatch ∧ (takeEventHeader prod cons s).tally = s.tally ∧
    (takeEventHeader prod cons s).lineGuard = s.lineGuard ∧ (takeEventHeader prod cons s).events.classes = s.events.classes ∧
    (takeEventHeader prod cons s).bus.mem = s.bus.mem ∧ (takeEventHeader prod cons s).bus.through = s.bus.through ∧
    (takeEventHeader prod cons s).bus.port = s.bus.port ∧ (takeEventHeader prod cons s).bus.lastGrant = s.bus.lastGrant ∧
    (takeEventHeader prod cons s).bus.nextTxn = s.bus.nextTxn ∧ (takeEventHeader prod cons s).bus.answers = s.bus.answers ∧
    (takeEventHeader prod cons s).pending = s.pending := by
  simp only [takeEventHeader]
  repeat' split
  all_goals simp

@[simp] theorem takeTallyHeader_frame (w : Word) (s : State) :
    (takeTallyHeader w s).inputs = s.inputs ∧ (takeTallyHeader w s).resetAsserted = s.resetAsserted ∧
    (takeTallyHeader w s).outputs = s.outputs ∧ (takeTallyHeader w s).shadow = s.shadow ∧
    (takeTallyHeader w s).tracker = s.tracker ∧ (takeTallyHeader w s).intake = s.intake ∧
    (takeTallyHeader w s).measure = s.measure ∧ (takeTallyHeader w s).optimizer = s.optimizer ∧
    (takeTallyHeader w s).skip = s.skip ∧ (takeTallyHeader w s).overrides = s.overrides ∧
    (takeTallyHeader w s).dispatch = s.dispatch ∧ (takeTallyHeader w s).lineGuard = s.lineGuard ∧
    (takeTallyHeader w s).events = s.events ∧ (takeTallyHeader w s).bus.mem = s.bus.mem ∧
    (takeTallyHeader w s).bus.through = s.bus.through ∧ (takeTallyHeader w s).bus.port = s.bus.port ∧
    (takeTallyHeader w s).bus.lastGrant = s.bus.lastGrant ∧ (takeTallyHeader w s).bus.nextTxn = s.bus.nextTxn ∧
    (takeTallyHeader w s).bus.answers = s.bus.answers ∧ (takeTallyHeader w s).pending = s.pending := by
  simp [takeTallyHeader]

@[simp] theorem headerReturned_frame (tally : Bool) (s : State) :
    (headerReturned tally s).resetAsserted = s.resetAsserted ∧ (headerReturned tally s).outputs = s.outputs ∧
    (headerReturned tally s).shadow.phase = s.shadow.phase ∧ (headerReturned tally s).tracker.lug = s.tracker.lug ∧
    (headerReturned tally s).skip = s.skip ∧ (headerReturned tally s).overrides.readback = s.overrides.readback ∧
    (headerReturned tally s).overrides.waiting = s.overrides.waiting ∧
    (headerReturned tally s).overrides.sawMask = s.overrides.sawMask ∧
    (headerReturned tally s).overrides.sawTimer = s.overrides.sawTimer ∧
    (headerReturned tally s).lineGuard.force = s.lineGuard.force ∧ (headerReturned tally s).bus.mem = s.bus.mem ∧
    (headerReturned tally s).bus.lastGrant = s.bus.lastGrant ∧ (headerReturned tally s).bus.nextTxn = s.bus.nextTxn ∧
    (headerReturned tally s).pending = s.pending := by
  unfold headerReturned
  split <;> simp

@[simp] theorem formatWordWritten_frame (s : State) :
    (formatWordWritten s).inputs = s.inputs ∧ (formatWordWritten s).resetAsserted = s.resetAsserted ∧
    (formatWordWritten s).outputs = s.outputs ∧ (formatWordWritten s).shadow.words = s.shadow.words ∧
    (formatWordWritten s).shadow.entries = s.shadow.entries ∧ (formatWordWritten s).shadow.report = s.shadow.report ∧
    (formatWordWritten s).shadow.held = s.shadow.held ∧ (formatWordWritten s).tracker.lug = s.tracker.lug ∧
    (formatWordWritten s).tracker.records = s.tracker.records ∧ (formatWordWritten s).tracker.everRan = s.tracker.everRan ∧
    (formatWordWritten s).intake = s.intake ∧ (formatWordWritten s).measure = s.measure ∧
    (formatWordWritten s).optimizer = s.optimizer ∧ (formatWordWritten s).skip = s.skip ∧
    (formatWordWritten s).overrides = s.overrides ∧ (formatWordWritten s).dispatch = s.dispatch ∧
    (formatWordWritten s).tally = s.tally ∧ (formatWordWritten s).lineGuard = s.lineGuard ∧
    (formatWordWritten s).bus.mem = s.bus.mem ∧ (formatWordWritten s).bus.through = s.bus.through ∧
    (formatWordWritten s).bus.lastGrant = s.bus.lastGrant ∧ (formatWordWritten s).bus.nextTxn = s.bus.nextTxn ∧
    (formatWordWritten s).bus.answers = s.bus.answers ∧ (formatWordWritten s).pending = s.pending := by
  unfold formatWordWritten
  split <;> simp

@[simp] theorem assertReset_frame (s : State) :
    (assertReset s).outputs = s.outputs ∧ (assertReset s).shadow.words = s.shadow.words ∧
    (assertReset s).shadow.entries = s.shadow.entries ∧ (assertReset s).shadow.report = s.shadow.report ∧
    (assertReset s).tracker = s.tracker ∧ (assertReset s).intake = s.intake ∧ (assertReset s).measure = s.measure ∧
    (assertReset s).optimizer = s.optimizer ∧ (assertReset s).skip = s.skip ∧ (assertReset s).overrides = s.overrides ∧
    (assertReset s).dispatch.counts = s.dispatch.counts ∧ (assertReset s).tally = s.tally ∧
    (assertReset s).lineGuard = s.lineGuard ∧ (assertReset s).events = s.events ∧ (assertReset s).bus.mem = s.bus.mem ∧
    (assertReset s).bus.lastGrant = s.bus.lastGrant ∧ (assertReset s).bus.nextTxn = s.bus.nextTxn ∧
    (assertReset s).pending = s.pending := by
  unfold assertReset
  split <;> simp

@[simp] theorem finishReset_frame (s : State) :
    (finishReset s).inputs = s.inputs ∧ (finishReset s).resetAsserted = s.resetAsserted ∧ (finishReset s).outputs = s.outputs ∧
    (finishReset s).shadow.words = s.shadow.words ∧ (finishReset s).shadow.entries = s.shadow.entries ∧
    (finishReset s).shadow.report = s.shadow.report ∧ (finishReset s).shadow.held = s.shadow.held ∧
    (finishReset s).tracker.lug = s.tracker.lug ∧ (finishReset s).tracker.records = s.tracker.records ∧
    (finishReset s).tracker.everRan = s.tracker.everRan ∧ (finishReset s).intake = s.intake ∧
    (finishReset s).measure = s.measure ∧ (finishReset s).optimizer = s.optimizer ∧ (finishReset s).skip = s.skip ∧
    (finishReset s).overrides = s.overrides ∧ (finishReset s).dispatch = s.dispatch ∧ (finishReset s).tally = s.tally ∧
    (finishReset s).lineGuard = s.lineGuard ∧ (finishReset s).bus.mem = s.bus.mem ∧ (finishReset s).bus.through = s.bus.through ∧
    (finishReset s).bus.lastGrant = s.bus.lastGrant ∧ (finishReset s).bus.nextTxn = s.bus.nextTxn ∧
    (finishReset s).bus.answers = s.bus.answers ∧ (finishReset s).pending = s.pending := by
  unfold finishReset
  split <;> simp

@[simp] theorem drainStep_frame (s : State) :
    (drainStep s).inputs = s.inputs ∧ (drainStep s).resetAsserted = s.resetAsserted ∧ (drainStep s).outputs = s.outputs ∧
    (drainStep s).shadow.words = s.shadow.words ∧ (drainStep s).shadow.entries = s.shadow.entries ∧
    (drainStep s).shadow.report = s.shadow.report ∧ (drainStep s).shadow.held = s.shadow.held ∧
    (drainStep s).tracker.lug = s.tracker.lug ∧ (drainStep s).tracker.records = s.tracker.records ∧
    (drainStep s).tracker.everRan = s.tracker.everRan ∧ (drainStep s).intake = s.intake ∧ (drainStep s).measure = s.measure ∧
    (drainStep s).optimizer = s.optimizer ∧ (drainStep s).skip = s.skip ∧ (drainStep s).overrides = s.overrides ∧
    (drainStep s).dispatch = s.dispatch ∧ (drainStep s).tally = s.tally ∧ (drainStep s).lineGuard = s.lineGuard ∧
    (drainStep s).bus.mem = s.bus.mem ∧ (drainStep s).bus.through = s.bus.through ∧
    (drainStep s).bus.lastGrant = s.bus.lastGrant ∧ (drainStep s).bus.nextTxn = s.bus.nextTxn ∧
    (drainStep s).bus.answers = s.bus.answers ∧ (drainStep s).pending = s.pending := by
  unfold drainStep
  split <;> simp

@[simp] theorem clearForReset_frame (m : Master) (s : State) :
    (clearForReset m s).inputs = s.inputs ∧ (clearForReset m s).resetAsserted = s.resetAsserted ∧
    (clearForReset m s).outputs = s.outputs ∧ (clearForReset m s).shadow.words = s.shadow.words ∧
    (clearForReset m s).shadow.entries = s.shadow.entries ∧ (clearForReset m s).shadow.load = s.shadow.load ∧
    (clearForReset m s).shadow.held = s.shadow.held ∧ (clearForReset m s).tracker.everRan = s.tracker.everRan ∧
    (clearForReset m s).tally.bank = s.tally.bank ∧ (clearForReset m s).tally.swap = s.tally.swap ∧
    (clearForReset m s).tally.saturated0 = s.tally.saturated0 ∧ (clearForReset m s).tally.saturated1 = s.tally.saturated1 ∧
    (clearForReset m s).tally.queue = s.tally.queue ∧ (clearForReset m s).tally.engine = s.tally.engine ∧
    (clearForReset m s).events = s.events ∧ (clearForReset m s).bus.mem = s.bus.mem ∧
    (clearForReset m s).bus.through = s.bus.through ∧ (clearForReset m s).bus.port = s.bus.port ∧
    (clearForReset m s).bus.lastGrant = s.bus.lastGrant ∧ (clearForReset m s).bus.nextTxn = s.bus.nextTxn ∧
    (clearForReset m s).pending = s.pending := by
  simp [clearForReset]

@[simp] theorem startLineReset_frame (m : Master) (s0 : State) :
    (startLineReset m s0).inputs = s0.inputs ∧ (startLineReset m s0).resetAsserted = s0.resetAsserted ∧
    (startLineReset m s0).outputs = s0.outputs ∧ (startLineReset m s0).shadow.words = s0.shadow.words ∧
    (startLineReset m s0).shadow.entries = s0.shadow.entries ∧ (startLineReset m s0).shadow.held = s0.shadow.held ∧
    (startLineReset m s0).tracker.everRan = s0.tracker.everRan ∧ (startLineReset m s0).tally.bank = s0.tally.bank ∧
    (startLineReset m s0).tally.swap = s0.tally.swap ∧ (startLineReset m s0).tally.saturated0 = s0.tally.saturated0 ∧
    (startLineReset m s0).tally.saturated1 = s0.tally.saturated1 ∧ (startLineReset m s0).tally.queue = s0.tally.queue ∧
    (startLineReset m s0).bus.mem = s0.bus.mem ∧ (startLineReset m s0).bus.through = s0.bus.through ∧
    (startLineReset m s0).bus.lastGrant = s0.bus.lastGrant ∧ (startLineReset m s0).bus.nextTxn = s0.bus.nextTxn ∧
    (startLineReset m s0).pending = s0.pending := by
  simp only [startLineReset]
  split <;> simp

end Sys2Proof.Machine
end

