-- ==== Sys2Proof/Laws/Port.lean ====
section
/-! SUPPORT. Frames of completions at the memory port: for each operation, every field of State that
it leaves as it was. Proofs cite these and never unfold an operation to learn what it does not touch. -/

namespace Sys2Proof.Machine

@[simp] theorem writeLanded_frame (txn : Nat) (s : State) :
    (writeLanded txn s).inputs = s.inputs ∧ (writeLanded txn s).resetAsserted = s.resetAsserted ∧
    (writeLanded txn s).outputs = s.outputs ∧ (writeLanded txn s).shadow = s.shadow ∧ (writeLanded txn s).tracker = s.tracker ∧
    (writeLanded txn s).intake.tables = s.intake.tables ∧ (writeLanded txn s).intake.engine = s.intake.engine ∧
    (writeLanded txn s).measure = s.measure ∧ (writeLanded txn s).optimizer = s.optimizer ∧ (writeLanded txn s).skip = s.skip ∧
    (writeLanded txn s).overrides.readback = s.overrides.readback ∧ (writeLanded txn s).overrides.waiting = s.overrides.waiting ∧
    (writeLanded txn s).overrides.trimEntries = s.overrides.trimEntries ∧
    (writeLanded txn s).overrides.sawMask = s.overrides.sawMask ∧ (writeLanded txn s).overrides.sawTimer = s.overrides.sawTimer ∧
    (writeLanded txn s).dispatch = s.dispatch ∧ (writeLanded txn s).tally = s.tally ∧
    (writeLanded txn s).lineGuard = s.lineGuard ∧ (writeLanded txn s).events = s.events ∧ (writeLanded txn s).bus = s.bus ∧
    (writeLanded txn s).pending = s.pending := by
  simp [writeLanded]

@[simp] theorem chassisDone_frame (txn : Nat) (m : Master) (format : Bool) (reply : Reply) (s : State) :
    (chassisDone txn m format reply s).inputs = s.inputs ∧ (chassisDone txn m format reply s).resetAsserted = s.resetAsserted ∧
    (chassisDone txn m format reply s).outputs = s.outputs ∧ (chassisDone txn m format reply s).shadow.words = s.shadow.words ∧
    (chassisDone txn m format reply s).shadow.entries = s.shadow.entries ∧
    (chassisDone txn m format reply s).shadow.report = s.shadow.report ∧
    (chassisDone txn m format reply s).shadow.held = s.shadow.held ∧
    (chassisDone txn m format reply s).tracker.lug = s.tracker.lug ∧
    (chassisDone txn m format reply s).tracker.records = s.tracker.records ∧
    (chassisDone txn m format reply s).tracker.everRan = s.tracker.everRan ∧
    (chassisDone txn m format reply s).intake.tables = s.intake.tables ∧
    (chassisDone txn m format reply s).intake.engine = s.intake.engine ∧ (chassisDone txn m format reply s).measure = s.measure ∧
    (chassisDone txn m format reply s).optimizer = s.optimizer ∧ (chassisDone txn m format reply s).skip = s.skip ∧
    (chassisDone txn m format reply s).overrides.readback = s.overrides.readback ∧
    (chassisDone txn m format reply s).overrides.waiting = s.overrides.waiting ∧
    (chassisDone txn m format reply s).overrides.trimEntries = s.overrides.trimEntries ∧
    (chassisDone txn m format reply s).overrides.sawMask = s.overrides.sawMask ∧
    (chassisDone txn m format reply s).overrides.sawTimer = s.overrides.sawTimer ∧
    (chassisDone txn m format reply s).dispatch = s.dispatch ∧ (chassisDone txn m format reply s).tally = s.tally ∧
    (chassisDone txn m format reply s).lineGuard = s.lineGuard ∧ (chassisDone txn m format reply s).bus.mem = s.bus.mem ∧
    (chassisDone txn m format reply s).bus.through = s.bus.through ∧
    (chassisDone txn m format reply s).bus.lastGrant = s.bus.lastGrant ∧
    (chassisDone txn m format reply s).bus.nextTxn = s.bus.nextTxn ∧ (chassisDone txn m format reply s).pending = s.pending := by
  unfold chassisDone
  split <;> simp

@[simp] theorem mirrorClosed_frame (k : Nat) (s : State) :
    (mirrorClosed k s).inputs = s.inputs ∧ (mirrorClosed k s).resetAsserted = s.resetAsserted ∧
    (mirrorClosed k s).outputs = s.outputs ∧ (mirrorClosed k s).shadow.words = s.shadow.words ∧
    (mirrorClosed k s).shadow.entries = s.shadow.entries ∧ (mirrorClosed k s).shadow.report = s.shadow.report ∧
    (mirrorClosed k s).shadow.held = s.shadow.held ∧ (mirrorClosed k s).tracker.lug = s.tracker.lug ∧
    (mirrorClosed k s).tracker.records = s.tracker.records ∧ (mirrorClosed k s).tracker.everRan = s.tracker.everRan ∧
    (mirrorClosed k s).intake = s.intake ∧ (mirrorClosed k s).measure = s.measure ∧ (mirrorClosed k s).optimizer = s.optimizer ∧
    (mirrorClosed k s).skip = s.skip ∧ (mirrorClosed k s).overrides = s.overrides ∧ (mirrorClosed k s).dispatch = s.dispatch ∧
    (mirrorClosed k s).tally = s.tally ∧ (mirrorClosed k s).lineGuard = s.lineGuard ∧ (mirrorClosed k s).bus.mem = s.bus.mem ∧
    (mirrorClosed k s).bus.through = s.bus.through ∧ (mirrorClosed k s).bus.lastGrant = s.bus.lastGrant ∧
    (mirrorClosed k s).bus.nextTxn = s.bus.nextTxn ∧ (mirrorClosed k s).bus.answers = s.bus.answers ∧
    (mirrorClosed k s).pending = s.pending := by
  simp only [mirrorClosed]
  repeat' split
  all_goals simp

@[simp] theorem loadSetupRead_frame (last : Bool) (words : List Word) (s : State) :
    (loadSetupRead last words s).resetAsserted = s.resetAsserted ∧ (loadSetupRead last words s).outputs = s.outputs ∧
    (loadSetupRead last words s).shadow.phase = s.shadow.phase ∧ (loadSetupRead last words s).tracker.lug = s.tracker.lug ∧
    (loadSetupRead last words s).skip = s.skip ∧ (loadSetupRead last words s).overrides.readback = s.overrides.readback ∧
    (loadSetupRead last words s).overrides.waiting = s.overrides.waiting ∧
    (loadSetupRead last words s).overrides.sawMask = s.overrides.sawMask ∧
    (loadSetupRead last words s).overrides.sawTimer = s.overrides.sawTimer ∧
    (loadSetupRead last words s).lineGuard.force = s.lineGuard.force ∧ (loadSetupRead last words s).bus.mem = s.bus.mem ∧
    (loadSetupRead last words s).bus.lastGrant = s.bus.lastGrant ∧ (loadSetupRead last words s).bus.nextTxn = s.bus.nextTxn ∧
    (loadSetupRead last words s).pending = s.pending := by
  simp only [loadSetupRead]
  repeat' split
  all_goals simp

@[simp] theorem eventHeaderRead_frame (prod : Word) (cons : Word) (s : State) :
    (eventHeaderRead prod cons s).resetAsserted = s.resetAsserted ∧ (eventHeaderRead prod cons s).outputs = s.outputs ∧
    (eventHeaderRead prod cons s).shadow.phase = s.shadow.phase ∧ (eventHeaderRead prod cons s).tracker.lug = s.tracker.lug ∧
    (eventHeaderRead prod cons s).skip = s.skip ∧ (eventHeaderRead prod cons s).overrides.readback = s.overrides.readback ∧
    (eventHeaderRead prod cons s).overrides.waiting = s.overrides.waiting ∧
    (eventHeaderRead prod cons s).overrides.sawMask = s.overrides.sawMask ∧
    (eventHeaderRead prod cons s).overrides.sawTimer = s.overrides.sawTimer ∧
    (eventHeaderRead prod cons s).lineGuard.force = s.lineGuard.force ∧ (eventHeaderRead prod cons s).bus.mem = s.bus.mem ∧
    (eventHeaderRead prod cons s).bus.lastGrant = s.bus.lastGrant ∧ (eventHeaderRead prod cons s).bus.nextTxn = s.bus.nextTxn ∧
    (eventHeaderRead prod cons s).pending = s.pending := by
  unfold eventHeaderRead
  split <;> simp

@[simp] theorem tallyHeaderRead_frame (w : Word) (s : State) :
    (tallyHeaderRead w s).resetAsserted = s.resetAsserted ∧ (tallyHeaderRead w s).outputs = s.outputs ∧
    (tallyHeaderRead w s).shadow.phase = s.shadow.phase ∧ (tallyHeaderRead w s).tracker.lug = s.tracker.lug ∧
    (tallyHeaderRead w s).skip = s.skip ∧ (tallyHeaderRead w s).overrides.readback = s.overrides.readback ∧
    (tallyHeaderRead w s).overrides.waiting = s.overrides.waiting ∧
    (tallyHeaderRead w s).overrides.sawMask = s.overrides.sawMask ∧
    (tallyHeaderRead w s).overrides.sawTimer = s.overrides.sawTimer ∧ (tallyHeaderRead w s).lineGuard.force = s.lineGuard.force ∧
    (tallyHeaderRead w s).bus.mem = s.bus.mem ∧ (tallyHeaderRead w s).bus.lastGrant = s.bus.lastGrant ∧
    (tallyHeaderRead w s).bus.nextTxn = s.bus.nextTxn ∧ (tallyHeaderRead w s).pending = s.pending := by
  unfold tallyHeaderRead
  split <;> simp

@[simp] theorem lineResetDone_frame (s : State) :
    (lineResetDone s).inputs = s.inputs ∧ (lineResetDone s).resetAsserted = s.resetAsserted ∧
    (lineResetDone s).outputs = s.outputs ∧ (lineResetDone s).shadow.words = s.shadow.words ∧
    (lineResetDone s).shadow.entries = s.shadow.entries ∧ (lineResetDone s).shadow.held = s.shadow.held ∧
    (lineResetDone s).tracker.everRan = s.tracker.everRan ∧ (lineResetDone s).tally.bank = s.tally.bank ∧
    (lineResetDone s).tally.swap = s.tally.swap ∧ (lineResetDone s).tally.saturated0 = s.tally.saturated0 ∧
    (lineResetDone s).tally.saturated1 = s.tally.saturated1 ∧ (lineResetDone s).tally.queue = s.tally.queue ∧
    (lineResetDone s).bus.mem = s.bus.mem ∧ (lineResetDone s).bus.through = s.bus.through ∧
    (lineResetDone s).bus.lastGrant = s.bus.lastGrant ∧ (lineResetDone s).bus.nextTxn = s.bus.nextTxn ∧
    (lineResetDone s).pending = s.pending := by
  unfold lineResetDone
  split <;> simp

@[simp] theorem setEngine_frame (e : IntakeRun) (s : State) :
    (setEngine e s).inputs = s.inputs ∧ (setEngine e s).resetAsserted = s.resetAsserted ∧ (setEngine e s).outputs = s.outputs ∧
    (setEngine e s).shadow = s.shadow ∧ (setEngine e s).tracker = s.tracker ∧ (setEngine e s).intake.tables = s.intake.tables ∧
    (setEngine e s).intake.queue = s.intake.queue ∧ (setEngine e s).measure = s.measure ∧
    (setEngine e s).optimizer = s.optimizer ∧ (setEngine e s).skip = s.skip ∧ (setEngine e s).overrides = s.overrides ∧
    (setEngine e s).dispatch = s.dispatch ∧ (setEngine e s).tally = s.tally ∧ (setEngine e s).lineGuard = s.lineGuard ∧
    (setEngine e s).events = s.events ∧ (setEngine e s).bus = s.bus ∧ (setEngine e s).pending = s.pending := by
  simp [setEngine]

@[simp] theorem frameHeadRead_frame (header : Word) (lugWord : Word) (s : State) :
    (frameHeadRead header lugWord s).inputs = s.inputs ∧ (frameHeadRead header lugWord s).resetAsserted = s.resetAsserted ∧
    (frameHeadRead header lugWord s).outputs = s.outputs ∧ (frameHeadRead header lugWord s).shadow = s.shadow ∧
    (frameHeadRead header lugWord s).tracker = s.tracker ∧ (frameHeadRead header lugWord s).intake.tables = s.intake.tables ∧
    (frameHeadRead header lugWord s).intake.queue = s.intake.queue ∧ (frameHeadRead header lugWord s).measure = s.measure ∧
    (frameHeadRead header lugWord s).optimizer = s.optimizer ∧ (frameHeadRead header lugWord s).skip = s.skip ∧
    (frameHeadRead header lugWord s).overrides = s.overrides ∧ (frameHeadRead header lugWord s).dispatch = s.dispatch ∧
    (frameHeadRead header lugWord s).tally = s.tally ∧ (frameHeadRead header lugWord s).lineGuard = s.lineGuard ∧
    (frameHeadRead header lugWord s).events = s.events ∧ (frameHeadRead header lugWord s).bus = s.bus ∧
    (frameHeadRead header lugWord s).pending = s.pending := by
  unfold frameHeadRead
  split <;> simp

@[simp] theorem frameTrailerRead_frame (trailer : Word) (s : State) :
    (frameTrailerRead trailer s).inputs = s.inputs ∧ (frameTrailerRead trailer s).resetAsserted = s.resetAsserted ∧
    (frameTrailerRead trailer s).outputs = s.outputs ∧ (frameTrailerRead trailer s).shadow = s.shadow ∧
    (frameTrailerRead trailer s).tracker.lug = s.tracker.lug ∧ (frameTrailerRead trailer s).tracker.everRan = s.tracker.everRan ∧
    (frameTrailerRead trailer s).skip = s.skip ∧ (frameTrailerRead trailer s).overrides = s.overrides ∧
    (frameTrailerRead trailer s).dispatch = s.dispatch ∧ (frameTrailerRead trailer s).tally.bank = s.tally.bank ∧
    (frameTrailerRead trailer s).tally.swap = s.tally.swap ∧ (frameTrailerRead trailer s).tally.saturated0 = s.tally.saturated0 ∧
    (frameTrailerRead trailer s).tally.saturated1 = s.tally.saturated1 ∧
    (frameTrailerRead trailer s).tally.queue = s.tally.queue ∧ (frameTrailerRead trailer s).tally.kept = s.tally.kept ∧
    (frameTrailerRead trailer s).lineGuard.force = s.lineGuard.force ∧ (frameTrailerRead trailer s).bus.mem = s.bus.mem ∧
    (frameTrailerRead trailer s).bus.through = s.bus.through ∧ (frameTrailerRead trailer s).bus.port = s.bus.port ∧
    (frameTrailerRead trailer s).bus.lastGrant = s.bus.lastGrant ∧ (frameTrailerRead trailer s).bus.nextTxn = s.bus.nextTxn ∧
    (frameTrailerRead trailer s).bus.answers = s.bus.answers ∧ (frameTrailerRead trailer s).pending = s.pending := by
  simp only [frameTrailerRead]
  repeat' split
  all_goals simp

@[simp] theorem frameSlicesRead_frame (last : Bool) (words : List Word) (s : State) :
    (frameSlicesRead last words s).inputs = s.inputs ∧ (frameSlicesRead last words s).resetAsserted = s.resetAsserted ∧
    (frameSlicesRead last words s).outputs = s.outputs ∧ (frameSlicesRead last words s).shadow = s.shadow ∧
    (frameSlicesRead last words s).tracker.lug = s.tracker.lug ∧
    (frameSlicesRead last words s).tracker.everRan = s.tracker.everRan ∧ (frameSlicesRead last words s).skip = s.skip ∧
    (frameSlicesRead last words s).overrides = s.overrides ∧ (frameSlicesRead last words s).dispatch = s.dispatch ∧
    (frameSlicesRead last words s).tally.bank = s.tally.bank ∧ (frameSlicesRead last words s).tally.swap = s.tally.swap ∧
    (frameSlicesRead last words s).tally.saturated0 = s.tally.saturated0 ∧
    (frameSlicesRead last words s).tally.saturated1 = s.tally.saturated1 ∧
    (frameSlicesRead last words s).tally.queue = s.tally.queue ∧ (frameSlicesRead last words s).tally.kept = s.tally.kept ∧
    (frameSlicesRead last words s).lineGuard.force = s.lineGuard.force ∧ (frameSlicesRead last words s).bus.mem = s.bus.mem ∧
    (frameSlicesRead last words s).bus.through = s.bus.through ∧ (frameSlicesRead last words s).bus.port = s.bus.port ∧
    (frameSlicesRead last words s).bus.lastGrant = s.bus.lastGrant ∧ (frameSlicesRead last words s).bus.nextTxn = s.bus.nextTxn ∧
    (frameSlicesRead last words s).bus.answers = s.bus.answers ∧ (frameSlicesRead last words s).pending = s.pending := by
  simp only [frameSlicesRead]
  repeat' split
  all_goals simp

@[simp] theorem markSaturated_frame (u : TallyUpdate) (values : List Word) (s : State) :
    (markSaturated u values s).inputs = s.inputs ∧ (markSaturated u values s).resetAsserted = s.resetAsserted ∧
    (markSaturated u values s).outputs = s.outputs ∧ (markSaturated u values s).shadow = s.shadow ∧
    (markSaturated u values s).tracker = s.tracker ∧ (markSaturated u values s).intake = s.intake ∧
    (markSaturated u values s).measure = s.measure ∧ (markSaturated u values s).optimizer = s.optimizer ∧
    (markSaturated u values s).skip = s.skip ∧ (markSaturated u values s).overrides = s.overrides ∧
    (markSaturated u values s).dispatch = s.dispatch ∧ (markSaturated u values s).lineGuard = s.lineGuard ∧
    (markSaturated u values s).bus.mem = s.bus.mem ∧ (markSaturated u values s).bus.through = s.bus.through ∧
    (markSaturated u values s).bus.port = s.bus.port ∧ (markSaturated u values s).bus.lastGrant = s.bus.lastGrant ∧
    (markSaturated u values s).bus.nextTxn = s.bus.nextTxn ∧ (markSaturated u values s).bus.answers = s.bus.answers ∧
    (markSaturated u values s).pending = s.pending := by
  simp only [markSaturated]
  repeat' split
  all_goals simp

@[simp] theorem tallyReadsDone_frame (s : State) :
    (tallyReadsDone s).inputs = s.inputs ∧ (tallyReadsDone s).resetAsserted = s.resetAsserted ∧
    (tallyReadsDone s).outputs = s.outputs ∧ (tallyReadsDone s).shadow = s.shadow ∧ (tallyReadsDone s).tracker = s.tracker ∧
    (tallyReadsDone s).intake = s.intake ∧ (tallyReadsDone s).measure = s.measure ∧ (tallyReadsDone s).optimizer = s.optimizer ∧
    (tallyReadsDone s).skip = s.skip ∧ (tallyReadsDone s).overrides = s.overrides ∧ (tallyReadsDone s).dispatch = s.dispatch ∧
    (tallyReadsDone s).lineGuard = s.lineGuard ∧ (tallyReadsDone s).bus.mem = s.bus.mem ∧
    (tallyReadsDone s).bus.through = s.bus.through ∧ (tallyReadsDone s).bus.port = s.bus.port ∧
    (tallyReadsDone s).bus.lastGrant = s.bus.lastGrant ∧ (tallyReadsDone s).bus.nextTxn = s.bus.nextTxn ∧
    (tallyReadsDone s).bus.answers = s.bus.answers ∧ (tallyReadsDone s).pending = s.pending := by
  unfold tallyReadsDone
  split <;> simp

@[simp] theorem tallyRead_frame (last : Bool) (words : List Word) (s : State) :
    (tallyRead last words s).inputs = s.inputs ∧ (tallyRead last words s).resetAsserted = s.resetAsserted ∧
    (tallyRead last words s).outputs = s.outputs ∧ (tallyRead last words s).shadow = s.shadow ∧
    (tallyRead last words s).tracker = s.tracker ∧ (tallyRead last words s).intake = s.intake ∧
    (tallyRead last words s).measure = s.measure ∧ (tallyRead last words s).optimizer = s.optimizer ∧
    (tallyRead last words s).skip = s.skip ∧ (tallyRead last words s).overrides = s.overrides ∧
    (tallyRead last words s).dispatch = s.dispatch ∧ (tallyRead last words s).lineGuard = s.lineGuard ∧
    (tallyRead last words s).bus.mem = s.bus.mem ∧ (tallyRead last words s).bus.through = s.bus.through ∧
    (tallyRead last words s).bus.port = s.bus.port ∧ (tallyRead last words s).bus.lastGrant = s.bus.lastGrant ∧
    (tallyRead last words s).bus.nextTxn = s.bus.nextTxn ∧ (tallyRead last words s).bus.answers = s.bus.answers ∧
    (tallyRead last words s).pending = s.pending := by
  simp only [tallyRead]
  repeat' split
  all_goals simp

@[simp] theorem tallyUpdateDone_frame (s0 : State) :
    (tallyUpdateDone s0).inputs = s0.inputs ∧ (tallyUpdateDone s0).resetAsserted = s0.resetAsserted ∧
    (tallyUpdateDone s0).outputs = s0.outputs ∧ (tallyUpdateDone s0).shadow.words = s0.shadow.words ∧
    (tallyUpdateDone s0).shadow.entries = s0.shadow.entries ∧ (tallyUpdateDone s0).shadow.report = s0.shadow.report ∧
    (tallyUpdateDone s0).shadow.held = s0.shadow.held ∧ (tallyUpdateDone s0).tracker.lug = s0.tracker.lug ∧
    (tallyUpdateDone s0).tracker.everRan = s0.tracker.everRan ∧ (tallyUpdateDone s0).skip = s0.skip ∧
    (tallyUpdateDone s0).overrides.fifo = s0.overrides.fifo ∧ (tallyUpdateDone s0).overrides.readback = s0.overrides.readback ∧
    (tallyUpdateDone s0).overrides.waiting = s0.overrides.waiting ∧
    (tallyUpdateDone s0).overrides.sawMask = s0.overrides.sawMask ∧
    (tallyUpdateDone s0).overrides.sawTimer = s0.overrides.sawTimer ∧ (tallyUpdateDone s0).tally.bank = s0.tally.bank ∧
    (tallyUpdateDone s0).tally.saturated0 = s0.tally.saturated0 ∧ (tallyUpdateDone s0).tally.saturated1 = s0.tally.saturated1 ∧
    (tallyUpdateDone s0).tally.kept = s0.tally.kept ∧ (tallyUpdateDone s0).lineGuard.force = s0.lineGuard.force ∧
    (tallyUpdateDone s0).bus.mem = s0.bus.mem ∧ (tallyUpdateDone s0).bus.through = s0.bus.through ∧
    (tallyUpdateDone s0).bus.lastGrant = s0.bus.lastGrant ∧ (tallyUpdateDone s0).bus.nextTxn = s0.bus.nextTxn ∧
    (tallyUpdateDone s0).pending = s0.pending := by
  simp only [tallyUpdateDone]
  repeat' split
  all_goals simp

@[simp] theorem zeroingWritten_frame (i : Nat) (s0 : State) :
    (zeroingWritten i s0).inputs = s0.inputs ∧ (zeroingWritten i s0).resetAsserted = s0.resetAsserted ∧
    (zeroingWritten i s0).outputs = s0.outputs ∧ (zeroingWritten i s0).shadow.words = s0.shadow.words ∧
    (zeroingWritten i s0).shadow.entries = s0.shadow.entries ∧ (zeroingWritten i s0).shadow.report = s0.shadow.report ∧
    (zeroingWritten i s0).shadow.held = s0.shadow.held ∧ (zeroingWritten i s0).tracker.lug = s0.tracker.lug ∧
    (zeroingWritten i s0).tracker.everRan = s0.tracker.everRan ∧ (zeroingWritten i s0).intake = s0.intake ∧
    (zeroingWritten i s0).measure = s0.measure ∧ (zeroingWritten i s0).skip = s0.skip ∧
    (zeroingWritten i s0).overrides = s0.overrides ∧ (zeroingWritten i s0).dispatch = s0.dispatch ∧
    (zeroingWritten i s0).tally.bank = s0.tally.bank ∧ (zeroingWritten i s0).tally.saturated0 = s0.tally.saturated0 ∧
    (zeroingWritten i s0).tally.saturated1 = s0.tally.saturated1 ∧ (zeroingWritten i s0).tally.queue = s0.tally.queue ∧
    (zeroingWritten i s0).tally.kept = s0.tally.kept ∧ (zeroingWritten i s0).lineGuard = s0.lineGuard ∧
    (zeroingWritten i s0).bus.mem = s0.bus.mem ∧ (zeroingWritten i s0).bus.through = s0.bus.through ∧
    (zeroingWritten i s0).bus.lastGrant = s0.bus.lastGrant ∧ (zeroingWritten i s0).bus.nextTxn = s0.bus.nextTxn ∧
    (zeroingWritten i s0).bus.answers = s0.bus.answers ∧ (zeroingWritten i s0).pending = s0.pending := by
  simp only [zeroingWritten]
  repeat' split
  all_goals simp

@[simp] theorem afterBurst_frame (b : Burst) (words : List Word) (s : State) :
    (afterBurst b words s).resetAsserted = s.resetAsserted ∧ (afterBurst b words s).outputs = s.outputs ∧
    (afterBurst b words s).bus.mem = s.bus.mem ∧ (afterBurst b words s).bus.lastGrant = s.bus.lastGrant ∧
    (afterBurst b words s).bus.nextTxn = s.bus.nextTxn ∧ (afterBurst b words s).pending = s.pending := by
  simp only [afterBurst]
  repeat' split
  all_goals simp

@[simp] theorem landBurst_frame (b : Burst) (s : State) :
    (landBurst b s).inputs = s.inputs ∧ (landBurst b s).resetAsserted = s.resetAsserted ∧ (landBurst b s).outputs = s.outputs ∧
    (landBurst b s).shadow = s.shadow ∧ (landBurst b s).tracker = s.tracker ∧ (landBurst b s).intake = s.intake ∧
    (landBurst b s).measure = s.measure ∧ (landBurst b s).optimizer = s.optimizer ∧ (landBurst b s).skip = s.skip ∧
    (landBurst b s).overrides = s.overrides ∧ (landBurst b s).dispatch = s.dispatch ∧ (landBurst b s).tally = s.tally ∧
    (landBurst b s).lineGuard = s.lineGuard ∧ (landBurst b s).events = s.events ∧ (landBurst b s).bus.through = s.bus.through ∧
    (landBurst b s).bus.internal = s.bus.internal ∧ (landBurst b s).bus.lastGrant = s.bus.lastGrant ∧
    (landBurst b s).bus.nextTxn = s.bus.nextTxn ∧ (landBurst b s).bus.answers = s.bus.answers ∧
    (landBurst b s).pending = s.pending := by
  simp [landBurst]

@[simp] theorem completePort_frame (s : State) :
    (completePort s).resetAsserted = s.resetAsserted ∧ (completePort s).outputs = s.outputs ∧
    (completePort s).bus.lastGrant = s.bus.lastGrant ∧ (completePort s).bus.nextTxn = s.bus.nextTxn ∧
    (completePort s).pending = s.pending := by
  unfold completePort
  split <;> simp

end Sys2Proof.Machine
end

