-- ==== Sys2Proof/Laws/Values.lean ====
section
/-! SUPPORT. Values: what the shared operations make of the fields that they do change. The frame lemmas of the other files of this folder
say what an operation leaves alone; these say what a record, an area, a frame slot, the decision queue, the internal stream and
the pending flags hold after it, and into what an arriving transaction runs. -/

namespace Sys2Proof.Machine

/-! ### Records -/

theorem record_setRecord (s : State) (k j : Nat) (r : Record) (hk : k < s.tracker.records.length) :
    (s.setRecord k r).record j = if j = k then r else s.record j := by
  simp only [State.record, State.setRecord, List.getD_eq_getElem?_getD, List.getElem?_set]
  by_cases h : k = j
  · subst h; simp [hk]
  · simp [h, Ne.symm h]

theorem record_of_records {s t : State} (h : t.tracker.records = s.tracker.records) (k : Nat) : t.record k = s.record k := by
  simp [State.record, h]

/-- A slot that is not FREE is one of the 32. -/
theorem slot_of_not_free {s : State} (hs : s.Sized) {k : Nat} (h : (s.record k).state ≠ .free) : k < 32 := by
  refine Decidable.byContradiction fun hc => h ?_
  have : s.tracker.records[k]? = none := List.getElem?_eq_none (by rw [hs.records]; show 32 ≤ k; omega)
  simp [State.record, List.getD_eq_getElem?_getD, this, Record.blank]

theorem queueAgrees_congr {s t : State} (h1 : t.optimizer.queue = s.optimizer.queue) (h2 : ∀ k, t.record k = s.record k)
    (h : s.QueueAgrees) : t.QueueAgrees := by
  unfold State.QueueAgrees; simp only [h1, h2]; exact h

/-! ### The idle optimizer at the end of a change -/

/-- R89: the idle optimizer leaves a record alone, or makes a QUEUED one OPTIMIZING. -/
theorem startOptimizer_record {s : State} (hs : s.tracker.records.length = Config.recordSlots) (hq : s.QueueAgrees) (k : Nat) :
    (startOptimizer s).record k = s.record k ∨
      ((s.record k).state = .queued ∧ (startOptimizer s).record k = { s.record k with state := .optimizing }) := by
  unfold startOptimizer
  split
  · rename_i e rest h1 h2 h3
    have he := hq.2 e (by simp [h3])
    have hk := record_setRecord s e.slot k { s.record e.slot with state := .optimizing } (by rw [hs]; exact he.1)
    by_cases hke : k = e.slot
    · right; subst hke
      refine ⟨he.2, ?_⟩
      simpa [State.record] using hk
    · left; rw [if_neg hke] at hk; simpa [State.record] using hk
  · exact .inl rfl

theorem startOptimizer_queue_sub (s : State) : ∀ e ∈ (startOptimizer s).optimizer.queue, e ∈ s.optimizer.queue := by
  unfold startOptimizer
  split
  · rename_i e rest h1 h2 h3
    intro x hx; simp at hx; simp [h3, hx]
  · exact fun e h => h

/-- R89, R63: a start reads the part state, the queue and the run, the records and the setup words, and nothing else. -/
theorem startOptimizer_congr {s t : State} (h1 : s.shadow = t.shadow) (h2 : s.optimizer = t.optimizer)
    (h3 : s.tracker.records = t.tracker.records) : (startOptimizer s).tracker.records = (startOptimizer t).tracker.records ∧
      (startOptimizer s).optimizer = (startOptimizer t).optimizer := by
  unfold startOptimizer
  simp only [h1, h2]
  split <;> simp [State.setRecord, State.record, h1, h2, h3]

theorem settle_records (s0 s1 : State) : (settle s0 s1).tracker.records = (startOptimizer s1).tracker.records := by
  simp only [settle, startRun, publish_frame]
  exact (startOptimizer_congr (by simp) (by simp) (by simp)).1

theorem settle_optimizer (s0 s1 : State) : (settle s0 s1).optimizer = (startOptimizer s1).optimizer := by
  simp only [settle, startRun, publish_frame]
  exact (startOptimizer_congr (by simp) (by simp) (by simp)).2

theorem settle_record (s0 s1 : State) (k : Nat) : (settle s0 s1).record k = (startOptimizer s1).record k :=
  record_of_records (settle_records s0 s1) k

theorem settle_record_kept {s0 s : State} (hs : s.tracker.records.length = Config.recordSlots) (hq : s.QueueAgrees) (k : Nat)
    (h : (s.record k).state ≠ .queued) : (settle s0 s).record k = s.record k := by
  rw [settle_record]
  rcases startOptimizer_record hs hq k with h' | h'
  · exact h'
  · exact absurd h'.1 h

theorem settle_record_queued {s0 s : State} (hs : s.tracker.records.length = Config.recordSlots) (hq : s.QueueAgrees) (k : Nat)
    (h : (s.record k).state = .queued) :
    ∃ st, (st = .queued ∨ st = .optimizing) ∧ (settle s0 s).record k = { s.record k with state := st } := by
  rw [settle_record]
  rcases startOptimizer_record hs hq k with h' | h'
  · exact ⟨.queued, .inl rfl, by rw [h']; cases hr : s.record k; simp_all⟩
  · exact ⟨_, .inr rfl, h'.2⟩

/-- A change that wrote record `k` of `s` only, and took entries off the decision queue only, then settled: every other record but a QUEUED
one is as before, and record `k` holds what was written, but for the state of a QUEUED one that the idle optimizer takes. -/
theorem settle_after_record {s0 s y : State} {k : Nat} {r : Record} (hl : s.tracker.records.length = 32) (hk : k < 32)
    (h : s.QueueAgrees) (hy : y.tracker.records = (s.setRecord k r).tracker.records) (hyq : y.optimizer.queue.Sublist s.optimizer.queue)
    (hno : ∀ e ∈ y.optimizer.queue, e.slot = k → r.state = .queued) :
    y.QueueAgrees ∧ othersKept s (settle s0 y) k ∧ (r.state ≠ .queued → (settle s0 y).record k = r) ∧
      ∃ st, (st = .queued ∨ st = .optimizing ∨ st = r.state) ∧ (settle s0 y).record k = { r with state := st } := by
  have hr : ∀ i, y.record i = (s.setRecord k r).record i := fun i => record_of_records hy i
  have hset : ∀ i, (s.setRecord k r).record i = if i = k then r else s.record i := fun i =>
    record_setRecord s k i r (by rw [hl]; exact hk)
  have hyl : y.tracker.records.length = Config.recordSlots := by rw [hy]; simp [State.setRecord]; exact hl
  have hyq' : y.QueueAgrees := by
    refine ⟨(hyq.map _).nodup h.1, fun e he => ⟨(h.2 e (hyq.subset he)).1, ?_⟩⟩
    rw [hr, hset]; split
    · rename_i hek; exact hno e he hek
    · exact (h.2 e (hyq.subset he)).2
  refine ⟨hyq', ?_, ?_, ?_⟩
  · intro i hi hik hiq
    rw [settle_record_kept hyl hyq' _ (by rw [hr, hset, if_neg hik]; exact hiq), hr, hset, if_neg hik]
  · intro h2
    rw [settle_record_kept hyl hyq' _ (by rw [hr, hset, if_pos rfl]; exact h2), hr, hset, if_pos rfl]
  · by_cases h2 : r.state = .queued
    · obtain ⟨st, hst, he⟩ := settle_record_queued (s0 := s0) hyl hyq' k (by rw [hr, hset, if_pos rfl]; exact h2)
      refine ⟨st, hst.elim Or.inl fun h => Or.inr (Or.inl h), ?_⟩
      rw [he, hr, hset, if_pos rfl]
    · refine ⟨r.state, by simp, ?_⟩
      rw [settle_record_kept hyl hyq' _ (by rw [hr, hset, if_pos rfl]; exact h2), hr, hset, if_pos rfl]

/-- A change that wrote no record and left the decision queue alone, then settled. -/
theorem settle_after_none {s0 s y : State} (hl : s.tracker.records.length = 32) (h : s.QueueAgrees)
    (hy : y.tracker.records = s.tracker.records) (hyq : y.optimizer.queue = s.optimizer.queue) (i : Nat)
    (hi : (s.record i).state ≠ .queued) : (settle s0 y).record i = s.record i := by
  have hr : ∀ i, y.record i = s.record i := fun i => record_of_records hy i
  rw [settle_record_kept (by rw [hy]; exact hl) (queueAgrees_congr hyq hr h) _ (by rw [hr]; exact hi), hr]

/-! ### The internal stream only grows at its end -/

/-- What `t` has in its internal stream is what `s` had, and more behind it. -/
def Grows (s t : State) : Prop := ∃ more, t.bus.internal = s.bus.internal ++ more

theorem Grows.refl (s : State) : Grows s s := ⟨[], by simp⟩

theorem Grows.trans {s t u : State} (h1 : Grows s t) (h2 : Grows t u) : Grows s u := by
  obtain ⟨a, ha⟩ := h1; obtain ⟨b, hb⟩ := h2; exact ⟨a ++ b, by rw [hb, ha]; simp⟩

theorem grows_of_eq {s t : State} (h : t.bus.internal = s.bus.internal) : Grows s t := ⟨[], by simp [h]⟩

theorem issueAll_grows (bs : List Burst) (s : State) : Grows s (issueAll bs s) := ⟨bs, by simp [issueAll]⟩

theorem issue_grows (b : Burst) (s : State) : Grows s (issue b s) := ⟨[b], by simp [issue]⟩

theorem emit_grows (e : Event) (s : State) : Grows s (emit e s) := by
  simp only [emit]; repeat' split
  all_goals first | exact ⟨_, by simp [issueAll]; rfl⟩ | exact ⟨_, by simp [issue]; rfl⟩

theorem beginMirror_grows (k : Nat) (s : State) : Grows s (beginMirror k s) := by
  unfold beginMirror; split
  · exact ⟨_, by simp [issueAll, State.setArea]; rfl⟩
  · exact .refl s

theorem publishArea_grows (k : Nat) (s : State) : Grows s (publishArea k s) := by
  unfold publishArea; split
  · exact beginMirror_grows k s
  · exact grows_of_eq rfl

theorem foldl_grows {α : Type} (f : State → α → State) (h : ∀ s x, Grows s (f s x)) (l : List α) (s : State) :
    Grows s (l.foldl f s) := by
  induction l generalizing s with
  | nil => exact .refl s
  | cons x xs ih => exact (h s x).trans (ih _)

theorem publish_grows (s0 s1 : State) : Grows s1 (publish s0 s1) := by
  unfold publish publishAll
  split
  · split
    · exact (publishArea_grows _ _).trans (foldl_grows _ (fun s k => publishArea_grows k s) _ _)
    · simp only []
      split
      · exact (foldl_grows _ (fun s k => publishArea_grows k s) _ _).trans (publishArea_grows _ _)
      · exact foldl_grows _ (fun s k => publishArea_grows k s) _ _
  · exact .refl _

theorem startTally_grows (s : State) : Grows s (startTally s) := by
  unfold startTally; split
  · split
    · exact ⟨_, by simp [issueAll]; rfl⟩
    · exact .refl _
  · exact .refl _

theorem startRun_grows (s : State) : Grows s (startRun s) := (grows_of_eq (by simp)).trans (publish_grows s (startOptimizer s))

theorem settle_grows (s0 s1 : State) : Grows s1 (settle s0 s1) :=
  ((startTally_grows s1).trans (publish_grows _ _)).trans (startRun_grows _)

/-! ### Events and notes -/

/-- R192: the class of an event is pending, whether the event is written or dropped. -/
theorem emit_classes (e : Event) (s : State) : (emit e s).events.classes = s.events.classes ||| BitVec.twoPow 8 e.cls.code := by
  simp only [emit]; repeat' split
  all_goals simp

theorem emit_pending (e : Event) (s : State) (i : Nat) (h : e.cls.code = i) (h8 : i < 8) :
    (emit e s).events.classes.getLsbD i = true := by
  rw [emit_classes, h]; simp [h8]

theorem emit_events_congr (e : Event) {s t : State} (h : s.events = t.events) (h2 : s.shadow.entries = t.shadow.entries) :
    (emit e s).events = (emit e t).events := by
  simp only [emit, State.window, h, h2]; repeat' split
  all_goals simp

/-- R165: a report leaves a note for the current lug. -/
theorem report_notes (g : GuardName) (s : State) (h : s.lineGuard.flags.length = 6) :
    s.tracker.lug ∈ ((report g s).flag g.index).notes := by
  have hg : g.index < s.lineGuard.flags.length := by rw [h]; cases g <;> decide
  simp only [report, State.flag, List.getD_eq_getElem?_getD, List.getElem?_set, hg, if_true, Option.getD_some, GuardFlag.report]
  split
  · rename_i h2; simpa using h2
  · simp

/-! ### Areas and frame slots -/

theorem area_setArea (s : State) (k j : Nat) (a : Area) (hk : k < s.tracker.areas.length) :
    (s.setArea k a).area j = if j = k then a else s.area j := by
  simp only [State.area, State.setArea, List.getD_eq_getElem?_getD, List.getElem?_set]
  by_cases h : k = j
  · subst h; simp [hk]
  · simp [h, Ne.symm h]

theorem frameSlot_congr {s t : State} (h : t.intake.tables = s.intake.tables) (a b : Nat) : frameSlot t a b = frameSlot s a b := by
  simp [frameSlot, h]

theorem frameSlot_setFrameSlot {s : State} {h i : Nat} {st : SlotState} (x : SlotState) (hs : frameSlot s h i = some st) (h' i' : Nat) :
    frameSlot (setFrameSlot h i x s) h' i' = if (h', i') = (h, i) then some x else frameSlot s h' i' := by
  unfold frameSlot at hs
  cases ht : s.intake.tables.getD h none with
  | none => rw [ht] at hs; simp at hs
  | some slots =>
    rw [ht] at hs
    simp at hs
    have hlen : h < s.intake.tables.length := by
      refine Decidable.byContradiction fun hc => ?_
      simp [List.getD_eq_getElem?_getD, List.getElem?_eq_none (Nat.le_of_not_lt hc)] at ht
    have hil : i < slots.length := by
      refine Decidable.byContradiction fun hc => ?_
      simp [List.getElem?_eq_none (Nat.le_of_not_lt hc)] at hs
    simp only [frameSlot, setFrameSlot, ht]
    simp only [List.getD_eq_getElem?_getD] at ht ⊢
    simp only [List.getElem?_set]
    by_cases hh' : h = h'
    · subst hh'
      simp [hlen, List.getElem?_set]
      by_cases hii : i = i'
      · subst hii; simp [hil]
      · have ht' : s.intake.tables[h] = some slots := by simpa [hlen] using ht
        simp [hii, Ne.symm hii, ht']
    · simp [hh', Ne.symm hh']

/-! ### Work that ends and records that are freed -/

theorem endWork_queue (k : Nat) (s : State) : (endWork k s).optimizer.queue = s.optimizer.queue.filter fun e => e.slot != k := by
  simp only [endWork, endClose]
  unfold abandonRun; repeat' split
  all_goals rfl

theorem endWork_measure (k : Nat) (s : State) : (endWork k s).measure =
    { awaiting := s.measure.awaiting.filter fun x => x.slot != k, finalising := s.measure.finalising.filter fun x => x.slot != k } := by
  simp only [endWork, endClose]
  unfold abandonRun; repeat' split
  all_goals rfl

theorem freeRecord_values (k : Nat) (s : State) : (freeRecord k s).dispatch = s.dispatch ∧ (freeRecord k s).tally = s.tally ∧
    (freeRecord k s).bus = s.bus ∧ (freeRecord k s).overrides.trimEntries = s.overrides.trimEntries.set k none ∧
    (freeRecord k s).shadow = s.shadow ∧ (freeRecord k s).tracker.records = s.tracker.records.set k Record.blank ∧
    (freeRecord k s).optimizer.queue = s.optimizer.queue.filter fun e => e.slot != k := by
  simp [freeRecord, State.setRecord, endWork_queue]

/-- R142: at a retire every held read of the slot is answered, and none of them is held any more. -/
theorem fallbackAtRetire_values (k : Nat) (s : State) : ∃ others, (fallbackAtRetire k s).bus.answers = s.bus.answers ++ others ∧
    others.length = (s.dispatch.held.filter fun h => h.slot == k).length ∧
    (fallbackAtRetire k s).dispatch.held = s.dispatch.held.filter (fun h => h.slot != k) := by
  unfold fallbackAtRetire
  split
  · simp [answerHeld, report]
  · rename_i h
    have : ∀ x ∈ s.dispatch.held, x.slot ≠ k := by simpa [hasHeld] using h
    refine ⟨[], by simp, ?_, ?_⟩
    · symm; simpa using this
    · symm; simpa using this

/-- R83: CHIP drops all thirteen saws, PASS none. -/
theorem fallbackSaws_values (ws : List Word) : fallbackSaws ws = if fallbackPass ws then 0#13 else 0x1FFF#13 := by
  unfold fallbackSaws; split
  · rfl
  · decide

/-- R134: the lug a FREE slot is answered with lies in the slot and within the last 32 lugs. -/
theorem freeSlotLug_spec (c : Lug) (k : Nat) (hk : k < 32) : slotOf (freeSlotLug c k) = k ∧ position c (freeSlotLug c k) ≤ 31 := by
  unfold slotOf position freeSlotLug
  have h1 : ((c - BitVec.ofNat 16 k) &&& 31#16).toNat = (c - BitVec.ofNat 16 k).toNat % 32 := by
    rw [BitVec.toNat_and]
    exact Nat.and_two_pow_sub_one_eq_mod _ 5
  have hc := c.isLt
  have h2 : (c - BitVec.ofNat 16 k).toNat = (65536 - k + c.toNat) % 65536 := by
    rw [BitVec.toNat_sub, BitVec.toNat_ofNat]; simp; omega
  have h3 : (c - ((c - BitVec.ofNat 16 k) &&& 31#16)).toNat = (65536 - (65536 - k + c.toNat) % 65536 % 32 + c.toNat) % 65536 := by
    rw [BitVec.toNat_sub, h1, h2]
  rw [h3]
  refine ⟨by omega, ?_⟩
  rw [BitVec.toNat_sub, h3]; omega

/-! ### Commands -/

/-- The rows that are arrivals all run the arrival of their transaction (log 9). -/
theorem exec_arrival (c : Instr) (x : Transaction) (s : State) (h : arrivalOf c = some x) : exec c s = arrival x s := by
  cases c <;> simp [arrivalOf] at h <;> subst h <;> rfl

/-- Every next state is a `finish`. -/
theorem exec_finish (c : Instr) (s t : State) (h : exec c s = .next t) : ∃ y, t = finish y := by
  cases c <;> simp [exec, execRawLevelChange, execFilterTimerExpiry, execResetNAssert, execResetNRelease, execFormatWordReadDone,
    execSetupReadDone, execEventHeaderReadDone, execTallyHeaderReadDone, execFormatWordWrite, execSetupWriteHeld, execChassisTransaction,
    execMemoryBurstDone, execSetupWrite, execWindowEntryWrite, execGradingTableWrite, execGuardEnableMaskWrite, execEventClassEnableWrite,
    execFrameHeaderWrite, execTrailerWrite, execIntakeStart, execIntakeComplete, execCloseComplete, execOptimizerComplete, execPost,
    execPostReadbackStart, execGrade, execTrim, execChip, execMark, execClear, execRescan, execBinEmpty, execShift, execAck,
    execAlarmTest, execSawTest, execLineReset, execLineResetStart, execSawTestExpiry, execTrimRead, execHoldExpiry, execSortRead,
    execTallyReadsDone, execTallyUpdateComplete, execZeroingDone, execMirrorWriteComplete, execConsumerWrite, execKindCodeOutOfRange,
    done, arrival] at h
  all_goals first
    | exact ⟨_, h.symm⟩
    | (split at h <;> simp at h <;> exact ⟨_, h.symm⟩)

/-- The state in which an arriving transaction has its number. -/
def State.numbered (s : State) : State := { s with bus := { s.bus with nextTxn := s.bus.nextTxn + 1 } }

@[simp] theorem numbered_frame (s : State) : s.numbered.inputs = s.inputs ∧ s.numbered.resetAsserted = s.resetAsserted ∧
    s.numbered.shadow = s.shadow ∧ s.numbered.tracker = s.tracker ∧ s.numbered.intake = s.intake ∧ s.numbered.measure = s.measure ∧
    s.numbered.optimizer = s.optimizer ∧ s.numbered.skip = s.skip ∧ s.numbered.overrides = s.overrides ∧
    s.numbered.dispatch = s.dispatch ∧ s.numbered.tally = s.tally ∧ s.numbered.lineGuard = s.lineGuard ∧
    s.numbered.events = s.events ∧ s.numbered.pending = s.pending ∧ s.numbered.bus.mem = s.bus.mem ∧
    s.numbered.bus.through = s.bus.through ∧ s.numbered.bus.internal = s.bus.internal ∧ s.numbered.bus.port = s.bus.port ∧
    s.numbered.bus.answers = s.bus.answers ∧ s.numbered.bus.nextTxn = s.bus.nextTxn + 1 ∧
    (∀ k, s.numbered.record k = s.record k) ∧ (∀ k, s.numbered.window k = s.window k) := by
  simp [State.numbered, State.record, State.window]

/-- An arrival, with the number it takes (R176, R188, R189). -/
theorem arrive_eq (x : Transaction) (s : State) : arrive x s =
    if s.numbered.resetAsserted then refuse s.bus.nextTxn x s.numbered
    else match s.numbered.shadow.part with
      | .starting => match x with
        | .write w =>
          if w.addr.toNat < Config.setupBytes then
            { s.numbered with shadow := { s.shadow with held := s.shadow.held ++ [{ txn := s.bus.nextTxn, write := w }] } }
          else pass s.bus.nextTxn x false s.numbered
        | .read _ => pass s.bus.nextTxn x false s.numbered
      | .transparent => match x with
        | .write w => pass s.bus.nextTxn x (carriesFormatWord w) s.numbered
        | .read _ => pass s.bus.nextTxn x false s.numbered
      | .running => judge s.bus.nextTxn x s.numbered := rfl

/-- A transaction that passes the checks while RUNNING is handled in its region. -/
theorem exec_admitted {c : Instr} {x : Transaction} {r : Region} {s : State} (ha : arrivalOf c = some x) (h : Admitted s x r) :
    exec c s = .next (finish (settle s.numbered (handle s.bus.nextTxn x r s.numbered))) := by
  rw [exec_arrival c x s ha]
  have h1 := h.shortest
  have h2 := h.longest
  have e1 : s.numbered.resetAsserted = false := h.released
  have e2 : s.numbered.shadow.part = .running := h.running
  have e3 : accessCause s.numbered.shadow s.numbered.tally x = none := h.passes
  have e4 : firstRegion s.numbered.shadow.entries x = r := h.region
  simp only [arrival, h1, h2, and_self, if_true, done, arrive_eq, e1, e2, Bool.false_eq_true, if_false, judge, e3, e4]

/-- A transaction that fails a check while RUNNING is refused with event ACCESS. -/
theorem exec_refused {c : Instr} {x : Transaction} {cause : AccessCause} {s : State} (ha : arrivalOf c = some x)
    (h1 : 1 ≤ Transaction.words x) (h2 : Transaction.words x ≤ 16) (h3 : s.resetAsserted = false) (h4 : s.shadow.part = .running)
    (h5 : accessCause s.shadow s.tally x = some cause) :
    exec c s = .next (finish (settle s.numbered (emitAccess x cause (refuse s.bus.nextTxn x s.numbered)))) := by
  rw [exec_arrival c x s ha]
  have e1 : s.numbered.resetAsserted = false := h3
  have e2 : s.numbered.shadow.part = .running := h4
  have e3 : accessCause s.numbered.shadow s.numbered.tally x = some cause := h5
  simp only [arrival, h1, h2, and_self, if_true, done, arrive_eq, e1, e2, Bool.false_eq_true, if_false, judge, e3]

/-! ### Windows -/

theorem region_window {s : State} {x : Transaction} {j : Nat} (h : firstRegion s.shadow.entries x = .window j) :
    j < 16 ∧ isInForce s.shadow.entries j = true ∧
      (entryAt s.shadow.entries j).covers (4 * ((Transaction.addr x).toNat / 4)) = true := by
  unfold firstRegion classify at h
  split at h
  · simp at h
  · split at h
    · rename_i i hi
      simp at h; subst h
      have h1 := List.find?_some hi
      have h2 := List.mem_of_find?_eq_some hi
      simp at h1 h2
      exact ⟨h2, h1⟩
    · simp at h

theorem window_bounds (e : WindowEntry) : e.start % 4 = 0 ∧ e.start < 4294967296 ∧ e.top < 4294967296 := by
  unfold WindowEntry.start WindowEntry.top bits; omega

/-- A transaction classified to a window lies at its offset without passing the top of memory. -/
theorem window_offset {s : State} {x : Transaction} {j off : Nat} (h : firstRegion s.shadow.entries x = .window j)
    (ha : Transaction.addr x = windowAddr (entryAt s.shadow.entries j) off) (h4 : off % 4 = 0) (hb : off < 4294967296) :
    (entryAt s.shadow.entries j).start + off < 4294967296 ∧
      (Transaction.addr x).toNat = (entryAt s.shadow.entries j).start + off := by
  have h1 := (region_window h).2.2
  have h2 := window_bounds (entryAt s.shadow.entries j)
  rw [ha] at h1 ⊢
  simp only [windowAddr, BitVec.toNat_ofNat, WindowEntry.covers, Bool.and_eq_true, decide_eq_true_eq] at h1 ⊢
  omega

theorem carried_oneWord (m : Master) (a d : Word) : carried (oneWord m a d) = [(a.toNat, Beat.full d)] := by
  have := a.isLt
  simp [carried, oneWord, ownWords, Memory.wrap]
  omega

@[simp] theorem full_isFull (d : Word) : Beat.isFull (Beat.full d) = true := rfl

@[simp] theorem full_data (d : Word) : (Beat.full d).data = d := rfl

/-- Into what a permitted write of one word of a window runs, and the one word it carries. -/
theorem writes_exec {s : State} {c : Instr} {kind : WindowKind} {j off : Nat} {m : Master} {d : Word} (h : WritesWindow s c kind j off m d)
    (h4 : off % 4 = 0) (hb : off < 4294967296) :
    exec c s = .next (finish (settle s.numbered (handle s.bus.nextTxn
      (.write (oneWord m (windowAddr (entryAt s.shadow.entries j) off) d)) (.window j) s.numbered))) ∧
    carried (oneWord m (windowAddr (entryAt s.shadow.entries j) off) d) = [((entryAt s.shadow.entries j).start + off, Beat.full d)] ∧
    offsetIn (entryAt s.shadow.entries j) ((entryAt s.shadow.entries j).start + off) = off := by
  refine ⟨exec_admitted h.arrives h.admitted, ?_, by simp [offsetIn]⟩
  have := window_offset h.admitted.region rfl h4 hb
  rw [carried_oneWord]
  simp only [Transaction.addr, oneWord] at this
  rw [this.2]

/-- Into what a permitted read of one answered word of a window runs. -/
theorem reads_exec {s : State} {c : Instr} {kind : WindowKind} {j k : Nat} {m : Master} (h : ReadsSlot s c kind j k m) :
    exec c s = .next (finish (settle s.numbered (handle s.bus.nextTxn
      (.read { master := m, addr := windowAddr (entryAt s.shadow.entries j) (4 * k), words := 1 }) (.window j) s.numbered))) ∧
    offsetIn (entryAt s.shadow.entries j) (windowAddr (entryAt s.shadow.entries j) (4 * k)).toNat = 4 * k := by
  refine ⟨exec_admitted h.arrives h.admitted, ?_⟩
  have hb := h.below
  have := window_offset h.admitted.region rfl (by omega) (by have : k < 32 := hb; omega)
  simp only [Transaction.addr] at this
  rw [this.2]; simp [offsetIn]

end Sys2Proof.Machine
end

