-- ==== Sys2Proof/Tests/Slice0.lean ====
section
/-! SUPPORT. Tests of the model. Expected values come from the worked examples and tables of spec/, named at each test, or from hand
calculation by the rule it names. The theorems named test_meets_… show, statement by statement, a state and operands that meet all
its hypotheses together. -/

namespace Sys2Proof.Tests

open Sys2Proof.Machine

set_option Elab.async false

/-! ### Helpers -/

/-- The next state of an outcome. -/
def after : Host.Outcome State Fault Refusal → State
  | .next t => t
  | .fault _ => State.reset
  | .refused _ => State.reset

/-- The fields the tests set: word index and value. Window entries: FRAME of head 0 (13 slots), OVERRIDE (17 entries), RECORD, TALLY, EVENT
(capacity 16), TRIM, SORT, GUARDED, all for every master. Pacing, grades, prices and bins are those of the worked runs of Chapters 5,
4 and 7; head 2 is that of Chapter 3. -/
def fields : List (Nat × Word) :=
  [(0, 0x48160001), (1, 0x01), (2, 0xFF), (3, 1), (7, 6), (8, 2000), (9, 30), (10, 4), (11, 1), (12, 3), (13, 1), (14, 6), (15, 2),
   (16, 0x00000203), (18, 20), (19, 2), (20, 0xE0F)] ++
  [(32, 0x10000), (33, 0x133FC), (34, 0x80FFFF00), (35, 0x20000), (36, 0x2010C), (37, 0x80FFFF01), (38, 0x30000), (39, 0x320FC),
   (40, 0x80FFFF02), (41, 0x40000), (42, 0x408FC), (43, 0x80FFFF03), (44, 0x50000), (45, 0x5010C), (46, 0x80FFFF04), (47, 0x60000),
   (48, 0x6007C), (49, 0x80FFFF05), (50, 0x61000), (51, 0x6107C), (52, 0x80FFFF06), (53, 0x70000), (54, 0x70000), (55, 0x80FFFF07)] ++
  [(85, 1), (91, 1), (92, 0x377), (93, 1250), (94, 40), (95, 16384), (96, 2440), (97, 1220), (103, 1), (109, 1), (115, 1)] ++
  [(128, 380), (129, 1500), (132, 5), (133, 370), (134, 1480), (135, 40), (136, 1), (137, 20), (138, 360), (139, 1450), (140, 80),
   (141, 2), (142, 40), (143, 350), (144, 1400), (145, 150), (146, 4), (147, 80), (148, 340), (149, 1350), (150, 250), (151, 6),
   (152, 160), (153, 320), (154, 1300), (155, 400), (156, 10), (157, 400), (158, 300), (159, 1200), (160, 600), (161, 20), (162, 1000)] ++
  [(168, 10), (169, 20), (170, 40), (171, 80), (172, 160), (173, 400), (174, 1000)] ++
  [(189, 200), (190, 300), (191, 420), (201, 140), (202, 210), (203, 300), (213, 90), (214, 135), (215, 190), (216, 200), (217, 240),
   (218, 280), (265, 48)] ++
  [(272, 0x06), (273, 3), (274, 4), (275, 40), (276, 0x0E), (277, 2), (278, 7), (279, 60), (280, 0x08), (281, 5), (282, 7), (283, 30),
   (328, 0xFF), (329, 1), (330, 12), (332, 0x80), (333, 1), (334, 12)]

def image : List Word := (List.range 336).map fun n => ((fields.find? fun f => f.1 == n).map Prod.snd).getD 0

def board (lug : Lug) (st : RecordState) : Record := { Record.blank with lug := lug, state := st }

def piece : Decision := { verdict := .piece, a := 0, b := 4, grade := 2, value := 300, saws := 0x1F1 }

def decided (lug : Lug) (st : RecordState) (committed : Bool) : Record :=
  { board lug st with present := 8, length := 4900, committed := committed, decision := some piece }

/-- The records of Chapter 5, A Grading Table Write on a Running Line, with the current lug 106. -/
def records : List Record :=
  [Record.blank, Record.blank, Record.blank, decided 99 .dispatched true, decided 100 .decided true, decided 101 .decided false,
   { decided 102 .decided false with chip := true, forced := true }, board 103 .optimizing, board 104 .queued, board 105 .closing,
   board 106 .scanning] ++ List.replicate 21 Record.blank

/-- A running line: that table, every window in force, an idle port and header state. -/
def line : State :=
  { State.reset with
    shadow := { Shadow.powerOn with part := .running, load := none, words := image, entries := entriesFromWords image }
    tracker := { Tracker.powerOn with lug := 106, records := records, everRan := true }
    intake := { Intake.powerOn with tables := some (List.replicate 13 .free) :: List.replicate 5 none }
    optimizer := { queue := [{ slot := 8, lug := 104 }], run := some { slot := 7, lug := 103, record := board 103 .queued, tables := image } }
    events := { EventWriter.powerOn with ring := some { producer := 0, consumer := 0 } }
    bus := { State.reset.bus with port := none, lastGrant := none } }

/-! The table conditions as tests that evaluate, each with the condition it decides. -/

/-- How many places the tables have: records, areas, setup words, window entries, slot tables, trim entries, bins, guard flags. -/
def places (s : State) : List Nat :=
  [s.tracker.records.length, s.tracker.areas.length, s.shadow.words.length, s.shadow.entries.length, s.intake.tables.length,
   s.overrides.trimEntries.length, s.dispatch.counts.length, s.lineGuard.flags.length]

theorem sized_of {s : State} (h : places s = [32, 33, 336, 16, 6, 32, 16, 6]) : s.Sized := by
  simp only [places, List.cons.injEq] at h
  constructor <;> simp only [h]

def placedB (s : State) : Bool :=
  (List.range 32).all fun k => !(s.record k).live || (slotOf (s.record k).lug == k && position s.tracker.lug (s.record k).lug ≤ 30)

theorem placed_of {s : State} (h : placedB s = true) : s.RecordsPlaced := fun k hk hl => by
  simpa [hl] using List.all_eq_true.mp h k (List.mem_range.mpr hk)

def agreesB (s : State) : Bool :=
  decide (s.optimizer.queue.map fun e => e.slot).Nodup &&
  s.optimizer.queue.all fun e => e.slot < 32 && (s.record e.slot).state == .queued

theorem agrees_of {s : State} (h : agreesB s = true) : s.QueueAgrees := by
  simpa [agreesB, State.QueueAgrees, Config.recordSlots] using h

def byAgeB (s : State) : Bool :=
  (s.optimizer.queue.all fun e => e.lug == (s.record e.slot).lug) &&
  decide (s.optimizer.queue.Pairwise fun e f => position s.tracker.lug f.lug < position s.tracker.lug e.lug) &&
  (List.range 32).all fun k => (s.record k).state != .queued || s.optimizer.queue.any fun e => e.slot == k

theorem byAge_of {s : State} (h : byAgeB s = true) : s.QueueByAge where
  lugs := by simp_all [byAgeB]
  older := by simp_all [byAgeB]
  named k hk hq := by
    have := List.all_eq_true.mp (Bool.and_eq_true_iff.mp h).2 k (List.mem_range.mpr hk)
    simpa [hq] using this

def soundB (s : State) : Bool := decide (places s = [32, 33, 336, 16, 6, 32, 16, 6]) && placedB s && agreesB s && byAgeB s

theorem sound_of {s : State} (h : soundB s = true) : s.TableSound := by
  simp only [soundB, Bool.and_eq_true, decide_eq_true_eq] at h
  exact ⟨sized_of h.1.1.1, placed_of h.1.1.2, agrees_of h.1.2, byAge_of h.2⟩

def admittedB (s : State) (t : Transaction) (r : Region) : Bool :=
  !s.resetAsserted && s.shadow.part == .running && decide (1 ≤ Transaction.words t) && decide (Transaction.words t ≤ 16) &&
    accessCause s.shadow s.tally t == none && firstRegion s.shadow.entries t == r

theorem admitted_of {s : State} {t : Transaction} {r : Region} (h : admittedB s t r = true) : Admitted s t r := by
  simp only [admittedB, Bool.and_eq_true, beq_iff_eq, decide_eq_true_eq, Bool.not_eq_true'] at h
  exact { region := h.2, passes := h.1.2, longest := h.1.1.2, shortest := h.1.1.1.2, running := h.1.1.1.1.2, released := h.1.1.1.1.1 }

/-- A test that decides a condition decides it of every member of a list. -/
theorem each_of {α : Type} {test : α → Bool} {holds : α → Prop} (sound : ∀ a, test a = true → holds a) (l : List α)
    (h : l.all test = true) : ∀ a ∈ l, holds a := fun a ha => sound a (List.all_eq_true.mp h a ha)

theorem test_line_sound : line.TableSound := sound_of (by decide +kernel)

/-! ### Well-formed commands: each check refuses an ill-formed one -/

def someWrite (n : Nat) : BusWrite := { master := 0, addr := 0x80000, beats := List.replicate n (Beat.full 5) }

theorem test_write_of_no_word : Instr.wellFormed (.setupWrite (someWrite 0)) = false := by decide +kernel

theorem test_write_of_17_words : Instr.wellFormed (.post (someWrite 17)) = false := by decide +kernel

theorem test_write_of_16_words : Instr.wellFormed (.frameHeaderWrite (someWrite 16)) = true := by decide +kernel

theorem test_read_of_no_word :
    Instr.wellFormed (.chassisTransaction (.read { master := 0, addr := 0, words := 0 })) = false := by decide

theorem test_read_of_17_words :
    Instr.wellFormed (.chassisTransaction (.read { master := 0, addr := 0, words := 17 })) = false := by decide

theorem test_fifth_held_read : Instr.wellFormed (.holdExpiry 4) = false := by decide

/-- No word of the table spells a command: the rows give no bits. -/
theorem test_no_word_spells_a_command : decodeTableWord 32 0x48160001 = none := by decide

/-! ### Chapter 3, A Worked Conversion -/

/-- The slice of head 2: thickness 5,137, width 1,500, wane 12, position 1,233, KNOT of size 25 with defect start. -/
def knot : Slice :=
  { thickness := 5137, width := 1500, wane := 12, position := 1233, defectClass := 1, defectStart := true, defectSize := 25 }

theorem test_worked_conversion :
    sliceThickness image 2 knot = 381 ∧ sliceWidth image 2 knot = 1540 ∧ sliceWane knot = 60 ∧
      slicePosition image 2 knot = 3659 ∧ sliceDefect image knot = 75 ∧ sliceIsWood image 2 knot = true := by decide +kernel

/-- Raw thickness 100 gives 0 and air; a gain of 65,535 limits raw 1,000 to 2,000. -/
theorem test_conversion_edges :
    sliceThickness image 2 { knot with thickness := 100 } = 0 ∧ sliceIsWood image 2 { knot with thickness := 100 } = false ∧
      sliceThickness (image.set 93 65535) 2 { knot with thickness := 1000 } = 2000 := by decide +kernel

/-- The slice lands in segment 5 and makes the board 3,660 mm long. -/
theorem test_merge_of_the_knot :
    let r := mergeFrame image 2 [knot, { knot with thickness := 100 }] (board 200 .scanning)
    r.length = 3660 ∧ (r.segment 5).knots = 1 ∧ (r.segment 5).wood = 1 ∧ (r.segment 5).defects = 75 ∧ r.contributed = 4 := by
  decide +kernel

/-- The two words of that slice by the layout of R199. -/
theorem test_slice_words : sliceOf 0x91771411 0x0194D10C = knot := by decide +kernel

/-! ### Chapter 4, A Board Graded and Trimmed -/

def seg (t w e k d : Nat) : Segment :=
  { wood := 1, minThickness := t, minWidth := w, maxWane := e, knots := k, defects := d, unseen := false, grade := 0 }

def graded : Record :=
  { board 3000 .optimizing with
    length := 4900, present := 8
    segments := [seg 381 1540 60 1 30, seg 384 1538 30 1 12, seg 386 1541 20 0 8, seg 379 1536 35 1 15, seg 383 1530 10 3 50,
      seg 385 1539 25 1 10, seg 380 1537 40 1 14, seg 372 1310 720 0 0] ++ List.replicate 4 Segment.created }

/-- Saws 0, 4, 5, 6, 7, 8: mask 0x1F1. -/
theorem test_board_decision : searchDecision image graded = piece := by decide +kernel

theorem test_board_grades : ((gradedSegments image graded).map Segment.grade) = [2, 1, 1, 1, 3, 1, 1, 7, 7, 7, 7, 7] := by
  decide +kernel

/-- Piece budget 15 at grade 2: PIECE [1,4), grade 1, 300, saws 0, 1, 4-8. -/
theorem test_smaller_budget : searchDecision (image.set 170 15) graded =
    { verdict := .piece, a := 1, b := 4, grade := 1, value := 300, saws := 0x1F3 } := by decide +kernel

/-- A forced grade of 1: PIECE [0,4) at 420; with segment 2 marked as well: [3,7) at 420, saws 0-3, 7, 8. -/
theorem test_forced_grade :
    searchDecision image { graded with forcedGrade := some 1 } = { piece with grade := 1, value := 420 } ∧
      searchDecision image { graded with forcedGrade := some 1, marks := 4 } =
        { verdict := .piece, a := 3, b := 7, grade := 1, value := 420, saws := 0x18F } := by decide +kernel

/-- The mark alone: [5,7), grade 1, 200, dropping saws 0-5, 7, 8. -/
theorem test_mark_alone : searchDecision image { graded with marks := 4 } =
    { verdict := .piece, a := 5, b := 7, grade := 1, value := 200, saws := 0x1BF } := by decide +kernel

/-- TRIM (1, 6), (6, 8) and (7, 9). -/
theorem test_forced_trims :
    forcedDecision image { graded with forcedTrim := some (1, 6) } =
        { verdict := .piece, a := 1, b := 6, grade := 3, value := 200, saws := 0x1C3 } ∧
      forcedDecision image { graded with forcedTrim := some (6, 8) } =
        { verdict := .piece, a := 6, b := 8, grade := 7, value := 0, saws := 0x17F } ∧
      forcedDecision image { graded with forcedTrim := some (7, 9) } =
        { verdict := .reject, a := 0, b := 0, grade := 7, value := 0, saws := 0x1FF } := by decide +kernel

/-! ### Chapter 5: pacing and the grading table write -/

/-- The run of eight lug events with skip-high 4, release 1, quantum 3, refresh threshold 1. -/
theorem test_pacing_run :
    [2, 4, 5, 4, 3, 1, 0, 2].foldl (fun (a : List Nat) b => a ++ [nextSkip image b (a.getLast?.getD 0)]) [] =
      [0, 3, 2, 3, 2, 0, 0, 0] := by decide +kernel

def slots (s : State) : List Nat := s.optimizer.queue.map QueueEntry.slot

/-- The host writes one word of the price table: the queue is 102, 103, 104, the run is of 101, the backlog 4. -/
def priced : State := after (exec (.gradingTableWrite (oneWord 0 720#32 7)) line)

theorem test_price_write :
    slots priced = [6, 7, 8] ∧ (priced.optimizer.run.map Run.slot) = some 5 ∧ backlog priced = 4 ∧ backlog line = 2 ∧
      (priced.record 4) = (line.record 4) := by decide +kernel

/-- The run for 101 completes, then that of 102 with its chip kept: a forced REJECT. -/
def ran : State := after (exec .optimizerComplete (after (exec .optimizerComplete priced)))

theorem test_runs_after_the_write :
    slots ran = [8] ∧ (ran.optimizer.run.map Run.slot) = some 7 ∧ (ran.record 5).state = .decided ∧
      (ran.record 6).forced = true ∧ ((ran.record 6).decision.map Decision.verdict) = some .reject ∧ backlog ran = 2 := by
  decide +kernel

/-! ### Chapter 7, A Run of Sort Answers -/

/-- The bins of that run: bin 0 full at 40, bin 1 at 12, bin 2 at 29; 14 is the reman bin and 15 the reject bin. -/
def binned (r : Record) : State :=
  { line with
    tracker := { line.tracker with records := records.set 3 r }
    dispatch := { line.dispatch with counts := [40, 12, 29, 0, 0, 0, 0, 0, 0, 0, 0, 0, 0, 0, 3, 5] } }

def sorted (r : Record) : State := after (exec (.sortRead 0 (0x61000#32 + 12#32)) (binned r))

/-- A PIECE of grade 2, n 4: SORTED, bin 1, whose count becomes 13; the slot is FREE. -/
theorem test_sort_piece :
    (sorted (decided 99 .dispatched true)).bus.answers = [{ txn := 0, master := 0, reply := .data [0x00632001] }] ∧
      (sorted (decided 99 .dispatched true)).dispatch.counts.getD 1 0 = 13 ∧
      (sorted (decided 99 .dispatched true)).tally.queue =
        [{ bank := false, key := .piece 2 4, forced := false, lug := 99 }] ∧
      (sorted (decided 99 .dispatched true)).record 3 = Record.blank := by decide +kernel

/-- A DECIDED record: UNTRIMMED, bin 15, counted as UNTRIMMED. -/
theorem test_sort_untrimmed :
    (sorted (decided 99 .decided true)).bus.answers = [{ txn := 0, master := 0, reply := .data [0x0063800F] }] ∧
      (sorted (decided 99 .decided true)).tally.queue =
        [{ bank := false, key := .untrimmed, forced := false, lug := 99 }] := by decide +kernel

/-- A PIECE of grade 7 finds no bin: REJECT, bin 15, counted as PIECE of grade 7 and n 2. -/
theorem test_sort_no_bin :
    sortChoice (binned Record.blank) { decided 99 .dispatched true with
      decision := some { piece with a := 6, b := 8, grade := 7, value := 0 } } = (15, .reject, true) := by decide +kernel

/-! ### Chapter 8: the words of an update, Chapter 9: a run under the guard -/

/-- REJECT, forced: boards, the pieces and length words of entry (7, 0), forced. -/
theorem test_update_words : updateWords { bank := false, key := .reject, forced := true, lug := 3001 } =
    [(208, 1), (182, 1), (183, 0), (212, 1)] := by decide +kernel

/-- U1, PIECE grade 2 with n 4, from boards 1,200: boards 1,201, one piece, 2,440 mm. -/
theorem test_update_sums : updateSums { bank := false, key := .piece 2 4, forced := false, lug := 3000 } [1200, 0, 0] =
    [1201, 1, 2440] := by decide +kernel

/-- MISSYNC with k 2 over the lug events to 801, 802 and, acknowledged between, 803: 1, 2 with a latch, then 0. -/
theorem test_guard_run :
    let a := GuardFlag.evaluate { GuardFlag.powerOn with notes := [800] } true 800 2
    let b := GuardFlag.evaluate { a with notes := [801] } true 801 2
    let c := GuardFlag.evaluate b.acknowledge false 802 2
    (a.counter, a.latched) = (1, false) ∧ (b.counter, b.latched) = (2, true) ∧ (b.acknowledge.counter, b.acknowledge.shown) = (0, true) ∧
      (c.counter, c.shown, c.latched) = (0, false, false) := by decide

/-! ### Chapter 11: words -/

/-- A post word 0x9234 has tag 0x1234; REFUSED with that tag is 0x0008_1234. -/
theorem test_post_and_result_words :
    postMarker 0x9234 = true ∧ postTag 0xFFFF9234 = 0x1234 ∧ resultWord .refused 0x1234 = 0x00081234 ∧ postMarker 0x1234 = false := by
  decide

/-- The write of the format word, bytes in the order of log 2, reads back as that word. -/
theorem test_memory_word : Memory.readWord (Memory.writeBeats [] 0 [Beat.full 0x48160001]) 0 = 0x48160001 := by decide +kernel

/-! ### Witnesses: helpers -/

def isNext : Host.Outcome State Fault Refusal → Bool
  | .next _ => true
  | .fault _ => false
  | .refused _ => false

theorem next_of {c : Instr} {s : State} (h : isNext (exec c s) = true) : exec c s = .next (after (exec c s)) := by
  revert h
  cases exec c s <;> simp [isNext, after]

theorem step_of {s : State} (h : isNext (step s) = true) : step s = .next (after (step s)) := by
  revert h
  cases step s <;> simp [isNext, after]

def order : LugOrder := { pacingFirst := true, guardFirst := false }

def posts (n : Nat) : List Post :=
  (List.range n).map fun i => { addr := BitVec.ofNat 32 (0x20000 + 16 * i), index := i, tag := 5, master := 0, awaiting := none }

def freshEntries (n : Nat) : List IntakeEntry :=
  (List.range n).map fun i => { head := 0, slot := i, kind := .fresh, awaiting := none }

def heldReads (n : Nat) (slot : Nat) (lug : Lug) : List HeldRead :=
  (List.range n).map fun i => { txn := 50 + i, master := 0, slot := slot, lug := lug, hold := 2000 }

def sortReads (n : Nat) : List WaitingSort := (List.range n).map fun i => { txn := 60 + i, master := 0, slot := 3 }

def updates (n : Nat) : List TallyUpdate := List.replicate n { bank := false, key := .reject, forced := false, lug := 1 }

/-- The line with every list at its limit, its twelve fresh entries in twelve HELD slots. -/
def full : State :=
  { line with
    overrides := { line.overrides with
      fifo := posts 16, waiting := List.replicate 8 { lug := 110, kind := .chip, arg := 0, addr := 0x20100, tag := 5 } }
    dispatch := { line.dispatch with held := heldReads 4 8 104, waiting := sortReads 8 }
    tally := { line.tally with queue := updates 64 }
    intake := { tables := some (List.replicate 12 .held ++ [.free]) :: List.replicate 5 none, queue := freshEntries 12, engine := none } }

/-- The line with a burst at its port. -/
def State.at (s : State) (addr : Word) (a : Access) (p : Purpose) : State :=
  { s with bus := { s.bus with port := some { addr := addr, access := a, purpose := p } } }

/-- What the part has issued and not completed: the burst at the port, then the internal stream. -/
def issued (s : State) : List Burst := s.bus.port.toList ++ s.bus.internal

/-! ### Witnesses: the whole machine -/

theorem test_meets_FrontCommandRuns : State.reset.pending = [] := rfl

theorem test_meets_WellFormedCommandsComplete :
    Instr.wellFormed (.post (someWrite 1)) = true ∧ arrivalOf (.post (someWrite 17)) = some (.write (someWrite 17)) ∧
      exec (.post (someWrite 17)) line = .refused (.burstLength 17) ∧ exec (.post (someWrite 0)) line = .refused (.burstLength 0) :=
  ⟨by decide, rfl, rfl, rfl⟩

theorem test_meets_ExecLeavesQueue : ∃ t, exec .resetNAssert line = .next t := ⟨_, next_of (by decide)⟩

theorem test_meets_OutputsFollowTheState : ∃ t, exec .grade line = .next t := ⟨_, next_of (by decide)⟩

theorem test_meets_SkipAndAttentionFollowTheState : ∃ t, exec .intakeStart line = .next t := ⟨_, next_of (by decide)⟩

theorem test_meets_OnlyThePortWritesMemory :
    arrivalOf (.post (someWrite 1)) = some (.write (someWrite 1)) ∧ ∃ t, exec (.post (someWrite 1)) line = .next t :=
  ⟨rfl, _, next_of (by decide +kernel)⟩

def fed (c : Instr) (s : State) : State := s.withPending [c]

/-- A write of one word stands at the port, over memory that lists a byte already. -/
def writing : State :=
  fed .memoryBurstDone (State.at { line with bus := { line.bus with mem := [(0x80001, 7)] } } 0x80000 (.write [Beat.full 0x01000200])
    (.chassis 3 2 false))

theorem test_meets_StepKeepsMemoryCanonical : writing.memoryWf ∧ ∃ t, step writing = .next t :=
  ⟨by decide, _, step_of (by decide)⟩

theorem full_within : (fed .postReadbackStart full).WithinLimits where
  posts := by decide +kernel
  pendings := by decide +kernel
  heldReads := by decide +kernel
  sortReads := by decide +kernel
  updates := by decide +kernel
  fresh := by decide +kernel
  ring := fun r hr => by cases hr; exact ⟨_, rfl, by decide +kernel⟩

theorem test_meets_StepKeepsLimits :
    (fed .postReadbackStart full).WithinLimits ∧ ∃ t, step (fed .postReadbackStart full) = .next t := ⟨full_within, _, step_of (by decide)⟩

theorem test_meets_StepKeepsRecordTable :
    (fed .optimizerComplete line).TableSound ∧ ∃ t, step (fed .optimizerComplete line) = .next t :=
  ⟨sound_of (by decide +kernel), _, step_of (by decide)⟩

theorem full_sound : full.TableSound := sound_of (by decide +kernel)

theorem full_held (h i : Nat) (hh : frameSlot full h i = some .held) : h = 0 ∧ i < 12 := by
  match h with
  | 0 =>
    refine ⟨rfl, ?_⟩
    have hi : i < 13 := by
      simp only [frameSlot, full] at hh
      exact (List.getElem?_eq_some_iff.mp hh).1
    have : ∀ i, i < 13 → frameSlot full 0 i = some .held → i < 12 := by decide +kernel
    exact this i hi hh
  | 1 => exact absurd hh (by simp [frameSlot, full])
  | 2 => exact absurd hh (by simp [frameSlot, full])
  | 3 => exact absurd hh (by simp [frameSlot, full])
  | 4 => exact absurd hh (by simp [frameSlot, full])
  | 5 => exact absurd hh (by simp [frameSlot, full])
  | n + 6 => exact absurd hh (by simp [frameSlot, full])

theorem full_frame_slots : (fed .intakeStart full).FrameSlotsSound where
  table := sound_of (by decide +kernel)
  held := fun h i hh => by
    obtain ⟨rfl, hi⟩ := full_held h i hh
    exact Or.inl ⟨{ head := 0, slot := i, kind := .fresh, awaiting := none },
      List.mem_map.mpr ⟨i, List.mem_range.mpr hi, rfl⟩, rfl, rfl, rfl⟩
  fresh := by
    have h : ∀ e ∈ full.intake.queue, e.kind = .fresh → frameSlot full e.head e.slot = some .held ∧
      ∀ k, k < 32 → (full.record k).live = true → e.key ∉ (full.record k).held := by decide +kernel
    exact h
  listed := by
    have h : ∀ k, k < 32 → (full.record k).live = true →
      ∀ p ∈ (full.record k).held, frameSlot full p.1 p.2 = some .held := by decide +kernel
    exact h
  apart := fun j k p _ hk _ _ _ hp => by
    have h : ∀ k, k < 32 → (full.record k).held = [] := by decide +kernel
    have := h k hk
    change p ∈ (full.record k).held at hp
    rw [this] at hp
    cases hp
  readBacks := fun e he lug hl => by
    have h : ∀ e ∈ full.intake.queue, e.kind = .fresh := by decide +kernel
    rw [h e he] at hl
    cases hl
  engine := fun g hg => by cases hg
  windows := fun _ => by
    have h : ∀ h, h < 6 → (full.intake.tables.getD h none).map List.length =
      (frameWindow full.shadow.entries h).map frameSlots := by decide +kernel
    exact h
  loading := fun h => absurd rfl h
  startUp := fun h => by
    rcases h with h | h
    · exact absurd rfl h
    · exact absurd rfl h.1

theorem test_meets_StepKeepsFrameSlotsSound :
    (fed .intakeStart full).FrameSlotsSound ∧ ∃ t, step (fed .intakeStart full) = .next t :=
  ⟨full_frame_slots, _, step_of (by decide)⟩

theorem test_meets_DispatchedDecisionsStand :
    (fed .optimizerComplete line).TableSound ∧ (∃ t, step (fed .optimizerComplete line) = .next t) ∧
      ((fed .optimizerComplete line).record 3).state = .dispatched ∧ ((fed .optimizerComplete line).record 3).committed = true :=
  ⟨sound_of (by decide +kernel), ⟨_, step_of (by decide)⟩, by decide +kernel, by decide +kernel⟩

/-! ### Witnesses: inputs and lug events -/

def inReset (s : State) : State := { s with resetAsserted := true }

/-- The LUG filter at these levels with this filter time. -/
def lugAt (raw filtered : Bool) (timer : Option Nat) (time : Nat) (s : State) : State :=
  s.setFilter .lug { raw := raw, filtered := filtered, timer := timer, time := time }

/-- One state for each clause: the same level, back to the filtered level, adopted at once, timer started (at 1), and RESET_N asserted. -/
theorem test_meets_RawLevelChangeFilters :
    line.resetAsserted = false ∧ false = (line.inputs.get .lug).raw ∧
      (let s := lugAt true false (some 9) 9 line
       s.resetAsserted = false ∧ false ≠ (s.inputs.get .lug).raw ∧ false = (s.inputs.get .lug).filtered) ∧
      (let s := lugAt false false none 0 line
       s.resetAsserted = false ∧ true ≠ (s.inputs.get .lug).raw ∧ true ≠ (s.inputs.get .lug).filtered ∧
         (s.inputs.get .lug).time = 0) ∧
      (let s := lugAt false false none 1 line
       s.resetAsserted = false ∧ true ≠ (s.inputs.get .lug).raw ∧ true ≠ (s.inputs.get .lug).filtered ∧
         0 < (s.inputs.get .lug).time) ∧ (inReset line).resetAsserted = true := by decide +kernel

theorem test_meets_FilterTimerExpiryAdopts :
    ((lugAt true false (some 9) 9 line).inputs.get .lug).timer.isSome = true ∧ (line.inputs.get .lug).timer = none := by
  decide +kernel

/-- Filtered EYE and ALMIN as given, a filter time of 0, records with one at position 30 (lug 76) when `old`, 63 updates queued,
and pending entries for lugs 107 and 108. -/
def moving (eye almin old : Bool) (waiting : List Lug) : State :=
  { lugAt false false none 0 line with
    inputs := { (lugAt false false none 0 line).inputs with
      eye := { raw := eye, filtered := eye, timer := none, time := 0 }, almin := { raw := almin, filtered := almin, timer := none, time := 0 } }
    tracker := { line.tracker with records := if old then records.set 12 (decided 76 .dispatched true) else records }
    lineGuard := { line.lineGuard with flags := line.lineGuard.flags.set 0 { notes := [106], counter := 2, shown := true, latched := false } }
    tally := { line.tally with queue := updates 63 }
    overrides := { line.overrides with waiting := waiting.map fun l => { lug := l, kind := .chip, arg := 0, addr := 0x20000, tag := 5 } } }

def lugRises : Instr := .rawLevelChange .lug true order

theorem test_meets_LugNumberCountsLugEvents :
    (∃ t, exec lugRises (moving true false false []) = .next t ∧ (moving true false false []).shadow.part = .running ∧
      (moving true false false []).inputs.lug.filtered = false ∧ t.inputs.lug.filtered = true) ∧
    (∃ t, exec (.filterTimerExpiry .lug order) line = .next t ∧
      ¬ (line.shadow.part = .running ∧ line.inputs.lug.filtered = false ∧ t.inputs.lug.filtered = true)) ∧
    ∃ t, exec lugRises (inReset line) = .next t ∧ (inReset line).resetAsserted = true :=
  ⟨⟨_, next_of (by decide), by decide +kernel⟩, ⟨_, next_of (by decide), by decide +kernel⟩, _, next_of (by decide), rfl⟩

/-- A record stands at position 30 with 63 updates queued, EYE asserted; and the same with none there. -/
theorem test_meets_LugTrackerAtLugEvent :
    (∀ s ∈ [moving true false true [108], moving true false false [108]], s.TableSound) ∧
    (∃ t, exec lugRises (moving true false true [108]) = .next t ∧ t.tracker.lug = (moving true false true [108]).tracker.lug + 1 ∧
      (moving true false true [108]).inputs.eye.filtered = true ∧
      (∀ q ∈ (moving true false true [108]).overrides.waiting, q.lug ≠ t.tracker.lug) ∧
      ((moving true false true [108]).record 12).live = true ∧
      position (moving true false true [108]).tracker.lug ((moving true false true [108]).record 12).lug = 30 ∧
      (moving true false true [108]).tally.queue.length < 64) ∧
    ∃ t, exec lugRises (moving true false false [108]) = .next t ∧ t.tracker.lug = (moving true false false [108]).tracker.lug + 1 ∧
      ∀ k, k < 32 → ((moving true false false [108]).record k).live = true →
        position (moving true false false [108]).tracker.lug ((moving true false false [108]).record k).lug ≠ 30 :=
  ⟨each_of (fun _ => sound_of) _ (by decide +kernel), ⟨_, next_of (by decide), by decide +kernel⟩,
    _, next_of (by decide), by decide +kernel⟩

/-- The same with 64 updates queued; with an intake queue, lug 106 SCANNING at position 0 and lug 101 uncommitted at position C - 1;
and with no record SCANNING. -/
theorem test_meets_LugTrackerClauses :
    let a : State := { moving true false true [108] with tally := { line.tally with queue := updates 64 } }
    let b : State := { moving true false false [108] with intake := full.intake }
    let c : State := { moving false false false [] with tracker := { line.tracker with records := records.set 10 Record.blank } }
    (∀ s ∈ [a, b, c], s.TableSound) ∧
    (∃ t, exec lugRises a = .next t ∧ t.tracker.lug = a.tracker.lug + 1 ∧ 64 ≤ a.tally.queue.length ∧
      t.events.classes.getLsbD 4 = true) ∧
    (∃ t, exec lugRises b = .next t ∧ t.tracker.lug = b.tracker.lug + 1 ∧ b.intake.queue ≠ [] ∧ (b.record 10).state = .scanning ∧
      position b.tracker.lug (b.record 10).lug = 0 ∧ (b.record 5).committed = false ∧ (t.record 5).committed = true ∧
      position b.tracker.lug (b.record 5).lug + 1 = commitPosition b.shadow.words) ∧
    ∃ t, exec lugRises c = .next t ∧ t.tracker.lug = c.tracker.lug + 1 ∧ (∀ k, k < 32 → (c.record k).state ≠ .scanning) ∧
      c.inputs.eye.filtered = false :=
  ⟨each_of (fun _ => sound_of) _ (by decide +kernel), ⟨_, next_of (by decide), by decide +kernel⟩,
    ⟨_, next_of (by decide), by decide +kernel⟩, _, next_of (by decide), by decide +kernel⟩

/-- Lug 76, at position 30 in slot 12, holds slot 0 of head 0 with its read-back queued before a fresh entry, and has two trim reads
held; the closes of lug 105 and of lug 76 itself are marked with that read-back, and lug 106 is SCANNING at position 0. -/
def retiring : State :=
  let s := moving true false true [108]
  { s.setRecord 12 { decided 76 .decided true with held := [(0, 0)] } with
    intake := { s.intake with
      tables := some (List.replicate 13 .held) :: List.replicate 5 none
      queue := [{ head := 0, slot := 0, kind := .readBack 76, awaiting := none }, { head := 0, slot := 5, kind := .fresh, awaiting := none }] }
    measure := { awaiting := [{ slot := 9, lug := 105, rescan := false, mark := some (0, 0) },
      { slot := 12, lug := 76, rescan := true, mark := some (0, 0) }], finalising := [] }
    dispatch := { s.dispatch with held := heldReads 2 12 76 } }

/-- R12, R37, R142: lug 105 is ready to be finalised and lug 76's close is gone, the close of lug 106 is marked with the fresh entry, and
both reads are answered FALLBACK for lug 76 (0x004C in bits 31-16, status 3, all thirteen saws dropped). -/
theorem test_meets_LugTrackerRetireClauses :
    retiring.TableSound ∧ hasHeld retiring 12 = true ∧ (retiring.record 12).held ≠ [] ∧
    ∃ t, exec lugRises retiring = .next t ∧ t.tracker.lug = retiring.tracker.lug + 1 ∧
      t.intake.queue = [{ head := 0, slot := 5, kind := .fresh, awaiting := none }] ∧
      t.measure = { awaiting := [{ slot := 10, lug := 106, rescan := false, mark := some (0, 5) }],
                    finalising := [{ slot := 9, lug := 105, rescan := false, mark := none }] } ∧
      t.bus.answers.map Answer.reply = [.data [0x004C7FFF], .data [0x004C7FFF]] ∧ t.dispatch.held = [] ∧
      (t.flag 2).notes = [107] :=
  ⟨sound_of (by decide +kernel), by decide +kernel, by decide +kernel, _, next_of (by decide), by decide +kernel⟩

theorem test_meets_PendingOverridesAtLugEvent :
    (moving false false true [107, 108]).TableSound ∧
    (∃ t, exec lugRises (moving false false true [107, 108]) = .next t ∧
      t.tracker.lug = (moving false false true [107, 108]).tracker.lug + 1 ∧
      (moving false false true [107, 108]).inputs.eye.filtered = false) ∧
    ∃ t, exec lugRises (moving true false true [107, 108]) = .next t ∧
      t.tracker.lug = (moving true false true [107, 108]).tracker.lug + 1 :=
  ⟨sound_of (by decide +kernel), ⟨_, next_of (by decide), by decide +kernel⟩, _, next_of (by decide), by decide +kernel⟩

theorem test_meets_PacingAtLugEvent :
    (moving true true true []).TableSound ∧ ∃ t, exec lugRises (moving true true true []) = .next t ∧
      t.tracker.lug = (moving true true true []).tracker.lug + 1 ∧ (moving true true true []).resetAsserted = false ∧
      t.window .record ≠ none :=
  ⟨sound_of (by decide +kernel), _, next_of (by decide), by decide +kernel⟩

/-- SILENT with a note for the ended lug 106 reaches its k of 3. -/
theorem test_meets_GuardAtLugEvent :
    (moving true true true []).TableSound ∧ ∃ t, exec lugRises (moving true true true []) = .next t ∧
      t.tracker.lug = (moving true true true []).tracker.lug + 1 ∧ (t.flag 0).counter = 3 ∧ (t.flag 0).latched = true ∧
      (t.flag 5).shown = true ∧ lugEvents order (moving true true true []) t =
        [event .line 1 76 0 0, event .guard 1 107 0 0x00030003] :=
  ⟨sound_of (by decide +kernel), _, next_of (by decide), by decide +kernel⟩

/-! ### Witnesses: start-up -/

theorem test_meets_ResetNAssertRefusesAll : full.resetAsserted = false := rfl

theorem test_meets_ResetNReleasePowersOn :
    ({ line with resetAsserted := true } : State).resetAsserted = true ∧ ({ line with resetAsserted := true } : State).bus.port = none :=
  ⟨rfl, rfl⟩

/-- Memory with the format word at address 0. -/
def formatted : List Host.Cell := Memory.writeBeats [] 0 [Beat.full 0x48160001]

theorem test_meets_FormatWordReadDecides :
    State.reset.bus.port = some { addr := 0, access := .read 1, purpose := .loadFormat } ∧ State.reset.shadow.load.isSome = true ∧
      Memory.readWord State.reset.bus.mem 0 ≠ 0x48160001#32 ∧
      (∀ h ∈ State.reset.shadow.held, carriesFormatWord h.write = false) ∧ Memory.readWord formatted 0 = 0x48160001#32 := by
  decide +kernel

/-- Of three held writes the second is a format word write: it is watched, and the third stays held. -/
theorem test_meets_FormatWordReadHeldFormat :
    let held (n : Nat) (w : BusWrite) : HeldWrite := { txn := n, write := w }
    let pre := held 0 (someWrite 1)
    let fmt := held 1 (oneWord 2 0#32 0x48160001)
    let s : State := { State.reset with shadow := { State.reset.shadow with held := [pre, fmt, held 2 (oneWord 0 720#32 7)] } }
    s.shadow.held = [pre] ++ fmt :: [held 2 (oneWord 0 720#32 7)] ∧ carriesFormatWord pre.write = false ∧
      carriesFormatWord fmt.write = true ∧
      (after (exec .formatWordReadDone s)).shadow.held.map HeldWrite.txn = [2] := by decide +kernel

/-- The last setup burst stands at the port of a STARTING part that has read `ws` before it. -/
def loaded (ws : List Word) : State :=
  State.at { State.reset with
      shadow := { Shadow.powerOn with load := some { cause := .powerOn, words := ws, awaitEvent := false, awaitTally := false } } }
    4032 (.read 16) (.loadSetup true)

/-- With nothing read before, no window; with the image, an EVENT and a TALLY window. -/
theorem test_meets_SetupReadTakesEveryField :
    (loaded []).shadow.part = .starting ∧ (loaded []).shadow.held = [] ∧
    (∃ t, exec .setupReadDone (loaded []) = .next t ∧ t.window .event = none ∧ t.window .tally = none ∧ t.shadow.part = .running) ∧
    ∃ t, exec .setupReadDone (loaded image) = .next t ∧ t.window .event ≠ none ∧ t.window .tally ≠ none ∧
      (loaded image).tally.kept = false ∧ t.shadow.part = .starting :=
  ⟨rfl, rfl, ⟨_, next_of (by decide), by decide +kernel⟩, _, next_of (by decide), by decide +kernel⟩

/-- A line reset that began without a TALLY window: bank 1 active, a swap that waits for a window. -/
def keeping (ws : List Word) : State :=
  { loaded ws with tally := { (loaded ws).tally with bank := true, kept := true, swap := some { zeroing := .waiting, done := 2 } } }

/-- With a TALLY window in force now, and no EVENT window, the header goes out with bank 1 and the swap flag, and the first zeroing
burst of bank 1; with none, the swap waits on. -/
theorem test_meets_SetupReadKeepsTally :
    let t := after (exec .setupReadDone (keeping (image.set 46 0)))
    let u := after (exec .setupReadDone (keeping []))
    (keeping []).shadow.part = .starting ∧ (keeping []).tally.kept = true ∧ t.window .event = none ∧ t.window .tally ≠ none ∧
      t.shadow.part = .running ∧ t.tally.swap = some { zeroing := .running 0x40000, done := 2 } ∧ t.tally.kept = false ∧
      writeBurst 0x40000 [0x101] .plain ∈ issued t ∧
      writeBurst 0x40500 (List.replicate 16 0) (.zeroing 0) ∈ issued t ∧
      u.window .tally = none ∧ u.tally.swap = some { zeroing := .waiting, done := 2 } ∧ u.tally.bank = true := by decide +kernel

/-- While RUNNING; in a load that awaits the tally header too, and in one that does not, with a write held. -/
theorem test_meets_EventHeaderReadSetsRing :
    let s (tally : Bool) := State.at { line with
        shadow := { line.shadow with
          part := .starting, load := some { cause := .powerOn, words := [], awaitEvent := true, awaitTally := tally }
          held := [{ txn := 1, write := someWrite 1 }] } } 0x50000 (.read 2) .eventHeader
    let d := State.at { line with shadow := { line.shadow with part := .starting, phase := .draining } } 0x50000 (.read 2) .eventHeader
    ((State.at line 0x50000 (.read 2) .eventHeader).shadow.part = .running ∧
      ((State.at line 0x50000 (.read 2) .eventHeader).window .event).isSome = true ∧
      (∀ b, (s b).shadow.part = .starting ∧ ((s b).shadow.load.map Load.awaitTally) = some b ∧ ((s b).window .event).isSome = true) ∧
      d.shadow.load = none ∧ (d.window .event).isSome = true ∧ (after (exec .eventHeaderReadDone d)).shadow = d.shadow) ∧
      ∃ t, exec .eventHeaderReadDone (s false) = .next t ∧ t.shadow.part = .running ∧ t.shadow.held = [] :=
  ⟨by decide +kernel, _, next_of (by decide), by decide +kernel⟩

/-- The load has read the setup and awaits the tally header, and the event header as well when `event`. -/
def awaitingTally (event : Bool) : State :=
  State.at { line with
      shadow := { line.shadow with
        part := .starting, load := some { cause := .powerOn, words := [], awaitEvent := event, awaitTally := true } } }
    0x40000 (.read 1) .tallyHeader

theorem test_meets_TallyHeaderReadSetsTally :
    let s := awaitingTally false
    s.shadow.part = .starting ∧ s.shadow.held = [] ∧ (s.window .tally).isSome = true ∧ s.tally.kept = false ∧
      (s.shadow.load.map Load.awaitEvent) = some false ∧ ((awaitingTally true).shadow.load.map Load.awaitEvent) = some true ∧
      (awaitingTally true).shadow.part = .starting ∧ (after (exec .tallyHeaderReadDone (awaitingTally true))).shadow.part = .starting := by
  decide +kernel

theorem test_meets_FormatWordWriteStarts :
    let s (part : PartState) :=
      State.at { line with shadow := { line.shadow with part := part } } 0 (.write [Beat.full 0x48160001]) (.chassis 4 1 true)
    (∀ p, (s p).bus.port = some { addr := 0, access := .write [Beat.full 0x48160001], purpose := .chassis 4 1 true } ∧
      (s p).shadow.part = p) ∧ (after (exec .memoryBurstDone (s .running))).shadow.part = .running ∧
      (after (exec .memoryBurstDone (s .transparent))).shadow.part = .starting :=
  ⟨fun _ => ⟨rfl, rfl⟩, by decide +kernel⟩

def accepted : State :=
  State.at { full with shadow := { full.shadow with phase := .accepted 0 } } 0x20010 (.write [Beat.full 0x20005]) .lineResetDone

theorem test_meets_LineResetStartClears : accepted.shadow.part = .running ∧ accepted.shadow.phase = .accepted 0 := ⟨rfl, rfl⟩

/-- 64 updates are queued: the reset works them off. With none, it goes on: with the status area IDLE and its image, with a write of
it outstanding and no image, and with no RECORD window. -/
theorem test_meets_LineResetStartClauses :
    let idle : State := { accepted with tally := line.tally }
    let busy := idle.setArea 32 { count := 2, pub := .writingDirty }
    let bare : State := { idle with shadow := { idle.shadow with entries := idle.shadow.entries.set 2 { base := 0, limit := 0, control := 0 } } }
    let t (s : State) := after (exec .lineResetStart s)
    (∀ s ∈ [idle, busy, bare], s.shadow.part = .running ∧ s.shadow.phase = .accepted 0 ∧ s.tally.queue = [] ∧ s.tally.swap = none ∧
      s.tally.engine = none) ∧ accepted.tally.queue ≠ [] ∧ accepted.window .tally ≠ none ∧ (t accepted).shadow.phase = .draining ∧
      (idle.area 32).pub = .idle ∧ idle.window .record ≠ none ∧ bare.window .record = none ∧
      (issued (t idle)).map Burst.purpose = List.replicate 24 .plain ++ List.replicate 5 (.mirror 32 false) ++ [.mirror 32 true, .loadFormat] ∧
      (issued (t busy)).map Burst.purpose = List.replicate 24 .plain ∧ (t busy).shadow.phase = .statusDue ∧
      ((t busy).area 32).pub = .writingDirty ∧ (issued (t bare)).map Burst.purpose = List.replicate 24 .plain ++ [.loadFormat] := by decide +kernel

/-- The first and the last byte of the setup window, 1 word and 16. -/
theorem test_meets_SetupWriteHeldWhileStarting :
    let w : BusWrite := { someWrite 1 with addr := 0 }
    let v : BusWrite := { someWrite 16 with addr := 4095 }
    arrivalOf (.setupWriteHeld w) = some (.write w) ∧ BusWrite.wellFormed w = true ∧ w.addr.toNat < 4096 ∧
      BusWrite.wellFormed v = true ∧ v.addr.toNat < 4096 ∧ State.reset.resetAsserted = false ∧
      State.reset.shadow.part = .starting := by decide +kernel

/-! ### Witnesses: the bus path -/

/-- A read of 16 words, and a write at 4,096 while STARTING; a write outside every window while RUNNING. -/
theorem test_meets_PlainTransactionsPass :
    Transaction.isWrite (.read { master := 0, addr := 0, words := 16 }) = false ∧ State.reset.shadow.part = .starting ∧
      4096 ≤ (Transaction.addr (.write { someWrite 1 with addr := 4096 })).toNat ∧ line.shadow.part = .running ∧
      (∀ r ∈ regionsOf line.shadow.entries (.write (someWrite 16)), r = .outside) := by decide +kernel

/-- The seven checks of R180: span, align, mask, partial, owned, burst, range; and a setup write of master 0, which passes. -/
theorem test_meets_RefusedTransactionsHaveNoEffect :
    line.TableSound ∧ [Transaction.write { someWrite 2 with addr := 0xFFC }, .write { someWrite 1 with addr := 0x20002 },
      .write { someWrite 1 with addr := 720, master := 1 },
      .write { someWrite 1 with addr := 0x20008, beats := [{ data := 0, enables := 3 }] }, .write { someWrite 1 with addr := 0x30000 },
      .read { master := 0, addr := 0x60000, words := 2 }, .write { someWrite 1 with addr := 0x50004, beats := [Beat.full 16] },
      .write { someWrite 1 with addr := 720 }].map (accessCause line.shadow line.tally) =
      [some .span, some .align, some .mask, some .partial_, some .owned, some .burst, some .range, none] :=
  ⟨test_line_sound, by decide +kernel⟩

theorem test_meets_SetupWriteFollowed :
    line.Sized ∧ (∀ w ∈ [oneWord 0 720#32 7, oneWord 0 136#32 0], Admitted line (.write w) .setup) ∧
      ((4 * 180, Beat.full 7) ∈ carried (oneWord 0 720#32 7) ∧ holdsField 180 = true ∧
      (carried (oneWord 0 136#32 0)).any (fun p => p.1 == 4 * (34 + 3 * 0) && Beat.isFull p.2) = true) :=
  ⟨test_line_sound.sized, each_of (fun _ => admitted_of) _ (by decide +kernel), by decide +kernel⟩

/-- One burst of setup words 32 to 46 that takes the FRAME, OVERRIDE, RECORD, TALLY and EVENT entries away, and one that moves the
RECORD, TALLY and EVENT windows; skip-high without the release word; an entry that is enabled and not valid. -/
theorem test_meets_SetupWriteClauses :
    let none_ : BusWrite := { master := 0, addr := 128, beats := List.replicate 15 (Beat.full 0) }
    let ws : List Word := [0x38000, 0x3A0FC, 0x80FFFF02, 0x48000, 0x488FC, 0x80FFFF03, 0x58000, 0x5810C, 0x80FFFF04]
    let moved : BusWrite := { master := 0, addr := 152, beats := ws.map Beat.full }
    let bad : BusWrite := { master := 0, addr := 128, beats := [0x10000, 0xFFFC, 0x80FFFF00].map Beat.full }
    let t := after (exec (.setupWrite moved) full)
    (∀ p ∈ [(full, none_), (full, moved), (full, bad), (line, oneWord 0 40#32 1), (line, oneWord 0 48#32 40)],
      Admitted p.1 (.write p.2) .setup) ∧
      ((∀ h, h < 6 → losesTable full.shadow.entries t.shadow.entries h = false) ∧
      losesTable full.shadow.entries (after (exec (.setupWrite none_) full)).shadow.entries 0 = true ∧
      (after (exec (.setupWrite none_) full)).intake.queue = [] ∧ (after (exec (.setupWrite none_) full)).events.ring = none ∧
      eventKey full.shadow.entries ≠ eventKey t.shadow.entries ∧ t.window .event ≠ none ∧ t.window .record ≠ none ∧
      windowKey full.shadow.entries .record ≠ windowKey t.shadow.entries .record ∧
      windowKey full.shadow.entries .tally ≠ windowKey t.shadow.entries .tally ∧ t.window .tally ≠ none ∧
      release line.shadow.words = 1 ∧ release (after (exec (.setupWrite (oneWord 0 40#32 1)) line)).shadow.words = 0 ∧
      (after (exec (.setupWrite (oneWord 0 48#32 40)) line)).events.classes.getLsbD 6 = true ∧
      (after (exec (.setupWrite bad) full)).events.classes.getLsbD 6 = true ∧
      (let b := after (exec (.setupWrite bad) full)
       eventKey full.shadow.entries = eventKey b.shadow.entries ∧ windowKey full.shadow.entries .tally = windowKey b.shadow.entries .tally ∧
        (∀ p ∈ setupCarried bad, inGradingTables p.1 = false) ∧ (ignoredByWrite b.shadow.entries (setupCarried bad)).length = 1 ∧
        losesTable full.shadow.entries b.shadow.entries 0 = true)) :=
  ⟨each_of (fun _ => admitted_of) _ (by decide +kernel), by decide +kernel⟩

/-- R192, R195: a burst that makes the TRIM entry invalid and moves the EVENT window gives its SETUP_ERR to no ring: neither an entry
nor a producer word is written, and only the new header is read. -/
theorem test_event_window_change_drops_events :
    let w : BusWrite := { master := 0, addr := 176, beats := [0x58000, 0x5810C, 0x80FFFF04, 0x60080, 0x6007C, 0x80FFFF05].map Beat.full }
    let t := after (exec (.setupWrite w) line)
    t.events = { ring := none, overflow := true, classes := 0x40 } ∧
      t.bus.internal = [readBurst 0x58000 2 .eventHeader] := by decide +kernel

/-- R55: two heads lose their tables in one change: of the closes whose marks leave, that of lug 99, at position 7, is ready before that
of lug 103, at position 3, though its mark is of the second head. -/
theorem test_lost_tables_notice_by_position :
    let back (h : Nat) (lug : Lug) : IntakeEntry := { head := h, slot := 0, kind := .readBack lug, awaiting := none }
    let close (k : Nat) (lug : Lug) (h : Nat) : Close := { slot := k, lug := lug, rescan := true, mark := some (h, 0) }
    let s : State := { line with
      intake := { line.intake with queue := [back 0 103, back 1 99] }
      measure := { awaiting := [close 7 103 0, close 3 99 1], finalising := [] } }
    (loseTables [0, 1] s).measure.finalising.map Close.slot = [3, 7] := by decide +kernel

def uncommittedDecided (s : State) : List Nat :=
  (List.range 32).filter fun k => decide ((s.record k).committed = false ∧
    ((s.record k).state = .decided ∨ (s.record k).state = .optimizing))

/-- R94: of the line of Chapter 5, lugs 101, 102 and 103 go back and the run of 103 is lost: RESTART with 3 and 103 at event 0 of the ring.
With no run, RESTART has 0xFFFFFFFF; with no uncommitted record, nothing goes back. Words 265 to 275 reach from the price table into the bin table. -/
theorem test_meets_GradingTableWriteSendsBack :
    let mixed : BusWrite := { master := 0, addr := 1060, beats := List.replicate 11 (Beat.full 9) }
    let still : State := { line with optimizer := { line.optimizer with run := none } }
    let bare : State := { line with optimizer := { queue := [], run := none }, tracker := { line.tracker with records := [] } }
    ((∀ s ∈ [line, still], s.TableSound) ∧ ∀ w ∈ [oneWord 0 720#32 7, mixed], Admitted line (.write w) .setup) ∧
      (∀ p ∈ setupCarried (oneWord 0 720#32 7), inGradingTables p.1 = true) ∧
      (∃ p ∈ setupCarried mixed, inGradingTables p.1 = true) ∧ (∃ p ∈ setupCarried mixed, inGradingTables p.1 = false) ∧
      uncommittedDecided line = [5, 6, 7] ∧ uncommittedDecided bare = [] ∧ (line.optimizer.run.map Run.slot) = some 7 ∧
      (line.record 4).committed = true ∧ (line.record 8).state = .queued ∧ still.optimizer.run = none ∧
      writeBurst 0x50010 [0x102, 106, 3, 103] .plain ∈ issued priced ∧
      writeBurst 0x50010 [0x102, 106, 3, 0xFFFFFFFF] .plain ∈ issued (after (exec (.gradingTableWrite (oneWord 0 720#32 7)) still)) ∧
      (after (exec (.gradingTableWrite mixed) line)).optimizer.queue.map QueueEntry.slot = [6, 7, 8] :=
  ⟨⟨each_of (fun _ => sound_of) _ (by decide +kernel), each_of (fun _ => admitted_of) _ (by decide +kernel)⟩, by decide +kernel⟩

theorem test_meets_EnableMaskWritesActAtOnce :
    line.Sized ∧ arrivalOf (.guardEnableMaskWrite (oneWord 0 60#32 1)) = some (.write (oneWord 0 60#32 1)) ∧
      arrivalOf (.eventClassEnableWrite (oneWord 0 8#32 1)) = some (.write (oneWord 0 8#32 1)) ∧
      ∀ w ∈ [oneWord 0 60#32 1, oneWord 0 8#32 1], Admitted line (.write w) .setup :=
  ⟨test_line_sound.sized, rfl, rfl, each_of (fun _ => admitted_of) _ (by decide +kernel)⟩

/-- The write of one full word into window `j`, as a chassis transaction, and what `WritesWindow` asks of it. -/
def windowWrite (s : State) (j off : Nat) (d : Word) : BusWrite := oneWord 0 (windowAddr (entryAt s.shadow.entries j) off) d

def writesB (s : State) (kind : WindowKind) (j off : Nat) (d : Word) : Bool :=
  admittedB s (.write (windowWrite s j off d)) (.window j) && (entryAt s.shadow.entries j).kind == kind

theorem writes_of {s : State} {kind : WindowKind} {j off : Nat} {d : Word} (h : writesB s kind j off d = true) :
    WritesWindow s (.chassisTransaction (.write (windowWrite s j off d))) kind j off 0 d := by
  simp only [writesB, Bool.and_eq_true, beq_iff_eq] at h
  exact ⟨rfl, admitted_of h.1, h.2⟩

def readsB (s : State) (kind : WindowKind) (j k : Nat) : Bool :=
  admittedB s (.read { master := 0, addr := windowAddr (entryAt s.shadow.entries j) (4 * k), words := 1 }) (.window j) &&
    (entryAt s.shadow.entries j).kind == kind && decide (k < 32)

theorem reads_of {s : State} {kind : WindowKind} {j k : Nat} (h : readsB s kind j k = true) :
    ReadsSlot s (.trimRead 0 (windowAddr (entryAt s.shadow.entries j) (4 * k))) kind j k 0 := by
  simp only [readsB, Bool.and_eq_true, beq_iff_eq, decide_eq_true_eq] at h
  exact ⟨rfl, admitted_of h.1.1, h.1.2, h.2⟩

/-- Index 0 equals the producer index, 15 does not; there may be no header state; the ring has room at producer 14, and is full at 15. -/
theorem test_meets_ConsumerWriteSetsIndex :
    (∀ p ∈ [(line, (0 : Word)), (line, 15), ({ line with events := EventWriter.powerOn }, 0)],
      WritesWindow p.1 (.chassisTransaction (.write (windowWrite p.1 4 4 p.2))) .event 4 4 0 p.2) ∧
      line.events.ring = some { producer := 0, consumer := 0 } ∧
      ((line.window .event).map ringCapacity = some 16 ∧ (14 + 1) % 16 ≠ 0 ∧ (15 + 1) % 16 = 0) :=
  ⟨each_of (fun _ => writes_of) _ (by decide +kernel), rfl, by decide +kernel⟩

theorem test_meets_MemoryBurstDoneAnswers :
    writing.bus.port = some { addr := 0x80000, access := .write [Beat.full 0x01000200], purpose := .chassis 3 2 false } ∧
      (State.at line 0 (.read 16) (.chassis 1 0 false)).bus.port = some { addr := 0, access := .read 16, purpose := .chassis 1 0 false } ∧
      (State.at line 0 (.write [Beat.full 0x48160001]) (.chassis 1 0 true)).shadow.part ≠ .transparent ∧ line.bus.port = none := by
  decide +kernel

/-- The update engine at work on the first of `n` updates, with its last burst at the port. -/
def updating (n : Nat) (a : Access) (p : Purpose) (s : State) : State :=
  State.at { s with tally := { s.tally with queue := updates n, engine := some { base := 0x40000, values := [0xFFFFFFFF] } } } 0x40400 a p

def run (kind : EntryKind) (lug : Lug) (header : Word) : IntakeRun :=
  { head := 0, slot := 0, kind := kind, addr := 0x10000, header := header, lugWord := single lug.toNat, trailer := 0x80000000,
    slices := [], dropped := false }

/-- The engine has read header `n` of a frame of head 0, and memory holds its trailer with count `n`. -/
def framed (n : Nat) : State :=
  { line with
    intake := { line.intake with engine := some (run .fresh 106 (BitVec.ofNat 32 (0x5C3A0000 + n))) }
    bus := { line.bus with mem := Memory.writeBeats [] 0x103FC [Beat.full (BitVec.ofNat 32 (0x80000000 + n))] } }

def sliceReads (n : Nat) : List (Word × Access × Purpose) :=
  (issued (after (exec .memoryBurstDone (State.at (framed n) 0x103FC (.read 1) .frameTrailer)))).map
    fun b => (b.addr, b.access, b.purpose)

/-- R30: the slices of a frame of 1, of 8 and of 9, and of 200 slices, of which 120 are read in 15 bursts. -/
theorem test_slice_reads :
    badFrame 0 0x5C3A00C8 0x800000C8 = none ∧ sliceReads 1 = [(0x10008, .read 2, .frameSlices true)] ∧
      sliceReads 8 = [(0x10008, .read 16, .frameSlices true)] ∧
      sliceReads 9 = [(0x10008, .read 16, .frameSlices false), (0x10048, .read 2, .frameSlices true)] ∧
      (sliceReads 200).length = 15 ∧ (sliceReads 200).getLast? = some (0x10388, .read 16, .frameSlices true) := by decide +kernel

/-- Zeroing burst `i` of bank 1's frozen partner at the port. -/
def zeroing (i : Nat) : State :=
  State.at { line with tally := { line.tally with swap := some { zeroing := .running 0x40000, done := 0 } } }
    (BitVec.ofNat 32 (0x40100 + 64 * i)) (.write (List.replicate 16 (Beat.full 0))) (.zeroing i)

/-- Bursts of the part itself: a frame head, slices that are not the last, zeroing bursts 0 and 14, each with the next burst it issues;
reads of a load and of a tally update that are not the last. -/
theorem test_meets_MemoryBurstClauses :
    (framed 1).intake.engine.isSome = true ∧
      (after (exec .memoryBurstDone (State.at (framed 1) 0x10000 (.read 2) .frameHead))).intake.engine.isSome = true ∧
      (State.at (framed 9) 0x10008 (.read 16) (.frameSlices false)).intake.engine.isSome = true ∧
      ((after (exec .memoryBurstDone (State.at (framed 9) 0x10008 (.read 16) (.frameSlices false)))).intake.engine.map
        fun g => g.slices.length) = some 16 ∧
      [0, 14].map (fun i => (issued (after (exec .memoryBurstDone (zeroing i)))).map Burst.addr) = [[0x40140], [0x404C0]] ∧
      [0, 14].all (fun i => ((zeroing i).tally.swap.map Swap.zeroing) == some (.running 0x40000)) = true ∧
      (loaded []).shadow.load.isSome = true ∧ (updating 1 (.read 2) (.tallyRead false) line).tally.engine.isSome = true ∧
      (State.at line 0x50000 (.write [Beat.full 1]) .plain).bus.port =
        some { addr := 0x50000, access := .write [Beat.full 1], purpose := .plain } := by decide +kernel

/-- Area `k` in a publication state, its closing count word at the port. -/
def closing (k : Nat) (pub : PubState) (s : State) : State :=
  State.at (s.setArea k { count := 2, pub := pub }) 0x30000 (.write [Beat.full 2]) (.mirror k true)

def unpublished : State := { line with shadow := { line.shadow with entries := line.shadow.entries.set 2 { base := 0, limit := 0, control := 0 } } }

theorem test_meets_MirrorWriteCompletes :
    (closing 0 .writing line).Sized ∧
    (((closing 0 .writing line).area 0).pub = .writing ∧ (closing 0 .writing line).shadow.phase ≠ .statusDue ∧
      ((closing 32 .writingDirty line).area 32).pub = .writingDirty ∧ ((closing 32 .writingDirty line).window .record).isSome = true ∧
      ((closing 32 .writingDirty unpublished).area 32).pub = .writingDirty ∧ (closing 32 .writingDirty unpublished).window .record = none ∧
      (line.area 0).pub = .idle ∧ (line.window .record).isSome = true ∧ (unpublished.area 32).pub = .idle ∧
      unpublished.window .record = none ∧ line.shadow.load = none) ∧
    ∃ t, exec .optimizerComplete line = .next t ∧ t.shadow.part = .running ∧ t.window .record ≠ none ∧ t.record 7 ≠ line.record 7 ∧
      statusBody t ≠ statusBody line :=
  have sound : (closing 0 .writing line).TableSound := sound_of (by decide +kernel)
  ⟨sound.sized, by decide +kernel, _, next_of (by decide), by decide +kernel⟩

/-- A line reset waits for the status block: its image is written again, with count 4, and the load's first read follows. -/
theorem test_meets_MirrorWriteStatusDue :
    let due := closing 32 .writingDirty { line with shadow := { line.shadow with part := .starting, phase := .statusDue } }
    due.shadow.phase = .statusDue ∧ (due.area 32).pub = .writingDirty ∧ due.window .record ≠ none ∧
      ((after (exec .mirrorWriteComplete due)).area 32) = { count := 4, pub := .writing } ∧
      (issued (after (exec .mirrorWriteComplete due))).getLast?.map Burst.purpose = some .loadFormat := by decide +kernel

theorem test_meets_PortAlternates :
    let b := Burst.loadFormat
    let s : State := { line with bus := { line.bus with through := [b], internal := [b], lastGrant := some .through } }
    writing.bus.port ≠ none ∧ line.bus.port = none ∧ line.bus.through = [] ∧ line.bus.internal = [] ∧ line.bus.lastGrant = none ∧
      s.bus.port = none ∧ s.bus.through = [b] ∧ s.bus.internal = [b] ∧ s.bus.lastGrant = some .through := by decide +kernel

/-! ### Witnesses: frames and decisions -/

/-- `n` fresh entries in HELD slots, the other slots FREE. -/
def queued (n : Nat) : State :=
  { line with intake := { line.intake with
      tables := some (List.replicate n .held ++ List.replicate (13 - n) .free) :: List.replicate 5 none, queue := freshEntries n } }

/-- Slots 0 and 12, header and trailer, the trailer with 11 fresh entries waiting and with its marker clear. -/
theorem test_meets_FrameSlotWritesMoveSlots :
    (∀ p ∈ [(line, 0, (0 : Word)), (queued 11, 13308, 0x80000000), (full, 13308, 0x7FFFFFFF)],
      WritesWindow p.1 (.chassisTransaction (.write (windowWrite p.1 0 p.2.1 p.2.2))) .frame 0 p.2.1 0 p.2.2) ∧
      (frameSlot line 0 0 = some .free ∧ frameSlot (queued 11) 0 12 = some .free ∧ freshCount (queued 11) < 12 ∧
      trailerComplete 0x80000000 = true ∧ 13308 = 1024 * 12 + 1020 ∧ 12 < frameSlots (entryAt line.shadow.entries 0) ∧
      (entryAt line.shadow.entries 0).head = 0 ∧ trailerComplete 0x7FFFFFFF = false) :=
  ⟨each_of (fun _ => writes_of) _ (by decide +kernel), by decide +kernel⟩

/-- Words 1 and 254 of a slot; and 16 words from word 250 of slot 11 over its trailer into slot 12, with slot 11 HELD, with 12 entries
fresh and neither HELD, and with 11. -/
theorem test_meets_FrameSlotWriteClauses :
    let w : BusWrite := { master := 0, addr := 0x12FE8, beats := List.replicate 16 (Beat.full 0x80000000) }
    let wide (n : Nat) : State := { queued 11 with intake := { (queued 11).intake with queue := freshEntries n } }
    (∀ off ∈ [1024 * 0 + 4 * 1, 1024 * 0 + 4 * 254],
      WritesWindow line (.chassisTransaction (.write (windowWrite line 0 off 0))) .frame 0 off 0 0) ∧
      (∀ s ∈ [full, wide 12, wide 11], Admitted s (.write w) (.window 0)) ∧
      ((entryAt line.shadow.entries 0).kind = .frame ∧ frameSlot full 0 11 = some .held ∧ frameSlot (wide 12) 0 11 = some .free ∧
      frameSlot (wide 11) 0 12 = some .free ∧ freshCount (wide 12) = 12 ∧ freshCount (wide 11) = 11) ∧
      ∀ p ∈ [(11, 255, 0x12FFC), (12, 0, 0x13000)], p.1 < frameSlots (entryAt line.shadow.entries 0) ∧ p.2.1 < 256 ∧
        (p.2.2, Beat.full 0x80000000) ∈ carried w ∧
        p.2.2 - (entryAt line.shadow.entries 0).start = 1024 * p.1 + 4 * p.2.1 :=
  ⟨each_of (fun _ => writes_of) _ (by decide +kernel), each_of (fun _ => admitted_of) _ (by decide +kernel), by decide +kernel⟩

/-- Words 0 and 255 of a HELD slot, and the trailer of a FREE slot with 12 fresh entries waiting. -/
theorem test_meets_HeldSlotsAndFullQueueRefuse :
    (∀ p ∈ [(1024 * 0 + 4 * 0, (0 : Word)), (1024 * 0 + 4 * 255, 0), (1024 * 12 + 4 * 255, 0x80000000)],
      WritesWindow full (.chassisTransaction (.write (windowWrite full 0 p.1 p.2))) .frame 0 p.1 0 p.2) ∧
      (frameSlot full 0 0 = some .held ∧ frameSlot full 0 12 = some .free ∧ 12 ≤ freshCount full) :=
  ⟨each_of (fun _ => writes_of) _ (by decide +kernel), by decide +kernel⟩

theorem test_meets_IdleEnginesTakeTheirHead :
    full.shadow.part = .running ∧ full.intake.engine = none ∧
      (full.intake.queue.head?.map IntakeEntry.awaiting) = some none ∧ (frameWindow full.shadow.entries 0).isSome = true ∧
      full.shadow.phase = .none ∧ full.overrides.readback = .idle ∧ (full.overrides.fifo.head?.map Post.awaiting) = some none := by
  decide +kernel

/-- An intake whose last burst of slices, of two words, stands at the port. -/
def taking (e : IntakeRun) (s : State) : State :=
  State.at { s with intake := { s.intake with engine := some e } } 0x10008 (.read 2) (.frameSlices true)

theorem taking_ends (e : IntakeRun) (s : State) :
    IntakeEnds (taking e s) { e with slices := e.slices ++ Memory.readWords s.bus.mem (0x10008#32).toNat 2 } :=
  ⟨_, e, rfl, rfl, Or.inl ⟨2, rfl, rfl, rfl⟩⟩

/-- The record of slot `k` changed. -/
def withHeld (k n : Nat) (s : State) : State :=
  s.setRecord k { s.record k with held := (List.range n).map fun i => (0, i) }

/-- Lug 106 is SCANNING with 11 and with 12 slots held; lug 90 has no record; head 1 in the header is bad in form; lug 105 is CLOSING
and its slot 0/0 is read back, with its own lug word and with another. -/
theorem test_meets_IntakeCompleteJudges :
    (taking (run .fresh 106 0x5C3A0000) (withHeld 10 11 line)).TableSound ∧
    (mergesInto (taking (run .fresh 106 0x5C3A0000) (withHeld 10 11 line)) 106 = true ∧
      ((taking (run .fresh 106 0x5C3A0000) (withHeld 10 11 line)).record 10).held.length = 11 ∧
      ((taking (run .fresh 106 0x5C3A0000) (withHeld 10 12 line)).record 10).held.length = 12 ∧
      mergesInto (taking (run .fresh 106 0x5C3A0000) (withHeld 10 12 line)) 106 = true ∧
      mergesInto (taking (run .fresh 90 0x5C3A0000) line) 90 = false ∧
      badFrame 0 0x5C3A0000 0x80000000 = none ∧ badFrame 0 0x5C3A0100 0x80000000 = some 2 ∧
      lugTag (run .fresh 106 0x5C3A0000).lugWord = 106 ∧ slotOf 106 = 10 ∧
      ((taking (run (.readBack 105) 105 0x5C3A0000) (withHeld 9 1 line)).record 9).state = .closing ∧
      lugTag (run (.readBack 105) 104 0x5C3A0000).lugWord ≠ 105) ∧
    IntakeEnds (taking (run .fresh 106 0x5C3A0000) (withHeld 10 11 line))
      { run .fresh 106 0x5C3A0000 with slices := Memory.readWords (withHeld 10 11 line).bus.mem (0x10008#32).toNat 2 } :=
  ⟨sound_of (by decide +kernel), by decide +kernel, taking_ends _ _⟩

/-- An engine whose entry has left; lug 105 CLOSING with its close still owing an entry; read-backs of lug 90, without a record, and of
lug 103, OPTIMIZING. -/
theorem test_meets_IntakeCompleteClauses :
    let owing : State := { line with
      measure := { line.measure with awaiting := [{ slot := 9, lug := 105, rescan := false, mark := some (0, 0) }] } }
    IntakeEnds (taking { run .fresh 106 0x5C3A0000 with dropped := true } line)
        { run .fresh 106 0x5C3A0000 with dropped := true, slices := Memory.readWords line.bus.mem (0x10008#32).toNat 2 } ∧
      (∀ s ∈ [taking (run .fresh 105 0x5C3A0000) owing, taking (run (.readBack 103) 103 0x5C3A0000) line], s.TableSound) ∧
      ((owing.record 9).state = .closing ∧ (owing.record 9).lug = 105 ∧
      (∃ c ∈ owing.measure.awaiting, c.slot = 9 ∧ c.lug = 105 ∧ c.rescan = false) ∧
      (line.record (slotOf 103)).state = .optimizing ∧ (line.record (slotOf 90)).lug ≠ 90) :=
  ⟨taking_ends _ _, each_of (fun _ => sound_of) _ (by decide +kernel), by decide +kernel⟩

/-- R37, R55: the entry of slot 0/0 is judged: the close of lug 105 marked with it is ready to be finalised, that of lug 104 behind it
still waits for the entry of slot 0/1. -/
theorem test_frames_taken_in :
    let close (k : Nat) (lug : Lug) (i : Nat) : Close := { slot := k, lug := lug, rescan := false, mark := some (0, i) }
    let s : State := { full with measure := { awaiting := [close 9 105 0, close 8 104 1], finalising := [] } }
    (after (exec .intakeComplete (taking (run .fresh 106 0x5C3A0000) s))).measure =
      { awaiting := [close 8 104 1], finalising := [{ close 9 105 0 with mark := none }] } := by decide +kernel

theorem test_meets_MergeKeepsBounds :
    graded.segments.length = 12 ∧ graded.length ≤ 7320 ∧ knot.wane ≤ 255 ∧
      ∀ i, i < 12 → (graded.segment i).minThickness ≤ 2000 ∧ (graded.segment i).minWidth ≤ 4000 ∧
        (graded.segment i).maxWane ≤ 1275 ∧ (graded.segment i).defects ≤ 65535 ∧
        (graded.segment i).wood ≤ 255 ∧ (graded.segment i).knots ≤ 255 := by decide +kernel

/-- The close of lug 105 is being finalised: without override, with chip, and with a trim read held for it as well. -/
def finalising (chip : Bool) (held : Nat) : State :=
  { line.setRecord 9 { board 105 .closing with length := 4900, chip := chip } with
    measure := { awaiting := [], finalising := [{ slot := 9, lug := 105, rescan := false, mark := none }] }
    dispatch := { line.dispatch with held := heldReads held 9 105 } }

theorem test_meets_CloseCompleteFinalises :
    (∀ s ∈ [finalising true 1, finalising false 0], s.TableSound) ∧
      ((finalising false 0).record 9).state = .closing ∧ ((finalising false 0).record 9).lug = 105 ∧
      ((finalising false 0).record 9).chip = false ∧ ((finalising false 0).record 9).forcedTrim = none ∧
      ((finalising true 0).record 9).chip = true ∧ hasHeld (finalising true 0) 9 = false ∧ hasHeld (finalising true 1) 9 = true ∧
      ((after (exec .closeComplete (finalising false 0))).record 9).silent ≠ 0 ∧
      (finalise image { (finalising false 0).record 9 with contributed := 0x3F }).silent = 0 :=
  ⟨each_of (fun _ => sound_of) _ (by decide +kernel), by decide +kernel⟩

/-- R78: a forced trim (0, 9) beyond P = 8 gives TRIM_RANGE with 0, 9 and 8 to the close, whose board has no silent head, and to the
optimizer: two entries of class 1 and code 4 at the ring's first place. -/
theorem test_trim_range :
    let r : Record := { board 105 .closing with length := 4900, forcedTrim := some (0, 9), contributed := 0x3F }
    let s : State := { (finalising false 0).setRecord 9 r with events := line.events }
    let o : State := { line with optimizer := { line.optimizer with
      run := some { slot := 7, lug := 103, record := { decided 103 .optimizing false with forcedTrim := some (0, 9) }, tables := image } } }
    writeBurst 0x50010 [0x104, 105, 0x00090000, 8] .plain ∈ issued (after (exec .closeComplete s)) ∧
      writeBurst 0x50010 [0x104, 103, 0x00090000, 8] .plain ∈ issued (after (exec .optimizerComplete o)) := by decide +kernel

/-- R16, R58, R89: a join and the start of its run are two changes: the write begun at the join shows QUEUED, and the start, landing on
it, is noted. -/
theorem test_start_is_published_apart :
    let s : State := { finalising false 0 with
      optimizer := { queue := [], run := none }
      tracker := { (finalising false 0).tracker with records := (finalising false 0).tracker.records.set 8 Record.blank } }
    let t := after (exec .closeComplete s)
    (t.record 9).state = .optimizing ∧ (t.area 9).pub = .writingDirty ∧
      (recordBody { t.record 9 with state := .queued }).take 16 =
        ((t.bus.internal.find? fun b => b.addr == 0x30A04#32).toList.flatMap wordsWritten).map Prod.snd := by decide +kernel

theorem test_meets_OptimizerCompleteDecides :
    line.TableSound ∧ line.shadow.part = .running ∧ (line.optimizer.run.map Run.slot) = some 7 ∧
      (line.record 7).state = .optimizing ∧ (line.record 7).lug = 103 := ⟨test_line_sound, by decide +kernel⟩

theorem test_meets_SearchChoosesBestCandidate :
    graded.present ≤ 12 ∧ graded.forcedGrade ≠ some 7 ∧ validCandidates image graded ≠ [] ∧
      validCandidates image { graded with marks := 0xFFF } = [] ∧ (graded.segment 0).unseen = false ∧
      ({ graded with forcedGrade := some 7 } : Record).forcedGrade = some 7 := by decide +kernel

/-! ### Witnesses: overrides -/

/-- Entries 0 and 15 posted already, entry 16 not; 15 and 16 posts; the marker clear. -/
theorem test_meets_PostsJoinTheFifo :
    let s : State := { line with overrides := { line.overrides with fifo := posts 15 } }
    (∀ p ∈ [(s, 16, (0x9234 : Word)), (full, 16, 0x9234), (full, 0, 0x1234)],
      WritesWindow p.1 (.chassisTransaction (.write (windowWrite p.1 1 (16 * p.2.1 + 8) p.2.2))) .override 1 (16 * p.2.1 + 8) 0 p.2.2) ∧
      16 < overrideEntries (entryAt line.shadow.entries 1) ∧
      (∀ p ∈ full.overrides.fifo, p.addr ≠ windowAddr (entryAt line.shadow.entries 1) (16 * 16)) ∧
      (∃ p ∈ full.overrides.fifo, p.addr = windowAddr (entryAt line.shadow.entries 1) (16 * 0)) ∧
      postMarker 0x9234 = true ∧ postMarker 0x1234 = false ∧ s.overrides.fifo.length = 15 ∧ full.overrides.fifo.length = 16 :=
  ⟨each_of (fun _ => writes_of) _ (by decide +kernel), by decide +kernel⟩

/-- A burst over the entries 13 to 16, each word with the marker set, makes four posts: it fits behind 12 posts of entries 0 to 11, does
not behind 13, of which the last is of entry 12, and behind 14 entry 13 is busy as well. -/
theorem test_meets_PostBurstClauses :
    let w : BusWrite := { master := 0, addr := 0x200D0, beats := List.replicate 16 (Beat.full 0x8005) }
    let s (n : Nat) : State := { line with overrides := { line.overrides with fifo := posts n } }
    let e := entryAt line.shadow.entries 1
    (∀ n ∈ [12, 13, 14], Admitted (s n) (.write w) (.window 1)) ∧ EntryWord e w 13 0 (Beat.full 0x8005) ∧
      (e.kind = .override ∧ (postsMade e w 0).map Post.index = [13, 14, 15, 16] ∧
      (∃ p ∈ (s 14).overrides.fifo, p.addr = windowAddr e (16 * 13)) ∧
      ∀ p ∈ (s 13).overrides.fifo, ∀ i ∈ [13, 14, 15, 16], p.addr ≠ windowAddr e (16 * i)) :=
  ⟨each_of (fun _ => admitted_of) _ (by decide +kernel),
    have word : 13 < overrideEntries (entryAt line.shadow.entries 1) ∧ (0x200D0 : Nat) - (entryAt line.shadow.entries 1).start = 16 * 13 + 4 * 0 := by
      decide +kernel
    ⟨word.1, by decide, 0x200D0, by decide +kernel, word.2⟩, by decide +kernel⟩

def post (w2 : Word) (m : Master) : Post := { addr := 0x20000, index := 0, tag := postTag w2, master := m, awaiting := none }

/-- The read-back of entry 0 at the port, the entry holding kind code, key, argument and post word. -/
def entry (code key : Nat) (arg w2 : Word) (m : Master) (s : State) : State :=
  State.at { s with
      overrides := { s.overrides with fifo := [post w2 m], readback := .reading }
      bus := { s.bus with
        mem := Memory.writeBeats [] 0x20000 [Beat.full (single (code * 2 ^ 24 + key)), Beat.full arg, Beat.full w2] } }
    0x20000 (.read 3) .overrideRead

theorem returns_of {m : Master} {s : State} (e : Nat × Nat × Word × Word)
    (h : decide (Memory.readWords (entry e.1 e.2.1 e.2.2.1 e.2.2.2 0 line).bus.mem (0x20000#32).toNat 3 =
      [single (e.1 * 2 ^ 24 + e.2.1), e.2.2.1, e.2.2.2]) = true) :
    ReadbackReturns (entry e.1 e.2.1 e.2.2.1 e.2.2.2 m s) (post e.2.2.2 m) [] (single (e.1 * 2 ^ 24 + e.2.1)) e.2.2.1 e.2.2.2 where
  port := rfl
  words := of_decide_eq_true h
  reading := rfl
  head := rfl

/-- An entry that stands, by kind code, key, argument and kind; its post word is 0x8005. -/
structure Case where
  code : Nat
  key : Nat
  arg : Word
  kind : OverrideKind

/-- Its word 0 (R201), and the state in which its read-back returns. -/
def Case.word (e : Case) : Word := single (e.code * 2 ^ 24 + e.key)
def Case.read (e : Case) (m : Master) (s : State) : State := entry e.code e.key e.arg 0x8005 m s

def Case.Stands (m : Master) (s : State) (e : Case) : Prop := EntryStands (e.read m s) (post 0x8005 m) [] e.word e.arg 0x8005 e.kind

def Case.standsB (e : Case) : Bool :=
  decide (Memory.readWords (e.read 0 line).bus.mem (0x20000#32).toNat 3 = [e.word, e.arg, 0x8005]) &&
    (kindOfCode (entryKindCode e.word) == some e.kind && !argOutOfRange e.kind (entryKey e.word) e.arg)

theorem Case.stands_of {m : Master} {s : State} (e : Case) (h : e.standsB = true) : e.Stands m s := by
  rw [Case.standsB, Bool.and_eq_true, Bool.and_eq_true] at h
  exact { returns := returns_of (e.code, e.key, e.arg, 0x8005) h.1, marker := by decide, tag := rfl
          isKind := eq_of_beq h.2.1, inRange := by simpa using h.2.2 }

/-- The entry stands and is judged against the record of a slot. -/
def Case.On (s : State) (p : Case × Nat) : Prop := p.1.Stands 0 s ∧ Judged (p.1.read 0 s) p.1.word p.2

def Case.onB (s : State) (p : Case × Nat) : Bool :=
  p.1.standsB && (decide (slotOf (lugTag p.1.word) = p.2) && (decide (position s.tracker.lug (lugTag p.1.word) < commitPosition s.shadow.words) &&
    ((s.record p.2).live && (decide ((s.record p.2).lug = lugTag p.1.word) && !(s.record p.2).committed))))

theorem Case.on_of {s : State} (p : Case × Nat) (h : Case.onB s p = true) : Case.On s p := by
  simp only [Case.onB, Bool.and_eq_true, decide_eq_true_eq, Bool.not_eq_true'] at h
  exact ⟨p.1.stands_of h.1, { slot := h.2.1, near := h.2.2.1, live := h.2.2.2.1, lug := h.2.2.2.2.1
                              uncommitted := h.2.2.2.2.2 }⟩

/-- GRADE, TRIM, CHIP, MARK and CLEAR of lug 106, SCANNING in slot 10, and of lug 105, CLOSING in slot 9. -/
theorem test_meets_OpenRecordStoresOverride :
    (entry 1 106 7 0x8005 0 line).TableSound ∧
      (∀ p ∈ [(⟨1, 106, 7, .grade⟩, 10), (⟨2, 106, 0xC0000, .trim⟩, 10), (⟨3, 105, 0, .chip⟩, 9), (⟨4, 105, 1, .mark⟩, 9),
        (⟨5, 105, 0, .clear⟩, 9)], Case.On line p) ∧ (line.record 10).state = .scanning ∧ (line.record 9).state = .closing :=
  ⟨sound_of (by decide +kernel), each_of Case.on_of _ (by decide +kernel), by decide +kernel⟩

/-- GRADE of lug 104, QUEUED; MARK of lug 103, OPTIMIZING; CLEAR of lug 101, DECIDED at position C - 1. -/
theorem test_meets_MeasuredRecordIsRequeued :
    (entry 5 101 0 0x8005 0 line).TableSound ∧
      (∀ p ∈ [(⟨1, 104, 0, .grade⟩, 8), (⟨4, 103, 0xFFF, .mark⟩, 7), (⟨5, 101, 0, .clear⟩, 5)], Case.On line p) ∧
      (line.record 8).state = .queued ∧ (line.record 7).state = .optimizing ∧ (line.record 5).state = .decided ∧
      (line.optimizer.run.map Run.slot) = some 7 :=
  ⟨sound_of (by decide +kernel), each_of Case.on_of _ (by decide +kernel), by decide +kernel⟩

/-- TRIM (0, 8) within and TRIM (0, 9) beyond P = 8 of lug 101, DECIDED; CHIP of lug 104, QUEUED. -/
theorem test_meets_ForcedTrimDecidesAtOnce :
    (entry 2 101 0x80000 0x8005 0 line).TableSound ∧
      (∀ p ∈ [(⟨2, 101, 0x80000, .trim⟩, 5), (⟨2, 101, 0x90000, .trim⟩, 5), (⟨3, 104, 0, .chip⟩, 8)], Case.On line p) ∧
      (line.record 5).state = .decided ∧ (line.record 5).present = 8 ∧ hasHeld line 5 = false ∧ hasHeld full 8 = true ∧
      full.tracker = line.tracker :=
  ⟨sound_of (by decide +kernel), each_of Case.on_of _ (by decide +kernel), by decide +kernel⟩

/-- RESCAN of lug 101, DECIDED, with one held slot and with none, and of lug 106, SCANNING. -/
theorem test_meets_RescanReopensRecord :
    (entry 6 101 0 0x8005 0 (withHeld 5 1 line)).TableSound ∧ Case.On (withHeld 5 1 line) (⟨6, 101, 0, .rescan⟩, 5) ∧
      (∀ p ∈ [(⟨6, 101, 0, .rescan⟩, 5), (⟨6, 106, 0, .rescan⟩, 10)], Case.On line p) ∧
      ((withHeld 5 1 line).record 5).held ≠ [] ∧ (line.record 5).held = [] :=
  ⟨sound_of (by decide +kernel), Case.on_of _ (by decide +kernel), each_of Case.on_of _ (by decide +kernel), by decide +kernel⟩

/-- Kind codes 0 and 13, GRADE of 8, BINEMPTY of bin 16, and an entry whose post word lost its marker. -/
theorem test_meets_FailedEntriesHaveNoEffect :
    (entry 13 106 0 0x8005 0 line).TableSound ∧
      (∀ e ∈ [(13, 106, (0 : Word), (0x8005 : Word)), (1, 106, 8, 0x8005), (0, 106, 8, 0x0005)],
        ReadbackReturns (entry e.1 e.2.1 e.2.2.1 e.2.2.2 0 line) (post e.2.2.2 0) [] (single (e.1 * 2 ^ 24 + e.2.1)) e.2.2.1 e.2.2.2) ∧
      kindOfCode 13 = none ∧ kindOfCode 0 = none ∧ argOutOfRange .grade 106 8 = true ∧ argOutOfRange .binEmpty 16 0 = true ∧
      postMarker 0x8005 = true ∧ postMarker 0x0005 = false :=
  ⟨sound_of (by decide +kernel), each_of returns_of _ (by decide +kernel), by decide +kernel⟩

/-- With C = 6 and the lug number 106: d = 5 committed, d = 2 without a board, d = 6 and 31, 1 and 8 ahead, a full list, 9 ahead
and d = 32. -/
theorem test_meets_BoardKindsJudgedByDistance :
    (entry 3 107 0 0x8005 0 line).TableSound ∧ Case.Stands 0 line ⟨3, 107, 0, .chip⟩ ∧
      lugJudgement (line.setRecord 5 (decided 101 .decided true)) 101 = some .tooLate ∧
      lugJudgement (line.setRecord 8 Record.blank) 104 = some .noBoard ∧
      [100, 75, 107, 114, 115, 74].map (lugJudgement line) =
        [some .tooLate, some .tooLate, some .pending, some .pending, some .outOfRange, some .outOfRange] ∧
      lugJudgement full 114 = some .pendingFull :=
  ⟨sound_of (by decide +kernel), Case.stands_of _ (by decide +kernel), by decide +kernel⟩

/-- BINEMPTY of bin 15, SHIFT with and without a swap in progress and with and without a TALLY window, ACK of flag 5, ALARMTEST of 1 and 0. -/
theorem test_meets_RequestsWithoutABoard :
    let swapping : State := { line with tally := { line.tally with swap := some { zeroing := .ended, done := 0 } } }
    let windowless : State := { line with shadow := { line.shadow with entries := line.shadow.entries.set 3 { base := 0, limit := 0, control := 0 } } }
    let shift : Case := ⟨8, 0, 0, .shift⟩
    (entry 7 15 0 0x8005 0 line).TableSound ∧
      (∀ e ∈ [⟨7, 15, 0, .binEmpty⟩, shift, ⟨9, 0, 0x20, .ack⟩, ⟨10, 0, 1, .alarmTest⟩, ⟨10, 0, 0, .alarmTest⟩], Case.Stands 0 line e) ∧
      (shift.Stands 0 swapping ∧ shift.Stands 0 windowless) ∧ line.tally.swap = none ∧ line.window .tally ≠ none ∧
      windowless.window .tally = none ∧
      ((issued (after (exec .shift (shift.read 0 line)))).take 2).map Burst.purpose = [.plain, .zeroing 0] ∧
      ((issued (after (exec .shift (shift.read 0 windowless)))).take 2).map Burst.purpose = [.mirror 32 false, .mirror 32 false] :=
  ⟨sound_of (by decide +kernel), each_of Case.stands_of _ (by decide +kernel), ⟨shift_stands, shift_stands⟩, by decide +kernel⟩
where
  shift_stands {s : State} : Case.Stands 0 s ⟨8, 0, 0, .shift⟩ := Case.stands_of _ (by decide +kernel)

/-- A safety time of 30 and of 0; a running timer and a stopped one. -/
theorem test_meets_SawTestSetsAndExpires :
    (∀ s ∈ [entry 11 0 0x1FFF 0x8005 0 line, { line with overrides := { line.overrides with sawMask := 1, sawTimer := some 30 } }],
      s.TableSound) ∧ (∀ e ∈ [⟨11, 0, 0x1FFF, .sawTest⟩, ⟨11, 0, 0, .sawTest⟩], Case.Stands 0 line e) ∧
      safetyTime line.shadow.words = 30 ∧ safetyTime (loaded []).shadow.words = 0 ∧ line.overrides.sawTimer = none :=
  ⟨each_of (fun _ => sound_of) _ (by decide +kernel), each_of Case.stands_of _ (by decide +kernel), by decide +kernel⟩

/-- Master 0 is in the setup writer mask, master 1 is not. -/
theorem test_meets_LineResetNeedsASetupWriter :
    (entry 12 0 0 0x8005 1 line).TableSound ∧ (∀ m, Case.Stands m line ⟨12, 0, 0, .lineReset⟩) ∧
      (setupWord line.shadow.words 1).getLsbD (post 0x8005 0).master.toNat = true ∧
      (setupWord line.shadow.words 1).getLsbD (post 0x8005 1).master.toNat = false :=
  ⟨sound_of (by decide +kernel), fun _ => Case.stands_of _ (by decide +kernel), by decide +kernel⟩

/-! ### Witnesses: answers -/

/-- Slots 0 and 31 FREE, 5 DECIDED, 3 DISPATCHED, 8 QUEUED with 0 and with 4 reads held. -/
theorem test_meets_TrimReadAnswers :
    line.TableSound ∧ (∀ p ∈ [(line, 0), (line, 31), (full, 8)],
        ReadsSlot p.1 (.trimRead 0 (windowAddr (entryAt p.1.shadow.entries 5) (4 * p.2))) .trim 5 p.2 0) ∧
      (line.record 31).state = .free ∧ (line.record 5).decision = some piece ∧ (line.record 5).state = .decided ∧
      (line.record 3).state = .dispatched ∧ (line.record 8).state = .queued ∧ line.dispatch.held.length < 4 ∧
      4 ≤ full.dispatch.held.length :=
  ⟨test_line_sound, each_of (fun _ => reads_of) _ (by decide +kernel), by decide +kernel⟩

/-- Four reads are held for lug 104, QUEUED in slot 8; and one for lug 72, which slot 8 no longer holds. -/
theorem test_meets_HoldExpiryFallsBack :
    full.TableSound ∧ ({ line with dispatch := { line.dispatch with held := heldReads 1 8 72 } } : State).TableSound ∧
      full.shadow.part = .running ∧ (full.dispatch.held[3]?.map HeldRead.slot) = some 8 ∧
      (full.dispatch.held[3]?.map HeldRead.lug) = some (full.record 8).lug ∧ (full.record 8).state = .queued ∧ (line.record 8).lug ≠ 72 :=
  ⟨full_sound, sound_of (by decide +kernel), by decide +kernel⟩

/-- A FREE slot; a DISPATCHED record and a DECIDED one with 31 updates queued; 32 updates with no read waiting; 8 reads waiting. -/
theorem test_meets_SortReadAnswersAndRetires :
    let busy (n : Nat) : State := { line with tally := { line.tally with queue := updates n } }
    line.TableSound ∧ (∀ p ∈ [(line, 31), (busy 31, 3), (busy 32, 5), (full, 3),
        ({ line with dispatch := { line.dispatch with held := heldReads 2 8 104 } }, 8)],
        ReadsSlot p.1 (.trimRead 0 (windowAddr (entryAt p.1.shadow.entries 6) (4 * p.2))) .sort 6 p.2 0) ∧
      line.dispatch.waiting = [] ∧ (line.record 31).state = .free ∧ (line.record 3).state = .dispatched ∧
      (line.record 3).decision = some piece ∧ full.dispatch.waiting.length = 8 ∧ (line.record 5).state = .decided ∧
      (line.record 8).state ≠ .free :=
  ⟨test_line_sound, each_of (fun _ => reads_of) _ (by decide +kernel), by decide +kernel⟩

/-! ### Witnesses: the tally -/

/-- Boards at the largest value saturates. -/
theorem test_meets_TallyReadsDoneFormsSums :
    let s := updating 1 (.read 2) (.tallyRead true) line
    s.tally.engine = some { base := 0x40000, values := [0xFFFFFFFF] } ∧ s.tally.queue = updates 1 ∧
      updateSums { bank := false, key := .reject, forced := false, lug := 1 } [0xFFFFFFFF, 0, 5] = [0xFFFFFFFF, 1, 5] ∧
      s.tally.saturated false = false ∧ s.window .tally ≠ none ∧
      writeBurst 0x50010 [0x401, 1, 0, 208] .plain ∈ issued (after (exec .tallyReadsDone s)) ∧
      writeBurst 0x40000 [0x200] .plain ∈ issued (after (exec .tallyReadsDone s)) := by
  decide +kernel

/-- The queue falls from 32 to 31 with reads waiting, the first of a DISPATCHED record, and of a FREE slot; it stands at 33, and at 1, with none; zeroing burst 15 is the last. -/
theorem test_meets_TallyWorkCompletes :
    let s := updating 32 (.write [Beat.full 0]) (.tallyWrite true)
      { line with dispatch := { line.dispatch with waiting := sortReads 8 } }
    let z := State.at { line with tally := { line.tally with swap := some { zeroing := .running 0x40000, done := 0 } } } 0x404C0
      (.write (List.replicate 16 (Beat.full 0))) (.zeroing 15)
    let f : State := { s with dispatch := { s.dispatch with waiting := { txn := 59, master := 0, slot := 31 } :: sortReads 7 } }
    (s.record 3).state = .dispatched ∧ (f.record 31).state = .free ∧ f.tally = s.tally ∧ s.dispatch.waiting ≠ [] ∧
      32 ≤ s.tally.queue.length ∧ s.tally.queue.tail.length < 32 ∧ s.tally.engine.isSome = true ∧
      (updating 33 (.write [Beat.full 0]) (.tallyWrite true) line).tally.queue.tail.length ≥ 32 ∧
      (updating 1 (.write [Beat.full 0]) (.tallyWrite true) line).tally.queue.length < 32 ∧ line.dispatch.waiting = [] ∧
      z.tally.swap = some { zeroing := .running 0x40000, done := 0 } := by decide +kernel

/-- Its last update, for the old bank, ends a swap whose zeroing has ended: SWAP_DONE with bank 1 and two updates. While a line reset works
the tally off, the same update, and the last zeroing burst with none left, let the reset go on. -/
theorem test_meets_TallyWorkEnds :
    let swap (z : Zeroing) (n : Nat) (s : State) : State :=
      { s with tally := { s.tally with bank := true, queue := updates n, swap := some { zeroing := z, done := 1 } } }
    let drain (s : State) : State := { s with shadow := { s.shadow with part := .starting, phase := .draining } }
    let u := swap .ended 1 (updating 1 (.write [Beat.full 0]) (.tallyWrite true) line)
    let z := swap (.running 0x40000) 0 (State.at line 0x408C0 (.write (List.replicate 16 (Beat.full 0))) (.zeroing 15))
    u.tally.queue = updates 1 ∧ u.shadow.phase ≠ .draining ∧ u.window .tally ≠ none ∧
      writeBurst 0x50010 [0x402, 106, 1, 2] .plain ∈ issued (after (exec .tallyUpdateComplete u)) ∧
      (drain u).shadow.phase = .draining ∧ (drain u).shadow.part = .starting ∧ (drain z).tally.queue = [] ∧
      (drain z).tally.engine = none ∧
      (issued (after (exec .tallyUpdateComplete (drain u)))).getLast?.map Burst.purpose = some .loadFormat ∧
      (issued (after (exec .zeroingDone (drain z)))).getLast?.map Burst.purpose = some .loadFormat := by decide +kernel

end Sys2Proof.Tests
end

section
/-! Grading and trim selection (Chapter 4): what the segment grade, the piece grade, the candidates, their choice and the saw masks
are, each said once, and the statement about the search (O43). -/

namespace Sys2Proof.Machine

/-! ### Masks by bit -/

/-- By induction on the width: bit 0 is the parity of the sum, and bit k + 1 is bit k of the sum for the shifted predicate. -/
theorem testBit_sum_range_two_pow (n : Nat) : ∀ (p : Nat → Bool) (k : Nat),
    ((List.range n).map fun i => if p i then 2 ^ i else 0).sum.testBit k = (decide (k < n) && p k) := by
  induction n with
  | zero => simp
  | succ n ih =>
    intro p k
    have hsum : ((List.range (n + 1)).map fun i => if p i then 2 ^ i else 0).sum =
        (p 0).toNat + 2 * ((List.range n).map fun i => if p (i + 1) then 2 ^ i else 0).sum := by
      have hdouble : ∀ i, (if p (i + 1) then 2 ^ (i + 1) else 0) = 2 * (if p (i + 1) then 2 ^ i else 0) := by
        intro i; split <;> omega
      rw [List.range_succ_eq_map, List.map_cons, List.sum_cons, List.map_map, ← List.sum_map_mul_left]
      congr 1
      · cases p 0 <;> rfl
      · exact congrArg List.sum (List.map_congr_left fun i _ => hdouble i)
    rw [hsum]
    cases k with
    | zero => rw [Nat.testBit_zero]; cases p 0 <;> simp
    | succ k =>
      have hhalf : ∀ (b : Bool) (m : Nat), (b.toNat + 2 * m) / 2 = m := by intro b m; cases b <;> simp; omega
      rw [Nat.testBit_succ, hhalf, ih fun i => p (i + 1)]
      simp

@[simp] theorem getLsbD_maskOf (n : Nat) (p : Nat → Bool) (k : Nat) : (maskOf n p).getLsbD k = (decide (k < n) && p k) := by
  rw [maskOf, BitVec.getLsbD_ofNat, testBit_sum_range_two_pow]
  cases decide (k < n) <;> rfl

/-- R81. -/
theorem getLsbD_pieceSaws (length a b : Nat) {k : Nat} (hk : k < 13) : (pieceSaws length a b).getLsbD k =
    (decide (k ≤ a) || (decide (b ≤ k) && decide (k ≤ (length - 1) / 610))) := by
  rw [pieceSaws, getLsbD_maskOf, decide_eq_true hk]
  rfl

/-- R82. -/
theorem getLsbD_rejectSaws (length : Nat) {k : Nat} (hk : k < 13) :
    (rejectSaws length).getLsbD k = decide (k ≤ (length - 1) / 610) := by
  rw [rejectSaws, getLsbD_maskOf, decide_eq_true hk]
  rfl

/-! ### Segment grades (R64, R65) -/

theorem passesRow_iff (ws : List Word) (g : Nat) (e : Segment) : passesRow ws g e = true ↔
    limitThickness ws g ≤ e.minThickness ∧ limitWidth ws g ≤ e.minWidth ∧ e.maxWane ≤ limitWane ws g ∧
      e.knots ≤ limitKnots ws g ∧ e.defects ≤ segmentBudget ws g := by
  simp [passesRow, and_assoc]

/-- R64: a segment that is not present, unseen or marked. -/
theorem segmentGrade_of_excluded {ws : List Word} {r : Record} {i : Nat}
    (h : r.present ≤ i ∨ (r.segment i).unseen = true ∨ r.marks.getLsbD i = true) : segmentGrade ws r i = 7 := if_pos h

/-- R65: any other segment. -/
theorem segmentGrade_of_graded {ws : List Word} {r : Record} {i : Nat} (hpresent : i < r.present)
    (hseen : (r.segment i).unseen = false) (hmark : r.marks.getLsbD i = false) :
    segmentGrade ws r i = ((List.range 7).find? fun g => passesRow ws g (r.segment i)).getD 7 := by
  refine if_neg ?_
  simp [hpresent, hseen, hmark]

theorem segmentGrade_le_seven (ws : List Word) (r : Record) (i : Nat) : segmentGrade ws r i ≤ 7 := by
  unfold segmentGrade
  split
  · exact le_rfl
  · cases hfind : (List.range 7).find? fun g => passesRow ws g (r.segment i) with
    | none => exact le_rfl
    | some g =>
      have hg : g < 7 := List.mem_range.1 (List.find?_range_eq_some.1 hfind).2.1
      exact hg.le

/-- The grade of a segment that is graded at all is the first row it passes. -/
theorem segmentGrade_eq_iff {ws : List Word} {r : Record} {i g : Nat} (hpresent : i < r.present)
    (hseen : (r.segment i).unseen = false) (hmark : r.marks.getLsbD i = false) (hg : g < 7) :
    segmentGrade ws r i = g ↔
      passesRow ws g (r.segment i) = true ∧ ∀ f, f < g → ¬ passesRow ws f (r.segment i) = true := by
  have hfind : segmentGrade ws r i = g ↔ (List.range 7).find? (fun g => passesRow ws g (r.segment i)) = some g := by
    rw [segmentGrade_of_graded hpresent hseen hmark]
    cases (List.range 7).find? fun g => passesRow ws g (r.segment i) with
    | none => simp; omega
    | some f => simp
  rw [hfind, List.find?_range_eq_some]
  simp [hg]

/-! ### Piece grades (R68, R69, R73) -/

theorem foldl_max_le_iff (l : List Nat) (g : Nat) : ∀ m, l.foldl max m ≤ g ↔ m ≤ g ∧ ∀ x ∈ l, x ≤ g := by
  induction l with
  | nil => simp
  | cons x l ih => intro m; simp [ih, and_assoc]

theorem worstGrade_le_iff (ws : List Word) (r : Record) (a b g : Nat) :
    worstGrade ws r a b ≤ g ↔ ∀ i, a ≤ i → i < b → segmentGrade ws r i ≤ g := by
  rw [worstGrade, foldl_max_le_iff]
  constructor
  · rintro ⟨-, hall⟩ i ha hb
    exact hall _ (List.mem_map.2 ⟨i - a, List.mem_range.2 (by omega), by rw [Nat.add_sub_cancel' ha]⟩)
  · refine fun hall => ⟨g.zero_le, fun x hx => ?_⟩
    obtain ⟨j, hj, rfl⟩ := List.mem_map.1 hx
    have hj := List.mem_range.1 hj
    exact hall _ (by omega) (by omega)

theorem worstGrade_lt_seven_iff (ws : List Word) (r : Record) (a b : Nat) :
    worstGrade ws r a b < 7 ↔ ∀ i, a ≤ i → i < b → segmentGrade ws r i ≠ 7 := by
  rw [← Nat.le_iff_lt_add_one, worstGrade_le_iff]
  refine forall_congr' fun i => imp_congr_right fun _ => imp_congr_right fun _ => ?_
  have := segmentGrade_le_seven ws r i
  omega

theorem budgetGrade_eq_some_iff (ws : List Word) (worst total n g : Nat) : budgetGrade ws worst total n = some g ↔
    g ≤ 6 ∧ worst ≤ g ∧ total ≤ pieceBudget ws g * n ∧ ∀ f, f < g → worst ≤ f → pieceBudget ws f * n < total := by
  rw [budgetGrade, List.find?_range_eq_some]
  simp only [Bool.and_eq_true, decide_eq_true_eq, List.mem_range, Bool.not_eq_true', Bool.and_eq_false_imp,
    decide_eq_false_iff_not, Nat.not_le]
  constructor
  · rintro ⟨⟨hworst, htotal⟩, hg, hleast⟩
    exact ⟨by omega, hworst, htotal, hleast⟩
  · rintro ⟨hg, hworst, htotal, hleast⟩
    exact ⟨⟨hworst, htotal⟩, by omega, hleast⟩

/-- The piece grade of [a, b): the forced grade (R73), else the budget grade (R69). -/
def pieceGrade (ws : List Word) (r : Record) (a b : Nat) : Option Nat :=
  r.forcedGrade <|> budgetGrade ws (worstGrade ws r a b) (defectTotal r a b) (b - a)

theorem pieceGrade_eq_some_iff (ws : List Word) (r : Record) (a b g : Nat) : pieceGrade ws r a b = some g ↔
    r.forcedGrade = some g ∨ (r.forcedGrade = none ∧ g ≤ 6 ∧ (∀ i, a ≤ i → i < b → segmentGrade ws r i ≤ g) ∧
      defectTotal r a b ≤ pieceBudget ws g * (b - a) ∧
      ∀ f, f < g → (∀ i, a ≤ i → i < b → segmentGrade ws r i ≤ f) → pieceBudget ws f * (b - a) < defectTotal r a b) := by
  unfold pieceGrade
  cases r.forcedGrade with
  | some f => simp
  | none => simp [budgetGrade_eq_some_iff, worstGrade_le_iff]

/-! ### Candidates (R67, R70) -/

/-- The model's `candidate` through its piece grade. -/
theorem candidate_eq (ws : List Word) (r : Record) (a b : Nat) : candidate ws r a b =
    if 7 ≤ worstGrade ws r a b then none
    else (pieceGrade ws r a b).bind fun g =>
      if price ws g (b - a) = 0 then none else some { a := a, b := b, grade := g, value := price ws g (b - a) } := by
  unfold candidate pieceGrade
  cases r.forcedGrade with
  | some g => rfl
  | none => cases budgetGrade ws (worstGrade ws r a b) (defectTotal r a b) (b - a) <;> rfl

theorem candidate_eq_some_iff (ws : List Word) (r : Record) (a b : Nat) (x : Candidate) : candidate ws r a b = some x ↔
    x.a = a ∧ x.b = b ∧ worstGrade ws r a b < 7 ∧ pieceGrade ws r a b = some x.grade ∧
      x.value = price ws x.grade (b - a) ∧ x.value ≠ 0 := by
  simp only [candidate_eq, Option.ite_none_left_eq_some, Option.bind_eq_some_iff, Option.some.injEq, Nat.not_le]
  constructor
  · rintro ⟨hworst, g, hgrade, hprice, rfl⟩
    exact ⟨rfl, rfl, hworst, hgrade, rfl, hprice⟩
  · rintro ⟨rfl, rfl, hworst, hgrade, hvalue, hprice⟩
    exact ⟨hworst, x.grade, hgrade, hvalue ▸ hprice, by rw [← hvalue]⟩

theorem mem_candidatePairs (p m a b : Nat) : (a, b) ∈ candidatePairs p m ↔ a < b ∧ b ≤ p ∧ m ≤ b - a := by
  simp only [candidatePairs, List.mem_flatMap, List.mem_filterMap, List.mem_range, Option.ite_none_right_eq_some,
    Option.some.injEq, Prod.mk.injEq]
  constructor
  · rintro ⟨a, -, b, hb, ⟨hab, hm⟩, rfl, rfl⟩
    exact ⟨hab, by omega, hm⟩
  · rintro ⟨hab, hb, hm⟩
    exact ⟨a, by omega, b, by omega, ⟨hab, hm⟩, rfl, rfl⟩

theorem mem_validCandidates (ws : List Word) (r : Record) (x : Candidate) : x ∈ validCandidates ws r ↔
    (x.a < x.b ∧ x.b ≤ r.present ∧ minimumLength ws ≤ x.b - x.a) ∧ candidate ws r x.a x.b = some x := by
  rw [← mem_candidatePairs, validCandidates, List.mem_filterMap]
  constructor
  · rintro ⟨⟨a, b⟩, hpair, hx⟩
    obtain ⟨rfl, rfl, -⟩ := (candidate_eq_some_iff ws r a b x).1 hx
    exact ⟨hpair, hx⟩
  · rintro ⟨hpair, hx⟩
    exact ⟨(x.a, x.b), hpair, hx⟩

/-! ### The choice (R71) -/

/-- `x` does not beat `c`: by value, then by n, then by a. -/
theorem beats_eq_false_iff (x c : Candidate) : x.beats c = false ↔ x.value < c.value ∨
    (x.value = c.value ∧ (x.b - x.a < c.b - c.a ∨ (x.b - x.a = c.b - c.a ∧ c.a ≤ x.a))) := by
  rw [← Bool.not_eq_true]
  simp only [Candidate.beats, Bool.or_eq_true, Bool.and_eq_true, decide_eq_true_eq, beq_iff_eq]
  omega

theorem beats_self (c : Candidate) : c.beats c = false := (beats_eq_false_iff c c).2 (by simp)

theorem beats_asymm {c d : Candidate} (h : d.beats c = true) : c.beats d = false := by
  have hdc := mt (beats_eq_false_iff d c).2 (by simp [h])
  rw [beats_eq_false_iff]
  omega

theorem not_beats_trans {x c d : Candidate} (hxc : x.beats c = false) (hcd : c.beats d = false) : x.beats d = false := by
  rw [beats_eq_false_iff] at *
  omega

theorem choose_eq_none_iff (l : List Candidate) : choose l = none ↔ l = [] := by
  cases l with
  | nil => simp [choose]
  | cons c l => simp only [choose]; split <;> simp

/-- What `choose` answers is in the list, and nothing in the list beats it. -/
theorem choose_spec : ∀ (l : List Candidate) (c : Candidate), choose l = some c → c ∈ l ∧ ∀ x ∈ l, x.beats c = false
  | [], c, h => by simp [choose] at h
  | e :: l, c, h => by
    simp only [choose] at h
    cases hrest : choose l with
    | none =>
      obtain rfl := (choose_eq_none_iff l).1 hrest
      obtain rfl : e = c := by simpa [hrest] using h
      simp [beats_self]
    | some d =>
      obtain ⟨hmem, hbest⟩ := choose_spec l d hrest
      obtain rfl : (if d.beats e then d else e) = c := by simpa [hrest] using h
      by_cases hbeats : d.beats e = true
      · rw [if_pos hbeats]
        exact ⟨List.mem_cons_of_mem _ hmem, List.forall_mem_cons.2 ⟨beats_asymm hbeats, hbest⟩⟩
      · have hkeep : d.beats e = false := Bool.not_eq_true _ ▸ hbeats
        rw [if_neg hbeats]
        exact ⟨List.mem_cons_self, List.forall_mem_cons.2 ⟨beats_self e, fun x hx => not_beats_trans (hbest x hx) hkeep⟩⟩

/-! ### The search (R71, R72, R74) -/

/-- With a valid candidate and no forced grade of 7 the decision is the PIECE of one that no valid candidate beats. -/
theorem searchDecision_piece {ws : List Word} {r : Record} (hforced : r.forcedGrade ≠ some 7) (hvalid : validCandidates ws r ≠ []) :
    ∃ c ∈ validCandidates ws r, searchDecision ws r = pieceDecision r c ∧ ∀ x ∈ validCandidates ws r, x.beats c = false := by
  obtain ⟨c, hc⟩ := Option.ne_none_iff_exists'.1 (mt (choose_eq_none_iff _).1 hvalid)
  obtain ⟨hmem, hbest⟩ := choose_spec _ c hc
  exact ⟨c, hmem, by rw [searchDecision, if_neg hforced, hc], hbest⟩

theorem searchDecision_reject {ws : List Word} {r : Record} (h : r.forcedGrade = some 7 ∨ validCandidates ws r = []) :
    searchDecision ws r = rejectDecision r := by
  unfold searchDecision
  split
  · rfl
  · next hforced => rw [h.resolve_left hforced]; rfl

/-- Settles O43: the search through what `choose` answers, and candidates and segment grades through their `↔` lemmas. -/
theorem searchChoosesBestCandidate : Obligations.SearchChoosesBestCandidate := by
  unfold Obligations.SearchChoosesBestCandidate
  refine ⟨fun ws r hpresent hforced hvalid => ?_, fun ws r h => ?_, fun ws r x => ?_, fun ws r i g => ?_⟩
  · obtain ⟨c, hmem, hdecision, hbest⟩ := searchDecision_piece hforced hvalid
    obtain ⟨⟨hab, hb, hmin⟩, -⟩ := (mem_validCandidates ws r c).1 hmem
    rw [hdecision]
    exact ⟨c, hmem, rfl, rfl, rfl, rfl, rfl, fun k hk => getLsbD_pieceSaws _ _ _ hk,
      fun x hx => (beats_eq_false_iff x c).1 (hbest x hx), hab, hb, hb.trans hpresent, hmin⟩
  · rw [searchDecision_reject h]
    exact ⟨rfl, rfl, rfl, rfl, rfl, fun k hk => getLsbD_rejectSaws _ hk⟩
  · rw [mem_validCandidates, candidate_eq_some_iff, worstGrade_lt_seven_iff, pieceGrade_eq_some_iff]
    simp only [true_and, and_assoc]
  · refine ⟨segmentGrade_le_seven ws r i, segmentGrade_of_excluded, fun hpresent hseen hmark hg => ?_⟩
    simp only [segmentGrade_eq_iff hpresent hseen hmark hg, passesRow_iff]

end Sys2Proof.Machine
end

section
/-! The lug event and line pacing (Chapter 5): which blocks' states a lug event passes through, that the lug tracker's work only takes
records out of QUEUED, that the start of a run leaves the backlog alone, that the new lug number is published, and the statement about
the skip count (O16). -/

namespace Sys2Proof.Machine

/-! ### One place of a table written -/

theorem getD_set_cases {α : Type} (l : List α) (k j : Nat) (a d : α) :
    (l.set k a).getD j d = l.getD j d ∨ (j = k ∧ (l.set k a).getD j d = a) := by
  simp only [List.getD_eq_getElem?_getD, List.getElem?_set]
  by_cases hkj : k = j
  · subst hkj
    by_cases hk : k < l.length <;> simp [hk]
  · simp [hkj]

/-- A record table with slot `k` overwritten; a `k` beyond the table writes nothing. -/
theorem record_of_set {s t : State} {k : Nat} {r : Record} (h : t.tracker.records = s.tracker.records.set k r) (j : Nat) :
    t.record j = s.record j ∨ (j = k ∧ t.record j = r) := by
  rw [State.record, h]
  exact getD_set_cases ..

/-! ### Changes that only take records out of QUEUED -/

/-- From `s` to `t` the decision queue only loses entries, no record enters QUEUED, and the records of the entries left are still
QUEUED. -/
structure QueueOnlyLoses (s t : State) : Prop where
  slots : t.tracker.records.length = s.tracker.records.length
  queue : t.optimizer.queue.Sublist s.optimizer.queue
  enters : ∀ k, (t.record k).state = .queued → (s.record k).state = .queued
  stays : ∀ e ∈ t.optimizer.queue, (s.record e.slot).state = .queued → (t.record e.slot).state = .queued

theorem QueueOnlyLoses.refl (s : State) : QueueOnlyLoses s s := ⟨rfl, .refl _, fun _ => id, fun _ _ => id⟩

theorem QueueOnlyLoses.trans {s t u : State} (h1 : QueueOnlyLoses s t) (h2 : QueueOnlyLoses t u) : QueueOnlyLoses s u where
  slots := h2.slots.trans h1.slots
  queue := h2.queue.trans h1.queue
  enters k h := h1.enters k (h2.enters k h)
  stays e he h := h2.stays e he (h1.stays e (h2.queue.subset he) h)

theorem QueueOnlyLoses.queueAgrees {s t : State} (h : QueueOnlyLoses s t) (hs : s.QueueAgrees) : t.QueueAgrees := by
  obtain ⟨hnodup, hqueued⟩ := hs
  refine ⟨(h.queue.map _).nodup hnodup, fun e he => ?_⟩
  obtain ⟨hslot, hstate⟩ := hqueued e (h.queue.subset he)
  exact ⟨hslot, h.stays e he hstate⟩

/-- The queue as it was and every record in the state it was in. -/
theorem queueOnlyLoses_of_states {s t : State} (hl : t.tracker.records.length = s.tracker.records.length)
    (hq : t.optimizer.queue = s.optimizer.queue) (h : ∀ k, (t.record k).state = (s.record k).state) : QueueOnlyLoses s t :=
  ⟨hl, hq ▸ .refl _, fun k hk => h k ▸ hk, fun e _ he => (h e.slot).trans he⟩

/-- One record written with a state other than QUEUED, when no entry of the slot stays in the queue for a QUEUED record. -/
theorem queueOnlyLoses_of_set {s t : State} {k : Nat} {r : Record} (hq : t.optimizer.queue.Sublist s.optimizer.queue)
    (hset : t.tracker.records = s.tracker.records.set k r) (hr : r.state ≠ .queued)
    (hk : ∀ e ∈ t.optimizer.queue, e.slot = k → (s.record k).state ≠ .queued) : QueueOnlyLoses s t where
  slots := by rw [hset, List.length_set]
  queue := hq
  enters j hj := by
    rcases record_of_set hset j with h | ⟨-, h⟩
    · rwa [h] at hj
    · exact absurd (h ▸ hj) hr
  stays e he hqueued := by
    rcases record_of_set hset e.slot with h | ⟨hek, -⟩
    · rwa [h]
    · exact absurd (hek ▸ hqueued) (hk e he hek)

/-! ### The lug tracker's work -/

theorem retireUnsorted_records (k : Nat) (s : State) :
    (retireUnsorted k s).tracker.records = s.tracker.records.set k Record.blank := by
  simp [retireUnsorted, freeRecord, State.setRecord]

theorem retireUnsorted_queue (k : Nat) (s : State) :
    (retireUnsorted k s).optimizer.queue = s.optimizer.queue.filter fun e => e.slot != k := by
  simp [retireUnsorted, freeRecord, endWork_queue]

theorem retireStep_queueOnlyLoses (s : State) : QueueOnlyLoses s (retireStep s) := by
  simp only [retireStep]
  split
  · refine queueOnlyLoses_of_set ?_ (retireUnsorted_records _ s) (by decide) fun e he hek => ?_
    · rw [retireUnsorted_queue]; exact List.filter_sublist
    · rw [retireUnsorted_queue] at he
      simp [hek] at he
  · exact .refl s

theorem closeStep_queueOnlyLoses (s : State) : QueueOnlyLoses s (closeStep s) := by
  simp only [closeStep]
  split
  · next h =>
    obtain ⟨hscanning, -⟩ := h
    refine queueOnlyLoses_of_set (k := slotOf (s.tracker.lug - 1#16))
      (r := { s.record (slotOf (s.tracker.lug - 1#16)) with state := .closing }) (by simp) ?_ (by simp) fun _ _ _ => by simp [hscanning]
    simp [State.setRecord]
  · exact .refl s

theorem commitAt_state (r : Record) (c : Lug) (commit : Nat) : (r.commitAt c commit).state = r.state := by
  unfold Record.commitAt
  split <;> rfl

theorem commitStep_record (s : State) (k : Nat) :
    (commitStep s).record k = (s.record k).commitAt s.tracker.lug (commitPosition s.shadow.words) := by
  have hblank : Record.blank = Record.blank.commitAt s.tracker.lug (commitPosition s.shadow.words) := rfl
  simp only [commitStep, State.record]
  rw [hblank, List.getD_map, ← hblank]

theorem commitStep_queueOnlyLoses (s : State) : QueueOnlyLoses s (commitStep s) :=
  queueOnlyLoses_of_states (by simp [commitStep]) (by simp) fun k => by rw [commitStep_record, commitAt_state]

theorem applyPart_state (r : Record) (kind : OverrideKind) (arg : Word) : (r.applyPart kind arg).state = r.state := by
  cases kind <;> rfl

theorem applyPart_queueOnlyLoses (k : Nat) (kind : OverrideKind) (arg addr : Word) (tag : BitVec 15) (s : State) :
    QueueOnlyLoses s (applyPart k kind arg addr tag s) := by
  have hset : (applyPart k kind arg addr tag s).tracker.records = s.tracker.records.set k ((s.record k).applyPart kind arg) := by
    simp [applyPart, State.setRecord]
  refine queueOnlyLoses_of_states (by rw [hset, List.length_set]) (by simp) fun j => ?_
  rcases record_of_set hset j with h | ⟨hjk, h⟩
  · rw [h]
  · rw [h, hjk, applyPart_state]

theorem applyWaiting_queueOnlyLoses (k : Nat) (ps : List PendingOverride) (s : State) : QueueOnlyLoses s (applyWaiting k ps s) :=
  foldl_invariant _ ps s (QueueOnlyLoses s) (fun _ _ h => h.trans (applyPart_queueOnlyLoses ..)) (.refl s)

/-- A record is created where no QUEUED record stands. -/
theorem createStep_queueOnlyLoses {s : State} (h : (s.record (slotOf s.tracker.lug)).state ≠ .queued) :
    QueueOnlyLoses s (createStep s) := by
  simp only [createStep]
  split
  · refine .trans ?_ (applyWaiting_queueOnlyLoses ..)
    exact queueOnlyLoses_of_set (r := Record.created s.tracker.lug) (.refl _) rfl (by simp [Record.created]) fun _ _ _ => h
  · exact queueOnlyLoses_of_states rfl rfl fun _ => rfl

theorem trackerStep_queueOnlyLoses {s : State} (h : (s.record (slotOf s.tracker.lug)).state ≠ .queued) :
    QueueOnlyLoses s (trackerStep s) := by
  have hbefore : QueueOnlyLoses s (commitStep (closeStep (retireStep s))) :=
    ((retireStep_queueOnlyLoses s).trans (closeStep_queueOnlyLoses _)).trans (commitStep_queueOnlyLoses _)
  refine hbefore.trans (createStep_queueOnlyLoses fun hq => h ?_)
  simpa using hbefore.enters _ hq

theorem position_of_next_slot {c lug : Lug} (h : slotOf lug = slotOf (c + 1)) : 31 ≤ position c lug := by
  have hone : (1 : Lug).toNat = 1 := rfl
  have hlug := lug.isLt
  simp only [slotOf, position, BitVec.toNat_add, BitVec.toNat_sub, hone] at h ⊢
  omega

/-- R5: at a lug event no record stands in the slot of the new lug: the lug 31 before the present one has left it. -/
theorem next_slot_not_live {s : State} (h : s.RecordsPlaced) : (s.record (slotOf (s.tracker.lug + 1))).live = false := by
  refine Bool.eq_false_iff.2 fun hlive => ?_
  obtain ⟨hslot, hposition⟩ := h _ (Nat.mod_lt _ (by decide)) hlive
  have hfar := position_of_next_slot hslot
  omega

/-! ### The backlog -/

theorem backlog_of_records {s t : State} (h : t.tracker.records = s.tracker.records) : backlog t = backlog s := by
  rw [backlog, h, backlog]

theorem backlog_congr {s t : State} (hl : t.tracker.records.length = s.tracker.records.length)
    (h : ∀ k, (t.record k).inBacklog = (s.record k).inBacklog) : backlog t = backlog s := by
  have hmap : t.tracker.records.map Record.inBacklog = s.tracker.records.map Record.inBacklog := by
    refine List.ext_getElem (by simp [hl]) fun k ht hs => ?_
    simp only [List.length_map] at ht hs
    simpa [State.record, ht, hs] using h k
  have hcount : ∀ u : State, backlog u = (u.tracker.records.map Record.inBacklog).countP id := fun u => by
    rw [List.countP_map]; rfl
  rw [hcount, hmap, hcount]

/-- R98: a run's start keeps its record in the backlog. -/
theorem backlog_settle (s0 : State) {s : State} (hl : s.tracker.records.length = Config.recordSlots) (hq : s.QueueAgrees) :
    backlog (settle s0 s) = backlog s := by
  have hlength : (startOptimizer s).tracker.records.length = s.tracker.records.length := by
    unfold startOptimizer
    split <;> simp [State.setRecord]
  rw [backlog_of_records (settle_records s0 s)]
  refine backlog_congr hlength fun k => ?_
  rcases startOptimizer_record hl hq k with h | ⟨hqueued, h⟩
  · rw [h]
  · rw [h, Record.inBacklog, Record.inBacklog, hqueued]; rfl

/-! ### The status block is published -/

theorem area_of_set {s t : State} {k : Nat} {a : Area} (h : t.tracker.areas = s.tracker.areas.set k a) (j : Nat) :
    t.area j = s.area j ∨ (j = k ∧ t.area j = a) := by
  rw [State.area, h]
  exact getD_set_cases ..

theorem area_of_areas {s t : State} (h : t.tracker.areas = s.tracker.areas) (k : Nat) : t.area k = s.area k := by
  rw [State.area, h, State.area]

/-- R16, R17: publication leaves the areas alone, or writes area `k` alone, which is then not idle. -/
theorem publishArea_areas (k : Nat) (s : State) :
    ((publishArea k s).tracker.areas = s.tracker.areas ∧ (s.area k).pub = .idle ∧ s.window .record = none) ∨
      ∃ a, (publishArea k s).tracker.areas = s.tracker.areas.set k a ∧ a.pub ≠ .idle := by
  unfold publishArea
  split
  · next hidle =>
    unfold beginMirror
    split
    · exact .inr ⟨{ count := (s.area k).count + 2, pub := .writing }, by simp [State.setArea], by simp⟩
    · next hnone => exact .inl ⟨rfl, hidle, hnone⟩
  · exact .inr ⟨{ s.area k with pub := .writingDirty }, by simp [State.setArea], by simp⟩

theorem publishArea_areas_length (k : Nat) (s : State) : (publishArea k s).tracker.areas.length = s.tracker.areas.length := by
  rcases publishArea_areas k s with ⟨h, -, -⟩ | ⟨a, h, -⟩ <;> simp [h]

theorem publishArea_busy {k : Nat} {s : State} (hw : s.window .record ≠ none) (hk : k < s.tracker.areas.length) :
    ((publishArea k s).area k).pub ≠ .idle := by
  rcases publishArea_areas k s with ⟨-, -, hnone⟩ | ⟨a, h, ha⟩
  · exact absurd hnone hw
  · simpa [State.area, h, hk] using ha

theorem publishArea_keeps_busy (k : Nat) {j : Nat} {s : State} (h : (s.area j).pub ≠ .idle) :
    ((publishArea k s).area j).pub ≠ .idle := by
  rcases publishArea_areas k s with ⟨hareas, -, -⟩ | ⟨a, hareas, ha⟩
  · rwa [area_of_areas hareas]
  · rcases area_of_set hareas j with hj | ⟨-, hj⟩ <;> rwa [hj]

theorem publishAreas_keep_busy (ks : List Nat) {j : Nat} {s : State} (h : (s.area j).pub ≠ .idle) :
    ((ks.foldl (fun s k => publishArea k s) s).area j).pub ≠ .idle :=
  foldl_invariant _ ks s (fun s => (s.area j).pub ≠ .idle) (fun _ k => publishArea_keeps_busy k) h

theorem publish_keeps_busy (s0 : State) {j : Nat} {s : State} (h : (s.area j).pub ≠ .idle) :
    ((publish s0 s).area j).pub ≠ .idle := by
  simp only [publish]
  repeat' split
  · exact publishAreas_keep_busy _ (publishArea_keeps_busy _ h)
  · exact publishArea_keeps_busy _ (publishAreas_keep_busy _ h)
  · exact publishAreas_keep_busy _ h
  · exact h

/-- R15: a change of the status block's body begins a write of it, or notes one. -/
theorem publish_status_busy {s0 s : State} (hrun : s.shadow.part = .running) (hw : s.window .record ≠ none)
    (hl : Config.statusArea < s.tracker.areas.length) (hbody : statusBody s0 ≠ statusBody s) :
    ((publish s0 s).area Config.statusArea).pub ≠ .idle := by
  have hchanged : statusChanged s0 s = true := bne_iff_ne.2 hbody
  simp only [publish, hrun, if_true, hchanged]
  split
  · exact publishAreas_keep_busy _ (publishArea_busy hw hl)
  · refine publishArea_busy (by simpa [State.window] using hw) ?_
    rwa [foldl_keeps _ _ s (fun s => s.tracker.areas.length) fun s k => publishArea_areas_length k s]

theorem settle_status_busy {s0 s : State} (hrun : s.shadow.part = .running) (hw : s.window .record ≠ none)
    (hl : Config.statusArea < s.tracker.areas.length) (hbody : statusBody s0 ≠ statusBody (startTally s)) :
    ((settle s0 s).area Config.statusArea).pub ≠ .idle := by
  refine publish_keeps_busy _ ?_
  rw [area_of_areas (s := publish s0 (startTally s)) (by simp)]
  exact publish_status_busy (by simpa using hrun) (by simpa [State.window] using hw) (by simpa using hl) hbody

theorem dvd_place {m v lo len : Nat} (h : m ∣ 2 ^ lo) : m ∣ place v lo len := h.mul_left _

theorem dvd_placeBit {m lo : Nat} {b : Bool} (h : m ∣ 2 ^ lo) : m ∣ placeBit b lo := by
  unfold placeBit
  split
  · exact h
  · exact dvd_zero m

/-- The low half of a word is its field there, when the other fields lie above. -/
theorem wordOf_low (v : Nat) {fields : List Nat} (h : ∀ f ∈ fields, 2 ^ 16 ∣ f) :
    (wordOf (place v 0 16 :: fields)).toNat % 2 ^ 16 = v % 2 ^ 16 := by
  obtain ⟨n, hn⟩ := List.dvd_sum h
  simp only [wordOf, List.sum_cons, hn, place, BitVec.toNat_ofNat]
  omega

/-- R203: the status block shows the lug number. -/
theorem lug_of_statusBody {s t : State} (h : statusBody s = statusBody t) : s.tracker.lug = t.tracker.lug := by
  have hlow : ∀ u : State, ((statusBody u).headD 0).toNat % 2 ^ 16 = u.tracker.lug.toNat := fun u => by
    refine (wordOf_low _ ?_).trans (Nat.mod_eq_of_lt u.tracker.lug.isLt)
    simp only [List.forall_mem_cons, List.not_mem_nil, false_imp_iff, implies_true, and_true]
    exact ⟨dvd_place (by decide), dvd_placeBit (by decide), dvd_placeBit (by decide), dvd_placeBit (by decide),
      dvd_placeBit (by decide)⟩
  exact BitVec.eq_of_toNat_eq (by rw [← hlow s, h, hlow t])

/-! ### The lug event, block by block -/

def nextLug (s : State) : State := { s with tracker := { s.tracker with lug := s.tracker.lug + 1 } }

/-- The lug number rises, and the blocks that take the event before the lug tracker's changes take it. -/
def beforeTracker (o : LugOrder) (s0 : State) : State :=
  let s := if o.pacingFirst then pacingStep (nextLug s0) else nextLug s0
  if o.guardFirst then guardStep s0.tracker.lug s else s

/-- The blocks that take the event of the lug `ended` behind the lug tracker's changes take it. -/
def afterTracker (o : LugOrder) (ended : Lug) (s : State) : State :=
  let s := if o.pacingFirst then s else pacingStep s
  if o.guardFirst then s else guardStep ended s

/-- What the blocks together make of a lug event, before it is settled. -/
def lugBlocks (o : LugOrder) (s0 : State) : State := afterTracker o s0.tracker.lug (trackerStep (beforeTracker o s0))

theorem lugEvent_eq (o : LugOrder) (s0 : State) : lugEvent o s0 =
    issueAll (waitingResults (nextLug s0) (waitingFor (nextLug s0))) (settle s0 (lugBlocks o s0)) := rfl

@[simp] theorem beforeTracker_frame (o : LugOrder) (s0 : State) :
    (beforeTracker o s0).shadow = s0.shadow ∧ (beforeTracker o s0).optimizer = s0.optimizer ∧
    (beforeTracker o s0).tracker = { s0.tracker with lug := s0.tracker.lug + 1 } := by
  simp only [beforeTracker]
  repeat' split
  all_goals simp [nextLug]

@[simp] theorem afterTracker_frame (o : LugOrder) (ended : Lug) (s : State) :
    (afterTracker o ended s).shadow = s.shadow ∧ (afterTracker o ended s).optimizer = s.optimizer ∧
    (afterTracker o ended s).tracker = s.tracker := by
  simp only [afterTracker]
  repeat' split
  all_goals simp

theorem beforeTracker_skip (o : LugOrder) (s0 : State) : (beforeTracker o s0).skip =
    if o.pacingFirst then nextSkip s0.shadow.words (backlog s0) s0.skip else s0.skip := by
  simp only [beforeTracker]
  repeat' split
  all_goals simp [pacingStep, nextLug, backlog]

theorem afterTracker_skip (o : LugOrder) (ended : Lug) (s : State) : (afterTracker o ended s).skip =
    if o.pacingFirst then s.skip else nextSkip s.shadow.words (backlog s) s.skip := by
  simp only [afterTracker]
  repeat' split
  all_goals simp [pacingStep]

/-- R100: the pacing logic takes the event once, with the backlog before the lug tracker's changes or after them. -/
theorem lugBlocks_skip (o : LugOrder) (s0 : State) : (lugBlocks o s0).skip =
    nextSkip s0.shadow.words (if o.pacingFirst then backlog s0 else backlog (lugBlocks o s0)) s0.skip := by
  have hbacklog : backlog (lugBlocks o s0) = backlog (trackerStep (beforeTracker o s0)) :=
    backlog_of_records (by simp [lugBlocks])
  rw [hbacklog, lugBlocks, afterTracker_skip]
  cases hfirst : o.pacingFirst <;> simp [beforeTracker_skip, hfirst]

theorem lugBlocks_lug (o : LugOrder) (s0 : State) : (lugBlocks o s0).tracker.lug = s0.tracker.lug + 1 := by
  simp [lugBlocks]

/-- A lug event between sound steps leaves a record table of 32 slots and a decision queue of QUEUED records. -/
theorem lugBlocks_queueAgrees (o : LugOrder) {s0 : State} (hs : s0.TableSound) :
    (lugBlocks o s0).tracker.records.length = Config.recordSlots ∧ (lugBlocks o s0).QueueAgrees := by
  have hrecord : ∀ k, (beforeTracker o s0).record k = s0.record k := record_of_records (by simp)
  have hfree : ((beforeTracker o s0).record (slotOf (beforeTracker o s0).tracker.lug)).state ≠ .queued := fun hqueued => by
    simp only [hrecord, beforeTracker_frame] at hqueued
    have hdead := next_slot_not_live hs.placed
    rw [Record.live, hqueued] at hdead
    cases hdead
  have hloses := trackerStep_queueOnlyLoses hfree
  refine ⟨?_, queueAgrees_congr (by simp [lugBlocks]) (record_of_records (by simp [lugBlocks])) (hloses.queueAgrees ?_)⟩
  · simpa [lugBlocks, hs.sized.records] using hloses.slots
  · exact queueAgrees_congr (by simp) hrecord hs.queue

theorem backlog_lugEvent (o : LugOrder) {s0 : State} (hs : s0.TableSound) : backlog (lugEvent o s0) = backlog (lugBlocks o s0) := by
  obtain ⟨hlength, hagrees⟩ := lugBlocks_queueAgrees o hs
  exact (backlog_of_records (by simp [lugEvent_eq])).trans (backlog_settle s0 hlength hagrees)

/-- R100: the skip count after a lug event, from the backlog before it or after it. -/
theorem lugEvent_skip (o : LugOrder) {s0 : State} (hs : s0.TableSound) : (lugEvent o s0).skip =
    nextSkip s0.shadow.words (if o.pacingFirst then backlog s0 else backlog (lugEvent o s0)) s0.skip := by
  rw [backlog_lugEvent o hs, ← lugBlocks_skip, lugEvent_eq]
  simp

/-- R15: the new lug number is published. -/
theorem lugEvent_status_busy (o : LugOrder) {s0 : State} (hs : s0.Sized) (hrun : s0.shadow.part = .running)
    (hw : s0.window .record ≠ none) : ((lugEvent o s0).area Config.statusArea).pub ≠ .idle := by
  rw [area_of_areas (s := settle s0 (lugBlocks o s0)) (by simp [lugEvent_eq])]
  refine settle_status_busy (by simpa [lugBlocks] using hrun) (by simpa [lugBlocks, State.window] using hw)
    (by simp [lugBlocks, hs.areas]) fun hbody => ?_
  simpa [lugBlocks_lug] using lug_of_statusBody hbody

/-! ### The commands that bring a lug event -/

/-- R4: a filter change that raises the lug number is a lug event. -/
theorem filterStep_lugEvent {p : Input} {f : Filter} {o : LugOrder} {s : State}
    (h : (filterStep p f o s).tracker.lug = s.tracker.lug + 1) :
    s.shadow.part = .running ∧ filterStep p f o s = lugEvent o (s.setFilter p f) := by
  unfold filterStep at h ⊢
  split
  · next hbrings =>
    simp only [bringsLugEvent, Bool.and_eq_true, beq_iff_eq] at hbrings
    exact ⟨hbrings.2, rfl⟩
  · next hnot => simp [hnot] at h

theorem exec_lugEvent {c : Instr} {p : Input} {l : Bool} {o : LugOrder} {s t : State}
    (hc : c = .rawLevelChange p l o ∨ c = .filterTimerExpiry p o) (h : exec c s = .next t)
    (hlug : t.tracker.lug = s.tracker.lug + 1) :
    s.shadow.part = .running ∧ ∃ f, t = finish (lugEvent o (s.setFilter p f)) := by
  have hfilter : ∀ f, t = finish (filterStep p f o s) →
      s.shadow.part = .running ∧ ∃ f, t = finish (lugEvent o (s.setFilter p f)) := fun f ht => by
    obtain ⟨hrun, heq⟩ := filterStep_lugEvent (p := p) (f := f) (o := o) (s := s) (by simpa [ht] using hlug)
    exact ⟨hrun, f, heq ▸ ht⟩
  rcases hc with rfl | rfl
  · simp only [exec, execRawLevelChange, done] at h
    split at h
    · cases h
      simp at hlug
    · cases h
      exact hfilter _ rfl
  · cases h
    exact hfilter _ rfl

theorem setFilter_tableSound {s : State} (hs : s.TableSound) (p : Input) (f : Filter) : (s.setFilter p f).TableSound := by
  obtain ⟨hsized, hplaced, hqueue, haged⟩ := hs
  exact ⟨⟨hsized.records, hsized.areas, hsized.words, hsized.entries, hsized.tables, hsized.trims, hsized.bins, hsized.flags⟩,
    hplaced, hqueue, ⟨haged.lugs, haged.older, haged.named⟩⟩

/-- R101: LSKIP follows the skip count of a RUNNING part. -/
theorem finish_lskip {s : State} (hreset : s.resetAsserted = false) (hrun : s.shadow.part = .running) :
    (finish s).outputs.lskip = true ↔ 0 < (finish s).skip := by
  simp [finish, drivePins, lskipLevel, hreset, hrun]

/-- Settles O16: the command runs one lug event; `lugEvent_skip` gives the count, `finish_lskip` the line, `lugEvent_status_busy` the
status block. -/
theorem pacingAtLugEvent : Obligations.PacingAtLugEvent := by
  unfold Obligations.PacingAtLugEvent
  intro c p l o s t hs hc hexec hlug
  obtain ⟨hrun, f, rfl⟩ := exec_lugEvent hc hexec hlug
  have hs0 : (s.setFilter p f).TableSound := setFilter_tableSound hs p f
  refine ⟨_, rfl, ?_, fun hreset => finish_lskip (by simpa using hreset) (by simpa using hrun), fun hw => ?_⟩
  · have hskip : (finish (lugEvent o (s.setFilter p f))).skip = (lugEvent o (s.setFilter p f)).skip := by simp
    have hbacklog : backlog (finish (lugEvent o (s.setFilter p f))) = backlog (lugEvent o (s.setFilter p f)) :=
      backlog_of_records (by simp)
    rw [hskip, hbacklog]
    exact lugEvent_skip o hs0
  · have hbusy := lugEvent_status_busy o hs0.sized (by simpa using hrun) (by simpa [State.window] using hw)
    rwa [area_of_areas (s := lugEvent o (s.setFilter p f)) (by simp)]

end Sys2Proof.Machine
end

section
/-! What a command can do, said once: every next state is the end of a step over one of thirteen effects. The statements about the step
itself (O1-O3), the output lines (O8, O9), line memory (O5, O10) and the port (O35). -/

namespace Sys2Proof.Machine

/-- What a command makes of `s` before the end of the step. -/
inductive Effect (s : State) : State → Prop
  | idle : Effect s s
  | rawLevel (p : Input) (l : Bool) (hreset : s.resetAsserted = true) : Effect s (s.setFilter p { s.inputs.get p with raw := l })
  | filter (p : Input) (f : Filter) (o : LugOrder) : Effect s (filterStep p f o s)
  | assertReset : Effect s (assertReset s)
  | releaseReset : Effect s (releaseReset s)
  | arrive (x : Transaction) (hwords : 1 ≤ Transaction.words x) : Effect s (arrive x s)
  | startIntake : Effect s (startIntake s)
  | startReadback : Effect s (startReadback s)
  | port (b : Burst) (hport : s.bus.port = some b) : Effect s (afterBurst b (Burst.perform s.bus.mem b).2 (landBurst b s))
  | close (hrun : s.shadow.part = .running) : Effect s (completeClose s)
  | run (hrun : s.shadow.part = .running) : Effect s (completeRun s)
  | hold (hrun : s.shadow.part = .running) (h : HeldRead) (hheld : h ∈ s.dispatch.held) : Effect s (settle s (expireHold h s))
  | sawTest (hrun : s.shadow.part = .running) : Effect s (settle s (expireSawTest s))

theorem completePort_effect (s : State) : Effect s (completePort s) := by
  unfold completePort
  cases hport : s.bus.port with
  | none => exact .idle
  | some b => exact .port b hport

theorem completeIf_effect (p : State → Burst → Bool) (s : State) : Effect s (completeIf p s) := by
  unfold completeIf
  split
  · split
    · exact completePort_effect s
    · exact .idle
  · exact .idle

theorem whenRunning_effect {f : State → State} {s : State} (h : s.shadow.part = .running → Effect s (f s)) :
    Effect s (whenRunning f s) := by
  unfold whenRunning
  split
  · next hrun => exact h hrun
  · exact .idle

/-- The commands that are no arrival: each completes with its effect. -/
theorem exec_of_not_arrival {c : Instr} (s : State) (hc : arrivalOf c = none) : ∃ y, Effect s y ∧ exec c s = done y := by
  cases c with
  | rawLevelChange p l o =>
    simp only [exec, execRawLevelChange]
    split
    · next hreset => exact ⟨_, .rawLevel p l hreset, rfl⟩
    · exact ⟨_, .filter p _ o, rfl⟩
  | filterTimerExpiry p o => exact ⟨_, .filter p _ o, rfl⟩
  | resetNAssert => exact ⟨_, .assertReset, rfl⟩
  | resetNRelease => exact ⟨_, .releaseReset, rfl⟩
  | memoryBurstDone => exact ⟨_, completePort_effect s, rfl⟩
  | intakeStart => exact ⟨_, .startIntake, rfl⟩
  | postReadbackStart => exact ⟨_, .startReadback, rfl⟩
  | closeComplete => exact ⟨_, whenRunning_effect .close, rfl⟩
  | optimizerComplete => exact ⟨_, whenRunning_effect .run, rfl⟩
  | sawTestExpiry => exact ⟨_, whenRunning_effect .sawTest, rfl⟩
  | holdExpiry i =>
    refine ⟨_, whenRunning_effect fun hrun => ?_, rfl⟩
    split
    · next h hheld => exact .hold hrun h (List.mem_of_getElem? hheld)
    · exact .idle
  | setupWriteHeld _ | chassisTransaction _ | setupWrite _ | windowEntryWrite _ | gradingTableWrite _ | guardEnableMaskWrite _
  | eventClassEnableWrite _ | frameHeaderWrite _ | trailerWrite _ | post _ | trimRead _ _ | sortRead _ _ | consumerWrite _ =>
    cases hc
  | formatWordReadDone | setupReadDone | eventHeaderReadDone | tallyHeaderReadDone | formatWordWrite | intakeComplete | grade | trim
  | chip | mark | clear | rescan | binEmpty | shift | ack | alarmTest | sawTest | lineReset | lineResetStart | tallyReadsDone
  | tallyUpdateComplete | zeroingDone | mirrorWriteComplete | kindCodeOutOfRange => exact ⟨_, completeIf_effect _ s, rfl⟩

theorem arrival_next {x : Transaction} {s t : State} (h : arrival x s = .next t) :
    1 ≤ Transaction.words x ∧ Transaction.words x ≤ 16 ∧ t = finish (arrive x s) := by
  unfold arrival at h
  split at h
  · next hwords => cases h; exact ⟨hwords.1, hwords.2, rfl⟩
  · cases h

/-- Every next state of a command is the end of a step over one of the effects. -/
theorem exec_effect {c : Instr} {s t : State} (h : exec c s = .next t) : ∃ y, Effect s y ∧ t = finish y := by
  cases hc : arrivalOf c with
  | none =>
    obtain ⟨y, hy, heq⟩ := exec_of_not_arrival s hc
    rw [heq] at h
    cases h
    exact ⟨y, hy, rfl⟩
  | some x =>
    rw [exec_arrival c x s hc] at h
    obtain ⟨hwords, -, rfl⟩ := arrival_next h
    exact ⟨_, .arrive x hwords, rfl⟩

/-- A step idles on an empty queue, or runs an effect on the state that the front command is taken from. -/
theorem step_effect {s t : State} (h : step s = .next t) : t = s ∨ ∃ q y, Effect (s.withPending q) y ∧ t = finish y := by
  unfold step at h
  split at h
  · cases h; exact .inl rfl
  · obtain ⟨y, hy, rfl⟩ := exec_effect h
    exact .inr ⟨_, y, hy, rfl⟩

/-- An invariant of states is kept by every step when every effect keeps it, and when neither the queue of commands nor the end of a step
touches it. -/
theorem step_keeps {I : State → Prop} (hpending : ∀ s q, I s → I (s.withPending q)) (hfinish : ∀ s, I s → I (finish s))
    (heffect : ∀ s y, I s → Effect s y → I y) {s t : State} (hs : I s) (h : step s = .next t) : I t := by
  rcases step_effect h with rfl | ⟨q, y, hy, rfl⟩
  · exact hs
  · exact hfinish y (heffect _ y (hpending s q hs) hy)

/-! ### The step and the commands (O1, O2, O3) -/

/-- Settles O1: both clauses are the two branches of `step`. -/
theorem frontCommandRuns : Obligations.FrontCommandRuns := by
  unfold Obligations.FrontCommandRuns
  refine ⟨fun c rest s => rfl, fun s h => ?_⟩
  simp only [step, h]

theorem completes_done (s : State) : Completes (done s) := ⟨finish s, rfl⟩

/-- The bus carries 1 to 16 words; the arrival of any other burst is refused by its length. -/
theorem arrival_eq (x : Transaction) (s : State) :
    (1 ≤ Transaction.words x ∧ Transaction.words x ≤ 16 → arrival x s = done (arrive x s)) ∧
    (¬ (1 ≤ Transaction.words x ∧ Transaction.words x ≤ 16) → arrival x s = .refused (.burstLength (Transaction.words x))) :=
  ⟨fun h => if_pos h, fun h => if_neg h⟩

theorem wellFormed_transaction (x : Transaction) :
    Transaction.wellFormed x = true ↔ 1 ≤ Transaction.words x ∧ Transaction.words x ≤ 16 := by
  cases x with
  | read r => simp [Transaction.wellFormed, Transaction.words, BusRead.wellFormed, Config.maxBurst]
  | write w => simp [Transaction.wellFormed, Transaction.words, BusWrite.wellFormed, Config.maxBurst]

theorem words_of_wellFormed {c : Instr} {x : Transaction} (hc : arrivalOf c = some x) (h : Instr.wellFormed c = true) :
    1 ≤ Transaction.words x ∧ Transaction.words x ≤ 16 := by
  rw [← wellFormed_transaction]
  cases c <;> cases hc <;> exact h

/-- Settles O2: a command that is no arrival completes, and an arrival completes or is refused by its length. -/
theorem wellFormedCommandsComplete : Obligations.WellFormedCommandsComplete := by
  unfold Obligations.WellFormedCommandsComplete
  have harrival : ∀ {c : Instr} {x : Transaction} (s : State), arrivalOf c = some x → (Completes (exec c s) ∨
      ¬ (1 ≤ Transaction.words x ∧ Transaction.words x ≤ 16) ∧ exec c s = .refused (.burstLength (Transaction.words x))) := by
    intro c x s hc
    rw [exec_arrival c x s hc]
    by_cases hwords : 1 ≤ Transaction.words x ∧ Transaction.words x ≤ 16
    · exact .inl ((arrival_eq x s).1 hwords ▸ completes_done _)
    · exact .inr ⟨hwords, (arrival_eq x s).2 hwords⟩
  have hcases : ∀ (c : Instr) (s : State), Completes (exec c s) ∨ ∃ x, arrivalOf c = some x ∧
      exec c s = .refused (.burstLength (Transaction.words x)) := by
    intro c s
    cases hc : arrivalOf c with
    | none =>
      obtain ⟨y, -, heq⟩ := exec_of_not_arrival s hc
      exact .inl (heq ▸ completes_done y)
    | some x => exact (harrival s hc).imp_right fun h => ⟨x, rfl, h.2⟩
  refine ⟨fun c s hwf => ?_, fun c x s hc => ?_, fun c s r h => ?_, fun c s f h => ?_⟩
  · cases hc : arrivalOf c with
    | none =>
      obtain ⟨y, -, heq⟩ := exec_of_not_arrival s hc
      exact heq ▸ completes_done y
    | some x => exact (harrival s hc).resolve_right fun h => h.1 (words_of_wellFormed hc hwf)
  · rw [exec_arrival c x s hc]
    constructor
    · intro h
      by_contra hwords
      rw [(arrival_eq x s).1 (by omega)] at h
      cases h
    · exact fun h => (arrival_eq x s).2 (by omega)
  · rcases hcases c s with ⟨t, ht⟩ | ⟨x, hx, heq⟩
    · rw [ht] at h; cases h
    · rw [heq] at h; cases h; exact ⟨x, hx, rfl⟩
  · rcases hcases c s with ⟨t, ht⟩ | ⟨x, -, heq⟩
    · rw [ht] at h; cases h
    · rw [heq] at h; cases h

theorem effect_pending {s y : State} (h : Effect s y) : y.pending = s.pending := by
  cases h with
  | idle => rfl
  | releaseReset => unfold releaseReset; split <;> rfl
  | _ => simp

/-- Settles O3: no effect touches the queue of commands, nor does the end of a step. -/
theorem execLeavesQueue : Obligations.ExecLeavesQueue := by
  unfold Obligations.ExecLeavesQueue
  intro c s t h
  obtain ⟨y, hy, rfl⟩ := exec_effect h
  simpa using effect_pending hy

/-! ### Line memory (O5, O10) -/

/-- Line memory is what it was, or what the burst at the port makes of it. -/
theorem effect_mem {s y : State} (h : Effect s y) :
    y.bus.mem = s.bus.mem ∨ ∃ b, s.bus.port = some b ∧ y.bus.mem = (Burst.perform s.bus.mem b).1 := by
  cases h with
  | port b hport => exact .inr ⟨b, hport, by simp [landBurst]⟩
  | idle => exact .inl rfl
  | releaseReset => exact .inl (by unfold releaseReset; split <;> rfl)
  | _ => exact .inl (by simp)

/-- Settles O10. -/
theorem onlyThePortWritesMemory : Obligations.OnlyThePortWritesMemory := by
  unfold Obligations.OnlyThePortWritesMemory
  refine ⟨fun c s t h => ?_, fun c x s t hc h => ?_⟩
  · obtain ⟨y, hy, rfl⟩ := exec_effect h
    simpa using effect_mem hy
  · rw [exec_arrival c x s hc] at h
    obtain ⟨-, -, rfl⟩ := arrival_next h
    simp

/-- Settles O5: the one write to memory is that of a burst, which keeps the canonical form. -/
theorem stepKeepsMemoryCanonical : Obligations.StepKeepsMemoryCanonical := by
  unfold Obligations.StepKeepsMemoryCanonical
  intro s t hs h
  refine step_keeps (I := State.memoryWf) (fun _ _ h => h) (fun s h => ?_) (fun s y hs hy => ?_) hs h
  · rwa [State.memoryWf, show (finish s).bus.mem = s.bus.mem by simp]
  · rcases effect_mem hy with heq | ⟨b, -, heq⟩ <;> rw [State.memoryWf, heq]
    · exact hs
    · exact Burst.perform_wf hs b

/-! ### The output lines (O8, O9) -/

theorem finish_pinsFollow (s : State) : (finish s).pinsFollow := by
  simp [State.pinsFollow, finish, drivePins, lskipLevel, almoutLevel, attnLevel, enabledLatch, State.flag]

theorem enabledLatch_iff (s : State) : enabledLatch s = true ↔
    ∃ i, i < 6 ∧ (s.flag i).latched = true ∧ (guardEnable s.shadow.words).getLsbD i = true := by
  simp [enabledLatch]

theorem almoutLevel_iff (s : State) : almoutLevel s = true ↔
    s.resetAsserted = true ∨ s.shadow.part ≠ .running ∨ s.lineGuard.force = true ∨ s.inputs.almin.filtered = true ∨
      ∃ i, i < 6 ∧ (s.flag i).latched = true ∧ (guardEnable s.shadow.words).getLsbD i = true := by
  rw [← enabledLatch_iff]
  simp [almoutLevel, or_assoc]

/-- A mask of eight classes has a class in common with another exactly when their intersection is not 0. -/
theorem and_ne_zero_iff {n : Nat} (x y : BitVec n) : (x &&& y != 0) = true ↔
    ∃ i, i < n ∧ x.getLsbD i = true ∧ y.getLsbD i = true := by
  rw [bne_iff_ne, ne_eq, BitVec.eq_of_getLsbD_eq_iff]
  simp

theorem attnLevel_iff (s : State) : attnLevel s = true ↔ s.resetAsserted = false ∧ s.shadow.part ≠ .transparent ∧
    ∃ i, i < 8 ∧ s.events.classes.getLsbD i = true ∧ (classEnable s.shadow.words).getLsbD i = true := by
  rw [← and_ne_zero_iff]
  simp [attnLevel, and_assoc]

theorem lskipLevel_iff (s : State) : lskipLevel s = true ↔ s.resetAsserted = false ∧ s.shadow.part = .running ∧ 0 < s.skip := by
  simp [lskipLevel, and_assoc]

/-- After every command the output lines follow the state. -/
theorem exec_pinsFollow {c : Instr} {s t : State} (h : exec c s = .next t) : t.pinsFollow := by
  obtain ⟨y, rfl⟩ := exec_finish c s t h
  exact finish_pinsFollow y

/-- Settles O8. -/
theorem outputsFollowTheState : Obligations.OutputsFollowTheState := by
  unfold Obligations.OutputsFollowTheState
  intro c s t h
  have hpins := exec_pinsFollow h
  refine ⟨hpins, ?_⟩
  rw [← almoutLevel_iff, show t.outputs.almout = almoutLevel t from congrArg Outputs.almout hpins]

/-- Settles O9. -/
theorem skipAndAttentionFollowTheState : Obligations.SkipAndAttentionFollowTheState := by
  unfold Obligations.SkipAndAttentionFollowTheState
  intro c s t h
  have hpins := exec_pinsFollow h
  rw [← lskipLevel_iff, ← attnLevel_iff, show t.outputs.lskip = lskipLevel t from congrArg Outputs.lskip hpins,
    show t.outputs.attn = attnLevel t from congrArg Outputs.attn hpins]
  exact ⟨.rfl, .rfl⟩

/-! ### The port (O35) -/

theorem finish_bus (s : State) : (finish s).bus = (grant s).bus := rfl

/-- Settles O35: the cases are those of `grant`. -/
theorem portAlternates : Obligations.PortAlternates := by
  unfold Obligations.PortAlternates
  intro s
  simp only [finish_bus]
  refine ⟨fun hport => ?_, fun hport hthrough hinternal => ?_, fun b rest hport hthrough hother => ?_,
    fun b rest hport hinternal hother => ?_⟩
  · obtain ⟨b, hb⟩ := Option.ne_none_iff_exists'.1 hport
    simp [grant, hb]
  · simp [grant, hport, hthrough, hinternal]
  · cases hinternal : s.bus.internal with
    | nil => simp [grant, hport, hthrough, hinternal]
    | cons c cs =>
      have hlast : s.bus.lastGrant ≠ some .through := hother.resolve_left (by simp [hinternal])
      simp [grant, hport, hthrough, hinternal, hlast]
  · cases hthrough : s.bus.through with
    | nil => simp [grant, hport, hthrough, hinternal]
    | cons c cs =>
      have hlast : s.bus.lastGrant = some .through := hother.resolve_left (by simp [hthrough])
      simp [grant, hport, hthrough, hinternal, hlast]

end Sys2Proof.Machine
end

section
/-! Commands without shared record work: the input filters (O11-O13), RESET_N (O18, O19), the load's first read and the watched format
word write (O20, O24), held setup writes (O26), and the starts of the idle engines (O38). -/

namespace Sys2Proof.Machine

/-! ### Input filters (O11, O12, O13) -/

@[simp] theorem inputs_get_setFilter (s : State) (p q : Input) (f : Filter) :
    (s.setFilter p f).inputs.get q = if q = p then f else s.inputs.get q := by
  cases p <;> cases q <;> simp [State.setFilter, Inputs.set, Inputs.get]

theorem filterStep_inputs (p : Input) (f : Filter) (o : LugOrder) (s : State) :
    (filterStep p f o s).inputs = (s.setFilter p f).inputs := by
  unfold filterStep
  split <;> simp

theorem filterStep_get (p q : Input) (f : Filter) (o : LugOrder) (s : State) :
    (filterStep p f o s).inputs.get q = if q = p then f else s.inputs.get q := by
  rw [filterStep_inputs, inputs_get_setFilter]

theorem finish_inputs (s : State) : (finish s).inputs = s.inputs := by simp

/-- R2: a change of the raw level keeps the filter time and records the level. -/
theorem rawChange_kept (f : Filter) (l : Bool) : (f.rawChange l).raw = l ∧ (f.rawChange l).time = f.time := by
  unfold Filter.rawChange
  split
  · next h => exact ⟨h.symm, rfl⟩
  · repeat' split
    all_goals exact ⟨rfl, rfl⟩

theorem exec_rawLevelChange_released {s : State} (h : s.resetAsserted = false) (p : Input) (l : Bool) (o : LugOrder) :
    exec (.rawLevelChange p l o) s = .next (finish (filterStep p ((s.inputs.get p).rawChange l) o s)) := by
  simp [exec, execRawLevelChange, done, h]

theorem exec_rawLevelChange_asserted {s : State} (h : s.resetAsserted = true) (p : Input) (l : Bool) (o : LugOrder) :
    exec (.rawLevelChange p l o) s = .next (finish (s.setFilter p { s.inputs.get p with raw := l })) := by
  simp [exec, execRawLevelChange, done, h]

theorem exec_filterTimerExpiry (p : Input) (o : LugOrder) (s : State) :
    exec (.filterTimerExpiry p o) s = .next (finish (filterStep p (s.inputs.get p).expire o s)) := rfl

/-- Settles O11: `filterStep` writes the filter that `rawChange` gives, in whose branches the cases stand. -/
theorem rawLevelChangeFilters : Obligations.RawLevelChangeFilters := by
  unfold Obligations.RawLevelChangeFilters
  refine ⟨fun p l o s hreset => ⟨_, exec_rawLevelChange_released hreset p l o, ?_⟩,
    fun p l o s hreset => ⟨_, exec_rawLevelChange_asserted hreset p l o, ?_⟩⟩
  · obtain ⟨hraw, htime⟩ := rawChange_kept (s.inputs.get p) l
    simp only [finish_inputs, filterStep_get, if_true]
    refine ⟨hraw, htime, fun h => ?_, fun h1 h2 => ?_, fun h1 h2 h3 => ?_, fun h1 h2 h3 => ?_, fun q hq => if_neg hq, by simp, by simp⟩
    · simp [Filter.rawChange, h]
    · simp [Filter.rawChange, h1, ← h2]
    · simp [Filter.rawChange, h1, h2, h3]
    · simp [Filter.rawChange, h1, h2, Nat.pos_iff_ne_zero.1 h3]
  · simp only [finish_inputs, inputs_get_setFilter, if_true]
    exact ⟨trivial, fun q hq => if_neg hq, by simp [hreset]⟩

/-- Settles O12. -/
theorem filterTimerExpiryAdopts : Obligations.FilterTimerExpiryAdopts := by
  unfold Obligations.FilterTimerExpiryAdopts
  refine fun p o s => ⟨_, exec_filterTimerExpiry p o s, ?_⟩
  simp only [finish_inputs, filterStep_get, if_true]
  refine ⟨fun h => ?_, fun h => ?_, fun q hq => if_neg hq, by simp, by simp⟩
  · obtain ⟨n, hn⟩ := Option.isSome_iff_exists.1 h
    simp [Filter.expire, hn]
  · simp [Filter.expire, h]

/-- R4: the lug number rises exactly at a rise of filtered LUG while RUNNING. -/
theorem filterStep_lug (p : Input) (f : Filter) (o : LugOrder) (s : State) : (filterStep p f o s).tracker.lug =
    if s.shadow.part = .running ∧ s.inputs.lug.filtered = false ∧ (filterStep p f o s).inputs.lug.filtered = true
    then s.tracker.lug + 1 else s.tracker.lug := by
  have hbrings : bringsLugEvent s p (s.inputs.get p) f = true ↔
      s.shadow.part = .running ∧ s.inputs.lug.filtered = false ∧ (filterStep p f o s).inputs.lug.filtered = true := by
    have hlug : (filterStep p f o s).inputs.lug = if .lug = p then f else s.inputs.lug := filterStep_get p .lug f o s
    rw [hlug]
    cases p <;> simp +contextual [bringsLugEvent, Inputs.get, and_comm, and_assoc]
  split
  · next h =>
    rw [← hbrings] at h
    rw [filterStep, if_pos h, lugEvent_eq]
    simp [lugBlocks_lug]
  · next h =>
    rw [← hbrings] at h
    rw [filterStep, if_neg h]
    simp

/-- Settles O13. -/
theorem lugNumberCountsLugEvents : Obligations.LugNumberCountsLugEvents := by
  unfold Obligations.LugNumberCountsLugEvents
  have hstep : ∀ (p : Input) (f : Filter) (o : LugOrder) (s t : State), t = finish (filterStep p f o s) →
      ((s.shadow.part = .running ∧ s.inputs.lug.filtered = false ∧ t.inputs.lug.filtered = true) →
        t.tracker.lug = s.tracker.lug + 1) ∧
      (¬ (s.shadow.part = .running ∧ s.inputs.lug.filtered = false ∧ t.inputs.lug.filtered = true) →
        t.tracker.lug = s.tracker.lug) := by
    rintro p f o s t rfl
    have hlug : (finish (filterStep p f o s)).tracker.lug = (filterStep p f o s).tracker.lug := by simp
    rw [finish_inputs, hlug, filterStep_lug]
    exact ⟨fun h => if_pos h, fun h => if_neg h⟩
  refine ⟨fun c p l o s t hc h => ?_, fun p l o s t hreset h => ?_⟩
  · rcases hc with ⟨rfl, hreset⟩ | rfl
    · rw [exec_rawLevelChange_released hreset] at h
      cases h
      exact hstep p _ o s _ rfl
    · rw [exec_filterTimerExpiry] at h
      cases h
      exact hstep p _ o s _ rfl
  · rw [exec_rawLevelChange_asserted hreset] at h
    cases h
    simp

/-! ### RESET_N (O18, O19) -/

/-- Settles O18: `assertReset` field by field. -/
theorem resetNAssertRefusesAll : Obligations.ResetNAssertRefusesAll := by
  unfold Obligations.ResetNAssertRefusesAll
  intro s hreset
  have hassert : ∃ y, assertReset s = y ∧ y.resetAsserted = true ∧ y.bus.through = [] ∧ y.bus.internal = [] ∧
      (∀ b, y.bus.port = some b → b.purpose = .plain) ∧ y.shadow.part = .starting := by
    refine ⟨_, rfl, ?_⟩
    simp only [assertReset, hreset]
    refine ⟨rfl, rfl, rfl, fun b hb => ?_, rfl⟩
    obtain ⟨c, -, rfl⟩ := Option.map_eq_some_iff.1 hb
    rfl
  obtain ⟨y, hy, hasserted, hthrough, hinternal, hport, hpart⟩ := hassert
  have hgrant : (finish y).bus = y.bus := by
    rw [finish_bus]
    unfold grant
    split
    · rfl
    · rw [hthrough, hinternal]
  refine ⟨finish y, by rw [← hy]; rfl, by simpa, by simpa, by rw [hgrant, hthrough], by rw [hgrant, hinternal],
    by rwa [hgrant], ?_, ?_, ?_, ?_, ?_, ?_, ?_, ?_⟩
  all_goals subst hy
  · simp [assertReset, hreset]
  · simp [assertReset, hreset]
  · simp [assertReset, hreset]
  · simp [assertReset, hreset]
  · have hpins := finish_pinsFollow (assertReset s)
    rw [State.pinsFollow] at hpins
    rw [hpins]
    simp [lskipLevel, almoutLevel, attnLevel, hasserted]
  · simp
  · simp
  · simp

/-- Settles O19: `releaseReset` is the state of reset but for inputs, bus and queue. -/
theorem resetNReleasePowersOn : Obligations.ResetNReleasePowersOn := by
  unfold Obligations.ResetNReleasePowersOn
  intro s hreset
  have hrelease : releaseReset s = { State.reset with
      inputs := s.inputs.released
      bus := { s.bus with through := [], internal := [Burst.loadFormat], lastGrant := none }
      pending := s.pending } := if_pos hreset
  refine ⟨finish (releaseReset s), rfl, ?_⟩
  rw [hrelease]
  refine ⟨by simp [State.reset], by simp, by simp [State.reset, Shadow.powerOn], by simp, by simp [State.reset, Tracker.powerOn],
    by simp, by simp, by simp, by simp [State.reset], by simp, by simp, by simp, by simp, by simp, fun p => ?_, ?_, by simp, by simp,
    by simp, fun hport => ?_⟩
  · rw [finish_inputs]
    cases p <;> rfl
  · have hpins := finish_pinsFollow { State.reset with
      inputs := s.inputs.released
      bus := { s.bus with through := [], internal := [Burst.loadFormat], lastGrant := none }
      pending := s.pending }
    rw [State.pinsFollow] at hpins
    rw [hpins]
    simp [lskipLevel, almoutLevel, attnLevel, State.reset, Shadow.powerOn, EventWriter.powerOn]
  · rw [finish_bus]
    simp [grant, hport, Burst.loadFormat]

/-! ### Completion rows -/

/-- A completion row acts as the port does when the burst there is the one it names. -/
theorem completeIf_of_port {p : State → Burst → Bool} {s : State} {b : Burst} (hport : s.bus.port = some b) (hp : p s b = true) :
    completeIf p s = afterBurst b (Burst.perform s.bus.mem b).2 (landBurst b s) := by
  simp [completeIf, completePort, hport, hp]

/-- A completion row does nothing for any other burst. -/
theorem completeIf_of_other {p : State → Burst → Bool} {s : State} {b : Burst} (hport : s.bus.port = some b) (hp : p s b = false) :
    completeIf p s = s := by
  simp [completeIf, hport, hp]

theorem completePort_of_port {s : State} {b : Burst} (hport : s.bus.port = some b) :
    completePort s = afterBurst b (Burst.perform s.bus.mem b).2 (landBurst b s) := by
  simp [completePort, hport]

theorem completePort_of_free {s : State} (hport : s.bus.port = none) : completePort s = s := by
  simp [completePort, hport]

@[simp] theorem perform_read (m : List Host.Cell) (a : Word) (n : Nat) (p : Purpose) :
    Burst.perform m { addr := a, access := .read n, purpose := p } = (m, Memory.readWords m a.toNat n) := rfl

@[simp] theorem perform_write (m : List Host.Cell) (a : Word) (beats : List Beat) (p : Purpose) :
    Burst.perform m { addr := a, access := .write beats, purpose := p } = (Memory.writeBeats m a.toNat beats, []) := rfl

theorem readWords_one (m : List Host.Cell) (a : Nat) : Memory.readWords m a 1 = [Memory.readWord m a] := by
  simp [Memory.readWords]

theorem readWords_two (m : List Host.Cell) (a : Nat) :
    Memory.readWords m a 2 = [Memory.readWord m a, Memory.readWord m (a + 4)] := by
  simp [Memory.readWords, List.range_succ]

/-! ### The load's first read (O20) -/

/-- A held write as it joins the through stream. -/
def HeldWrite.burst (h : HeldWrite) (watched : Bool) : Burst :=
  { addr := h.write.addr, access := .write h.write.beats, purpose := .chassis h.txn h.write.master watched }

theorem releasePlain_shadow (hs : List HeldWrite) (s : State) :
    (releasePlain hs s).shadow = { s.shadow with held := (releasePlain hs s).shadow.held } := by
  induction hs generalizing s with
  | nil => rfl
  | cons h rest ih =>
    simp only [releasePlain]
    split
    · rfl
    · rw [ih]; rfl

/-- R188: held writes none of which carries the format word all pass. -/
theorem releasePlain_all (hs : List HeldWrite) (s : State) (hplain : ∀ h ∈ hs, carriesFormatWord h.write = false) :
    (releasePlain hs s).shadow.held = [] ∧
      (releasePlain hs s).bus.through = s.bus.through ++ hs.map fun h => h.burst false := by
  induction hs generalizing s with
  | nil => simp [releasePlain]
  | cons h rest ih =>
    obtain ⟨hfirst, hrest⟩ := List.forall_mem_cons.1 hplain
    obtain ⟨hheld, hthrough⟩ := ih (pass h.txn (.write h.write) false s) hrest
    simp only [releasePlain, hfirst]
    refine ⟨hheld, ?_⟩
    simpa [pass, HeldWrite.burst, Transaction.addr, Transaction.access, Transaction.master] using hthrough

/-- R188: held writes pass up to and with the first that carries the format word. -/
theorem releasePlain_watched (pre rest : List HeldWrite) (h : HeldWrite) (s : State)
    (hplain : ∀ x ∈ pre, carriesFormatWord x.write = false) (hformat : carriesFormatWord h.write = true) :
    (releasePlain (pre ++ h :: rest) s).shadow.held = rest ∧ (releasePlain (pre ++ h :: rest) s).bus.through =
      s.bus.through ++ (pre ++ [h]).map fun x => x.burst (carriesFormatWord x.write) := by
  induction pre generalizing s with
  | nil =>
    simp [releasePlain, hformat, pass, HeldWrite.burst, Transaction.addr, Transaction.access, Transaction.master]
  | cons x pre ih =>
    obtain ⟨hfirst, hrest⟩ := List.forall_mem_cons.1 hplain
    obtain ⟨hheld, hthrough⟩ := ih (pass x.txn (.write x.write) false s) hrest
    simp only [List.cons_append, releasePlain, hfirst]
    refine ⟨hheld, ?_⟩
    simpa [pass, HeldWrite.burst, Transaction.addr, Transaction.access, Transaction.master, hfirst] using hthrough

theorem enterTransparent_shadow (s : State) : (enterTransparent s).shadow =
    { s.shadow with part := .transparent, load := none, held := (enterTransparent s).shadow.held } := by
  unfold enterTransparent
  rw [releasePlain_shadow]

/-- Settles O20: the two branches of `formatWordRead`, the second through what `releasePlain` lets pass. -/
theorem formatWordReadDecides : Obligations.FormatWordReadDecides := by
  unfold Obligations.FormatWordReadDecides
  intro s ld hport hload
  have hexec : exec .formatWordReadDone s = .next (finish (formatWordRead (Memory.readWord s.bus.mem 0)
      (landBurst { addr := 0, access := .read 1, purpose := .loadFormat } s))) := by
    show done _ = _
    rw [completeIf_of_port hport rfl]
    simp [afterBurst, readWords_one, done]
  refine ⟨_, hexec, ?_⟩
  generalize hland : landBurst { addr := 0, access := .read 1, purpose := .loadFormat } s = x
  have hmem : x.bus.mem = s.bus.mem := by rw [← hland]; rfl
  have hshadow : x.shadow = s.shadow := by rw [← hland]; rfl
  have hinternal : x.bus.internal = s.bus.internal := by rw [← hland]; rfl
  have hthrough : x.bus.through = s.bus.through := by rw [← hland]; rfl
  have hnot : Memory.readWord s.bus.mem 0 ≠ 0x48160001#32 →
      formatWordRead (Memory.readWord s.bus.mem 0) x = enterTransparent x := fun hword => by
    have hword' : Memory.readWord s.bus.mem 0 ≠ Config.formatWord := hword
    simp [formatWordRead, hshadow, hload, hword']
  refine ⟨by simp [hmem], fun hword => ?_, fun hword hplain => ?_, fun pre rest h hword hheld hpre hformat => ?_⟩
  · have hword' : Memory.readWord s.bus.mem 0 = Config.formatWord := hword
    have hread : formatWordRead (Memory.readWord s.bus.mem 0) x =
        issueAll setupBursts { x with shadow := { x.shadow with load := some { ld with words := [Config.formatWord] } } } := by
      simp [formatWordRead, hshadow, hload, hword']
    rw [hread]
    exact ⟨by simp [hshadow, Config.formatWord], by simp [issueAll, hinternal, setupBursts]⟩
  · obtain ⟨hgone, hpass⟩ := releasePlain_all x.shadow.held
      { x with shadow := { x.shadow with part := .transparent, load := none } } (by rwa [hshadow])
    rw [hnot hword, enterTransparent_shadow]
    refine ⟨?_, by simp [hinternal], ?_⟩
    · rw [enterTransparent, hgone, hshadow]
    · rw [enterTransparent, hpass, hthrough, hshadow]
      rfl
  · obtain ⟨hkept, hpass⟩ := releasePlain_watched pre rest h
      { x with shadow := { x.shadow with part := .transparent, load := none } } hpre hformat
    rw [hshadow] at hkept hpass
    rw [hnot hword, enterTransparent_shadow]
    refine ⟨?_, by simp [hinternal], ?_⟩
    · rw [enterTransparent, hshadow, hheld, hkept]
    · rw [enterTransparent, hshadow, hheld, hpass, hthrough]
      rfl

/-! ### A watched write of the format word (O24) -/

/-- The values that `beginLoad` gives. -/
theorem beginLoad_values (cause : StartCause) (s : State) : (beginLoad cause s).shadow = { s.shadow with
      part := .starting, phase := .none, load := some { cause := cause, words := [], awaitEvent := false, awaitTally := false } } ∧
    (beginLoad cause s).events = { ring := none, overflow := false, classes := 0 } ∧
    (beginLoad cause s).bus.internal.getLast? = some Burst.loadFormat := by
  simp [beginLoad, issue, orphanBursts]

/-- R187: the write of the format word is in memory while TRANSPARENT: a load begins. -/
theorem formatWordWritten_values {s : State} (hpart : s.shadow.part = .transparent) :
    (formatWordWritten s).shadow = { s.shadow with
      part := .starting, phase := .none, load := some { cause := .formatWord, words := [], awaitEvent := false, awaitTally := false } } ∧
    (formatWordWritten s).events = { ring := none, overflow := false, classes := 0 } ∧
    (formatWordWritten s).bus.internal.getLast? = some Burst.loadFormat := by
  rw [formatWordWritten, if_pos hpart]
  obtain ⟨hshadow, hevents, hlast⟩ := beginLoad_values .formatWord
    (publishArea Config.statusArea { s with shadow := { s.shadow with part := .starting } })
  exact ⟨by simpa using hshadow, hevents, hlast⟩

/-- Settles O24: both rows complete the write at the port, which begins a load while TRANSPARENT. -/
theorem formatWordWriteStarts : Obligations.FormatWordWriteStarts := by
  unfold Obligations.FormatWordWriteStarts
  refine ⟨fun s addr beats txn m hport hpart c hc => ?_, fun s addr beats txn m hport hpart => ?_⟩
  · have hexec : exec c s = .next (finish (afterBurst { addr := addr, access := .write beats, purpose := .chassis txn m true } []
        (landBurst { addr := addr, access := .write beats, purpose := .chassis txn m true } s))) := by
      rcases hc with rfl | rfl
      · show done _ = _
        rw [completeIf_of_port hport (by simp [writesFormatWord, hpart])]
        rfl
      · show done _ = _
        rw [completePort_of_port hport]
        rfl
    refine ⟨_, hexec, ?_⟩
    obtain ⟨hshadow, hevents, hlast⟩ := formatWordWritten_values (s := writeLanded txn (answer txn m .written (landBurst
      { addr := addr, access := .write beats, purpose := .chassis txn m true } s))) (by simpa using hpart)
    simp only [afterBurst, chassisDone, if_true, replyOf]
    refine ⟨congrArg Shadow.part hshadow, congrArg Shadow.load hshadow, by simp, hevents, hlast, ?_, ?_, by simp⟩
    · simp [landBurst]
    · simp [answer]
  · show done _ = _
    rw [completeIf_of_other hport (by simp [writesFormatWord, hpart])]
    rfl

/-! ### Held setup writes and idle engines (O26, O38) -/

/-- Settles O26. -/
theorem setupWriteHeldWhileStarting : Obligations.SetupWriteHeldWhileStarting := by
  unfold Obligations.SetupWriteHeldWhileStarting
  intro c w s hc hwf hreset hpart haddr
  have hwords := (wellFormed_transaction (.write w)).1 hwf
  rw [exec_arrival c _ s hc, (arrival_eq _ s).1 hwords]
  have haddr' : w.addr.toNat < Config.setupBytes := haddr
  simp [done, arrive, hreset, hpart, haddr']

/-- Settles O38. -/
theorem idleEnginesTakeTheirHead : Obligations.IdleEnginesTakeTheirHead := by
  unfold Obligations.IdleEnginesTakeTheirHead
  refine ⟨fun s e rest w hrun hidle hqueue hlanded hwindow => ?_, fun s p rest hrun hphase hidle hfifo hlanded => ?_⟩
  · simp [exec, execIntakeStart, done, startIntake, hrun, hidle, hqueue, hlanded, hwindow, issueAll, readBurst]
  · simp [exec, execPostReadbackStart, done, startReadback, hrun, hphase, hidle, hfifo, hlanded, issue, readBurst]

end Sys2Proof.Machine
end

section
/-! The end of a change and the events of a change: what `settle` puts behind the internal stream, what an idle engine takes, and the event
writer as a function of its own state and window, through which events handed in one after another compose. -/

namespace Sys2Proof.Machine

/-! ### Accesses of the engines -/

/-- From `s` to `t` the internal stream has grown by accesses of the engines of Chapters 1 and 8 only. -/
def EngineGrows (s t : State) : Prop := ∃ more, t.bus.internal = s.bus.internal ++ more ∧ ∀ b ∈ more, EngineAccess b

theorem EngineGrows.of_eq {s t : State} (h : t.bus.internal = s.bus.internal) : EngineGrows s t := ⟨[], by simp [h], by simp⟩

theorem EngineGrows.trans {s t u : State} (hst : EngineGrows s t) (htu : EngineGrows t u) : EngineGrows s u := by
  obtain ⟨a, ha, haccess⟩ := hst
  obtain ⟨b, hb, hbccess⟩ := htu
  exact ⟨a ++ b, by rw [hb, ha, List.append_assoc], by simpa [or_imp, forall_and] using ⟨haccess, hbccess⟩⟩

theorem EngineGrows.grows {s t : State} (h : EngineGrows s t) : Grows s t := h.imp fun _ h => h.1

theorem beginMirror_engineGrows (k : Nat) (s : State) : EngineGrows s (beginMirror k s) := by
  unfold beginMirror
  split
  · next w _ =>
    refine ⟨mirrorBursts w k (s.area k).count (areaBody s k), rfl, fun b hb => .inl ?_⟩
    simp only [mirrorBursts, List.mem_cons, List.not_mem_nil, or_false] at hb
    rcases hb with rfl | rfl | rfl | rfl | rfl | rfl <;> exact ⟨k, _, rfl⟩
  · exact .of_eq rfl

theorem publishArea_engineGrows (k : Nat) (s : State) : EngineGrows s (publishArea k s) := by
  unfold publishArea
  split
  · exact beginMirror_engineGrows k s
  · exact .of_eq rfl

theorem foldl_engineGrows {α : Type} (f : State → α → State) (h : ∀ s x, EngineGrows s (f s x)) (l : List α) (s : State) :
    EngineGrows s (l.foldl f s) := by
  induction l generalizing s with
  | nil => exact .of_eq rfl
  | cons x xs ih => exact (h s x).trans (ih _)

theorem publishAreas_engineGrows (ks : List Nat) (s : State) : EngineGrows s (ks.foldl (fun s k => publishArea k s) s) :=
  foldl_engineGrows _ (fun s k => publishArea_engineGrows k s) ks s

theorem publish_engineGrows (s0 s1 : State) : EngineGrows s1 (publish s0 s1) := by
  simp only [publish, publishAll]
  repeat' split
  · exact (publishArea_engineGrows _ _).trans (publishAreas_engineGrows _ _)
  · exact (publishAreas_engineGrows _ _).trans (publishArea_engineGrows _ _)
  · exact publishAreas_engineGrows _ _
  · exact .of_eq rfl

theorem startTally_engineGrows (s : State) : EngineGrows s (startTally s) := by
  simp only [startTally]
  repeat' split
  · next u _ w _ _ _ _ =>
    refine ⟨updateReads w.start u, rfl, fun b hb => .inr ?_⟩
    simp only [updateReads, List.mem_map] at hb
    obtain ⟨j, -, rfl⟩ := hb
    exact ⟨_, rfl⟩
  all_goals exact .of_eq rfl

theorem startRun_engineGrows (s : State) : EngineGrows s (startRun s) :=
  (EngineGrows.of_eq (by simp)).trans (publish_engineGrows s (startOptimizer s))

theorem settle_engineGrows (s0 s1 : State) : EngineGrows s1 (settle s0 s1) :=
  ((startTally_engineGrows s1).trans (publish_engineGrows _ _)).trans (startRun_engineGrows _)

/-! ### What an idle engine takes at the end of a change -/

theorem tally_eq_of_fields {t u : Tally} (h1 : t.bank = u.bank) (h2 : t.swap = u.swap) (h3 : t.saturated0 = u.saturated0)
    (h4 : t.saturated1 = u.saturated1) (h5 : t.queue = u.queue) (h6 : t.kept = u.kept) : t = { u with engine := t.engine } := by
  cases t; cases u; simp_all

theorem settle_tally (s0 s1 : State) : (settle s0 s1).tally = { s1.tally with engine := (settle s0 s1).tally.engine } :=
  tally_eq_of_fields (by simp) (by simp) (by simp) (by simp) (by simp) (by simp)

/-- R89: a start, by its three conditions. -/
theorem startOptimizer_optimizer (s : State) : OptimizerTakes s (startOptimizer s) := by
  unfold startOptimizer
  split
  · next e rest _ hrun hqueue => exact .inr ⟨e, rest, hrun, hqueue, rfl⟩
  · exact .inl rfl

theorem settle_optimizerTakes (s0 s1 : State) : OptimizerTakes s1 (settle s0 s1) := by
  unfold OptimizerTakes
  rw [settle_optimizer]
  exact startOptimizer_optimizer s1

theorem optimizerTakes_congr {s s' t : State} (h : OptimizerTakes s t) (ho : s.optimizer = s'.optimizer)
    (hr : s.tracker.records = s'.tracker.records) (hw : s.shadow = s'.shadow) : OptimizerTakes s' t := by
  have hrecord : ∀ k, s.record k = s'.record k := record_of_records hr
  unfold OptimizerTakes at h ⊢
  rwa [← ho, ← hw, funext (f := s'.record) fun k => (hrecord k).symm]

/-- From `s` to `x` only the event writer, the streams, the port and the answers have moved. -/
structure BlocksKept (s x : State) : Prop where
  inputs : x.inputs = s.inputs
  reset : x.resetAsserted = s.resetAsserted
  shadow : x.shadow = s.shadow
  tracker : x.tracker = s.tracker
  intake : x.intake = s.intake
  measure : x.measure = s.measure
  optimizer : x.optimizer = s.optimizer
  skip : x.skip = s.skip
  overrides : x.overrides = s.overrides
  dispatch : x.dispatch = s.dispatch
  tally : x.tally = s.tally
  lineGuard : x.lineGuard = s.lineGuard
  mem : x.bus.mem = s.bus.mem

theorem BlocksKept.trans {s x y : State} (h1 : BlocksKept s x) (h2 : BlocksKept x y) : BlocksKept s y :=
  ⟨h2.inputs.trans h1.inputs, h2.reset.trans h1.reset, h2.shadow.trans h1.shadow, h2.tracker.trans h1.tracker,
    h2.intake.trans h1.intake, h2.measure.trans h1.measure, h2.optimizer.trans h1.optimizer, h2.skip.trans h1.skip,
    h2.overrides.trans h1.overrides, h2.dispatch.trans h1.dispatch, h2.tally.trans h1.tally, h2.lineGuard.trans h1.lineGuard,
    h2.mem.trans h1.mem⟩

theorem BlocksKept.refl (s : State) : BlocksKept s s := ⟨rfl, rfl, rfl, rfl, rfl, rfl, rfl, rfl, rfl, rfl, rfl, rfl, rfl⟩

theorem numbered_blocksKept (s : State) : BlocksKept s s.numbered := ⟨rfl, rfl, rfl, rfl, rfl, rfl, rfl, rfl, rfl, rfl, rfl, rfl, rfl⟩

theorem pass_blocksKept (txn : Nat) (x : Transaction) (watched : Bool) (s : State) : BlocksKept s (pass txn x watched s) :=
  ⟨rfl, rfl, rfl, rfl, rfl, rfl, rfl, rfl, rfl, rfl, rfl, rfl, rfl⟩

theorem answer_blocksKept (txn : Nat) (m : Master) (r : Reply) (s : State) : BlocksKept s (answer txn m r s) :=
  ⟨rfl, rfl, rfl, rfl, rfl, rfl, rfl, rfl, rfl, rfl, rfl, rfl, rfl⟩

theorem emit_blocksKept (e : Event) (s : State) : BlocksKept s (emit e s) := by
  constructor <;> simp

theorem takeConsumer_blocksKept (e : WindowEntry) (c : Nat) (s : State) : BlocksKept s (takeConsumer e c s) := by
  constructor <;> simp

/-- A change that has moved nothing but the event writer and the bus, settled. -/
theorem BlocksKept.onlyEngines {s x : State} (s0 : State) (h : BlocksKept s x) : OnlyEngines s (settle s0 x) where
  inputs := by simp [h.inputs]
  released := by simp [h.reset]
  shadow := by simp [h.shadow]
  lug := by simp [h.tracker]
  records hs i hi _ hq := settle_after_none hs.sized.records hs.queue (by rw [h.tracker]) (by rw [h.optimizer]) i hq
  intake := by simp [h.intake]
  measure := by simp [h.measure]
  optimizer := optimizerTakes_congr (settle_optimizerTakes s0 x) h.optimizer (by rw [h.tracker]) h.shadow
  skip := by simp [h.skip]
  overrides := by simp [h.overrides]
  dispatch := by simp [h.dispatch]
  tally := by rw [settle_tally, h.tally]
  lineGuard := by simp [h.lineGuard]
  mem := by simp [h.mem]

/-- A change that has moved nothing but the event writer and the bus, not settled. -/
theorem BlocksKept.onlyEngines_now {s x : State} (h : BlocksKept s x) : OnlyEngines s x where
  inputs := h.inputs
  released := h.reset
  shadow := h.shadow
  lug := by rw [h.tracker]
  records _ i _ _ _ := record_of_records (by rw [h.tracker]) i
  intake := h.intake
  measure := h.measure
  optimizer := .inl h.optimizer
  skip := h.skip
  overrides := h.overrides
  dispatch := h.dispatch
  tally := by rw [h.tally]
  lineGuard := h.lineGuard
  mem := h.mem

/-! ### The event writer (R192) -/

/-- What the event writer with window `w` makes of an event: its next state, and the accesses it issues. -/
def writerStep (w : Option WindowEntry) (x : EventWriter) (e : Event) : EventWriter × List Burst :=
  let classes := x.classes ||| BitVec.twoPow 8 e.cls.code
  match x.ring, w with
  | some r, some w =>
    let next := (r.producer + 1) % ringCapacity w
    if next ≠ r.consumer then
      ({ x with ring := some { r with producer := next }, classes := classes },
        [writeBurst (windowAddr w (16 + 16 * r.producer)) (eventWords e) .plain,
          writeBurst (windowAddr w 0) [producerWord next x.overflow] .plain])
    else if x.overflow then ({ x with classes := classes }, [])
    else ({ x with overflow := true, classes := classes }, [writeBurst (windowAddr w 0) [producerWord r.producer true] .plain])
  | _, _ => ({ x with overflow := true, classes := classes }, [])

theorem emit_eq (e : Event) (s : State) : emit e s = { s with
    events := (writerStep (s.window .event) s.events e).1
    bus := { s.bus with internal := s.bus.internal ++ (writerStep (s.window .event) s.events e).2 } } := by
  simp only [emit, writerStep]
  cases s.events.ring with
  | none => simp
  | some r =>
    cases s.window .event with
    | none => simp
    | some w =>
      simp only []
      split
      · rfl
      · split
        · simp
        · rfl

/-- What the event writer makes of events handed in one after another. -/
def writerRun (w : Option WindowEntry) (x : EventWriter) : List Event → EventWriter × List Burst
  | [] => (x, [])
  | e :: es => ((writerRun w (writerStep w x e).1 es).1, (writerStep w x e).2 ++ (writerRun w (writerStep w x e).1 es).2)

theorem writerRun_append (w : Option WindowEntry) (x : EventWriter) (es fs : List Event) : writerRun w x (es ++ fs) =
    ((writerRun w (writerRun w x es).1 fs).1, (writerRun w x es).2 ++ (writerRun w (writerRun w x es).1 fs).2) := by
  induction es generalizing x with
  | nil => simp [writerRun]
  | cons e es ih => simp [writerRun, ih]

theorem emitAll_eq (es : List Event) (s : State) : emitAll es s = { s with
    events := (writerRun (s.window .event) s.events es).1
    bus := { s.bus with internal := s.bus.internal ++ (writerRun (s.window .event) s.events es).2 } } := by
  induction es generalizing s with
  | nil => simp [emitAll, writerRun]
  | cons e es ih =>
    have hcons : emitAll (e :: es) s = emitAll es (emit e s) := rfl
    have hwindow : (emit e s).window .event = s.window .event := by simp [State.window]
    rw [hcons, ih, hwindow, emit_eq]
    simp [writerRun]

theorem eventsWritten_iff (es : List Event) (s t : State) : EventsWritten es s t ↔
    t.events = (writerRun (s.window .event) s.events es).1 ∧ ∃ added, t.bus.internal = s.bus.internal ++ added ∧
      (writerRun (s.window .event) s.events es).2.Sublist added := by
  constructor
  · rintro ⟨hwriter, own, added, hown, hadded, hsub⟩
    rw [emitAll_eq] at hwriter hown
    obtain rfl := List.append_cancel_left hown
    exact ⟨hwriter, added, hadded, hsub⟩
  · rintro ⟨hwriter, added, hadded, hsub⟩
    refine ⟨by rw [emitAll_eq, hwriter], _, added, by rw [emitAll_eq], hadded, hsub⟩

/-- No event: the event writer is as it was and the internal stream has grown. -/
theorem eventsWritten_nil {s t : State} (h : t.events = s.events) (hgrows : Grows s t) : EventsWritten [] s t := by
  obtain ⟨more, hmore⟩ := hgrows
  exact (eventsWritten_iff _ _ _).2 ⟨h, more, hmore, List.nil_sublist _⟩

theorem eventsWritten_emit (e : Event) (s : State) : EventsWritten [e] s (emit e s) := by
  refine (eventsWritten_iff _ _ _).2 ⟨by simp [emit_eq, writerRun], (writerStep (s.window .event) s.events e).2, by simp [emit_eq], ?_⟩
  simp [writerRun]

theorem eventsWritten_emitAll (es : List Event) (s : State) : EventsWritten es s (emitAll es s) :=
  (eventsWritten_iff _ _ _).2 ⟨by rw [emitAll_eq], _, by rw [emitAll_eq], .refl _⟩

theorem EventsWritten.append {es fs : List Event} {s t u : State} (hst : EventsWritten es s t) (htu : EventsWritten fs t u)
    (hwindow : t.window .event = s.window .event) : EventsWritten (es ++ fs) s u := by
  obtain ⟨hwriter, added, hadded, hsub⟩ := (eventsWritten_iff _ _ _).1 hst
  obtain ⟨hwriter', added', hadded', hsub'⟩ := (eventsWritten_iff _ _ _).1 htu
  rw [hwindow, hwriter] at hwriter' hsub'
  refine (eventsWritten_iff _ _ _).2 ⟨by rw [writerRun_append, hwriter'], added ++ added', by rw [hadded', hadded, List.append_assoc], ?_⟩
  rw [writerRun_append]
  exact hsub.append hsub'

/-- Silent work before the events. -/
theorem EventsWritten.after {es : List Event} {s t u : State} (htu : EventsWritten es t u) (hevents : t.events = s.events)
    (hwindow : t.window .event = s.window .event) (hgrows : Grows s t) : EventsWritten es s u :=
  (eventsWritten_nil hevents hgrows).append htu hwindow

/-- Silent work behind the events. -/
theorem EventsWritten.before {es : List Event} {s t u : State} (hst : EventsWritten es s t) (hevents : u.events = t.events)
    (hwindow : t.window .event = s.window .event) (hgrows : Grows t u) : EventsWritten es s u := by
  simpa using hst.append (eventsWritten_nil hevents hgrows) hwindow

theorem window_of_shadow {s t : State} (h : t.shadow = s.shadow) (k : WindowKind) : t.window k = s.window k := by
  simp [State.window, h]

theorem EventsWritten.settle {es : List Event} {s t : State} (s0 : State) (h : EventsWritten es s t)
    (hwindow : t.window .event = s.window .event) : EventsWritten es s (settle s0 t) :=
  h.before (by simp) hwindow (settle_grows s0 t)

theorem writerRun_classes (w : Option WindowEntry) (x : EventWriter) (es : List Event) (i : Nat) :
    (writerRun w x es).1.classes.getLsbD i = (x.classes.getLsbD i || es.any fun e => decide (i < 8) && e.cls.code == i) := by
  induction es generalizing x with
  | nil => simp [writerRun]
  | cons e es ih =>
    have hstep : (writerStep w x e).1.classes = x.classes ||| BitVec.twoPow 8 e.cls.code := by
      simp only [writerStep]
      repeat' split
      all_goals rfl
    have hclass : (decide (e.cls.code < 8) && decide (e.cls.code = i)) = (decide (i < 8) && e.cls.code == i) := by
      by_cases hcode : e.cls.code = i <;> simp [hcode]
    simp only [writerRun, ih, hstep, List.any_cons, BitVec.getLsbD_or, BitVec.getLsbD_twoPow, Bool.or_assoc, hclass]

/-- The pending flags after events: those pending before and those of the events' classes. -/
theorem EventsWritten.pending_iff {es : List Event} {s t : State} (h : EventsWritten es s t) {i : Nat} (hi : i < 8) :
    t.events.classes.getLsbD i = true ↔ s.events.classes.getLsbD i = true ∨ ∃ e ∈ es, e.cls.code = i := by
  obtain ⟨hwriter, -⟩ := (eventsWritten_iff _ _ _).1 h
  rw [hwriter, writerRun_classes]
  simp [hi]

end Sys2Proof.Machine
end

section
/-! The bus path: transactions that pass plain (O27), the checks and the refusals (O28), the consumer word and the event writer (O32). -/

namespace Sys2Proof.Machine

/-! ### Transactions that pass plain (O27) -/

theorem firstRegion_mem (es : List WindowEntry) (x : Transaction) (hwords : 1 ≤ Transaction.words x) :
    firstRegion es x ∈ regionsOf es x := by
  have haddr := (Transaction.addr x).isLt
  refine List.mem_map.2 ⟨4 * ((Transaction.addr x).toNat / 4), ?_, rfl⟩
  simp only [touchedWords, List.mem_map, List.mem_range, Memory.wrap]
  exact ⟨0, by omega, by omega⟩

theorem accessCause_of_outside {sh : Shadow} {ty : Tally} {x : Transaction} (hwords : 1 ≤ Transaction.words x)
    (h : ∀ r ∈ regionsOf sh.entries x, r = .outside) :
    accessCause sh ty x = none ∧ firstRegion sh.entries x = .outside := by
  have hfirst := h _ (firstRegion_mem sh.entries x hwords)
  have hspan : (regionsOf sh.entries x).any (fun r => r != .outside) = false := by simpa using h
  refine ⟨?_, hfirst⟩
  simp [accessCause, hfirst, hspan]

theorem pass_grows_through (txn : Nat) (x : Transaction) (watched : Bool) (s : State) :
    (pass txn x watched s).bus.through = s.bus.through ++
      [{ addr := Transaction.addr x, access := Transaction.access x, purpose := .chassis txn (Transaction.master x) watched }] := rfl

/-- R176, R188: into what a transaction that passes plain runs, by the part state. -/
theorem arrive_plain {x : Transaction} {s : State} (hwords : 1 ≤ Transaction.words x) (hreset : s.resetAsserted = false)
    (hplain : s.shadow.part = .transparent ∨
      (s.shadow.part = .starting ∧ (Transaction.isWrite x = false ∨ 4096 ≤ (Transaction.addr x).toNat)) ∨
      (s.shadow.part = .running ∧ ∀ r ∈ regionsOf s.shadow.entries x, r = .outside)) :
    ∃ z, BlocksKept s z ∧ z.bus.through = s.bus.through ++ [passedBurst s x] ∧ z.bus.answers = s.bus.answers ∧
      z.bus.nextTxn = s.bus.nextTxn + 1 ∧ z.events = s.events ∧ z.bus.internal = s.bus.internal ∧
      (arrive x s = z ∨ arrive x s = settle s.numbered z) := by
  have hpass : ∀ watched, (passedBurst s x).purpose = .chassis s.bus.nextTxn (Transaction.master x) watched →
      BlocksKept s (pass s.bus.nextTxn x watched s.numbered) ∧
      (pass s.bus.nextTxn x watched s.numbered).bus.through = s.bus.through ++ [passedBurst s x] := fun watched hwatched =>
    ⟨(numbered_blocksKept s).trans (pass_blocksKept _ _ _ _), by rw [pass_grows_through, ← hwatched]; rfl⟩
  rw [arrive_eq, if_neg (by simp [hreset])]
  rcases hplain with hpart | ⟨hpart, hplace⟩ | ⟨hpart, houtside⟩
  · cases x with
    | read r =>
      obtain ⟨hkept, hthrough⟩ := hpass false (by simp [passedBurst])
      exact ⟨_, hkept, hthrough, rfl, rfl, rfl, rfl, .inl (by simp [hpart])⟩
    | write w =>
      obtain ⟨hkept, hthrough⟩ := hpass (carriesFormatWord w) (by simp [passedBurst, hpart])
      exact ⟨_, hkept, hthrough, rfl, rfl, rfl, rfl, .inl (by simp [hpart])⟩
  · obtain ⟨hkept, hthrough⟩ := hpass false (by simp [passedBurst, hpart])
    refine ⟨_, hkept, hthrough, rfl, rfl, rfl, rfl, .inl ?_⟩
    cases x with
    | read r => simp [hpart]
    | write w =>
      have hfar : ¬ w.addr.toNat < Config.setupBytes := by
        have := hplace.resolve_left (by simp [Transaction.isWrite])
        exact Nat.not_lt.2 this
      simp [hpart, hfar]
  · obtain ⟨hnone, hfirst⟩ := accessCause_of_outside (ty := s.tally) hwords houtside
    obtain ⟨hkept, hthrough⟩ := hpass false (by simp [passedBurst, hpart])
    refine ⟨_, hkept, hthrough, rfl, rfl, rfl, rfl, .inr ?_⟩
    simp [hpart, judge, hnone, hfirst, handle]

/-- Settles O27. -/
theorem plainTransactionsPass : Obligations.PlainTransactionsPass := by
  unfold Obligations.PlainTransactionsPass
  intro c x s hc hshort hlong hreset hplain
  obtain ⟨z, hkept, hthrough, hanswers, htxn, hevents, hinternal, heq⟩ := arrive_plain hshort hreset hplain
  have hexec : exec c s = .next (finish (arrive x s)) := by
    rw [exec_arrival c x s hc, (arrival_eq x s).1 ⟨hshort, hlong⟩]
    rfl
  rcases heq with heq | heq
  · exact ⟨z, [], heq ▸ hexec, hthrough, hanswers, htxn, hkept.onlyEngines_now, hevents, by simp [hinternal], by simp⟩
  · obtain ⟨more, hmore, haccess⟩ := settle_engineGrows s.numbered z
    exact ⟨_, more, heq ▸ hexec, by simp [hthrough], by simp [hanswers], by simp [htxn], hkept.onlyEngines _, by simp [hevents],
      by rw [hmore, hinternal], haccess⟩

/-! ### Bits of a field -/

/-- Bit `i` of a field read into a vector is bit `lo + i` of the word. -/
theorem getLsbD_ofNat_bits (w : Word) (n lo len i : Nat) :
    (BitVec.ofNat n (bits w lo len)).getLsbD i = (decide (i < n) && (decide (i < len) && w.getLsbD (lo + i))) := by
  rw [BitVec.getLsbD_ofNat, bits, Nat.testBit_mod_two_pow, Nat.testBit_div_two_pow, BitVec.testBit_toNat, Nat.add_comm i lo]

/-! ### The checks of a transaction (O28) -/

/-- The check of `accessCause` named by a cause, by itself. -/
def checkFails (sh : Shadow) (ty : Tally) (x : Transaction) : AccessCause → Bool
  | .span => (regionsOf sh.entries x).any fun r => r != firstRegion sh.entries x
  | .align => firstRegion sh.entries x != .outside && (Transaction.addr x).toNat % 4 != 0
  | .mask => !(regionMask sh (firstRegion sh.entries x) (Transaction.isWrite x)).getLsbD (Transaction.master x).toNat
  | .partial_ => Transaction.isWrite x && partialWrite sh (firstRegion sh.entries x) x
  | .owned => Transaction.isWrite x &&
      (ownWords (Transaction.addr x) (Transaction.words x)).any (ownedWord sh ty (firstRegion sh.entries x))
  | .burst => !Transaction.isWrite x && 2 ≤ Transaction.words x &&
      (ownWords (Transaction.addr x) (Transaction.words x)).any (answeredWord sh (firstRegion sh.entries x))
  | .range => consumerBeyond sh (firstRegion sh.entries x) x

/-- The causes in the order of R180. -/
def AccessCause.all : List AccessCause := [.span, .align, .mask, .partial_, .owned, .burst, .range]

theorem getLsbD_fullMask (m : Master) : (0xFF#8).getLsbD m.toNat = true := by
  have := m.isLt
  generalize m.toNat = i at *
  revert i
  decide

/-- No check but that of the span fails outside every window. -/
theorem checkFails_outside {sh : Shadow} {ty : Tally} {x : Transaction} (h : firstRegion sh.entries x = .outside)
    (hspan : checkFails sh ty x .span = false) (d : AccessCause) : checkFails sh ty x d = false := by
  have hmask := getLsbD_fullMask (Transaction.master x)
  cases d with
  | span => exact hspan
  | align => simp [checkFails, h]
  | mask => simpa [checkFails, h, regionMask] using hmask
  | partial_ => simp [checkFails, h, partialWrite, watchedWord]
  | owned => simp [checkFails, h, ownedWord]
  | burst => simp [checkFails, h, answeredWord]
  | range => simp [checkFails, h, consumerBeyond]

theorem find?_cons_ite {α : Type} (p : α → Bool) (a : α) (l : List α) :
    (a :: l).find? p = if p a = true then some a else l.find? p := by
  rw [List.find?_cons]
  cases p a <;> rfl

/-- R180: the cause is the first check that fails, in the order of the causes. -/
theorem accessCause_eq_find (sh : Shadow) (ty : Tally) (x : Transaction) :
    accessCause sh ty x = AccessCause.all.find? (checkFails sh ty x) := by
  by_cases hspan : checkFails sh ty x .span = true
  · simp only [AccessCause.all, List.find?_cons_of_pos hspan]
    exact if_pos hspan
  · by_cases houtside : firstRegion sh.entries x = .outside
    · have hnone := checkFails_outside houtside (by simpa using hspan)
      rw [List.find?_eq_none.2 fun d _ => by simp [hnone d]]
      rw [accessCause]
      simp only [checkFails] at hspan
      simp [houtside] at hspan ⊢
      exact hspan
    · simp only [AccessCause.all, find?_cons_ite, if_neg hspan, accessCause, List.find?_nil]
      have halign : (firstRegion sh.entries x != .outside && (Transaction.addr x).toNat % 4 != 0) = true ↔
          (Transaction.addr x).toNat % 4 ≠ 0 := by simp [houtside]
      simp only [checkFails, halign] at hspan ⊢
      rw [if_neg hspan, if_neg houtside]
      rfl

/-- In a list of rising keys, what `find?` answers is the member of least key that has the property. -/
theorem find?_eq_some_iff_least {α : Type} (key : α → Nat) (p : α → Bool) (l : List α)
    (hrising : l.Pairwise fun a b => key a < key b) (c : α) :
    l.find? p = some c ↔ c ∈ l ∧ p c = true ∧ ∀ d ∈ l, key d < key c → p d = false := by
  induction l with
  | nil => simp
  | cons a l ih =>
    obtain ⟨hfirst, hrest⟩ := List.pairwise_cons.1 hrising
    rw [find?_cons_ite]
    split
    · next ha =>
      constructor
      · rintro ⟨⟩
        refine ⟨List.mem_cons_self, ha, fun d hd hlt => ?_⟩
        rcases List.mem_cons.1 hd with rfl | hd
        · exact absurd hlt (lt_irrefl _)
        · exact absurd hlt (hfirst d hd).asymm
      · rintro ⟨hc, -, hleast⟩
        rcases List.mem_cons.1 hc with rfl | hc
        · rfl
        · exact absurd (hleast a List.mem_cons_self (hfirst c hc)) (by simp [ha])
    · next ha =>
      rw [ih hrest]
      constructor
      · rintro ⟨hc, hpc, hleast⟩
        refine ⟨List.mem_cons_of_mem _ hc, hpc, fun d hd hlt => ?_⟩
        rcases List.mem_cons.1 hd with rfl | hd
        · simpa using ha
        · exact hleast d hd hlt
      · rintro ⟨hc, hpc, hleast⟩
        rcases List.mem_cons.1 hc with rfl | hc
        · exact absurd hpc ha
        · exact ⟨hc, hpc, fun d hd => hleast d (List.mem_cons_of_mem _ hd)⟩

theorem AccessCause.mem_all (c : AccessCause) : c ∈ AccessCause.all := by
  cases c <;> simp [AccessCause.all]

theorem accessCause_eq_some_iff (sh : Shadow) (ty : Tally) (x : Transaction) (c : AccessCause) : accessCause sh ty x = some c ↔
    checkFails sh ty x c = true ∧ ∀ d, d.code < c.code → checkFails sh ty x d = false := by
  rw [accessCause_eq_find, find?_eq_some_iff_least AccessCause.code _ _ (by decide)]
  simp [AccessCause.mem_all]

theorem accessCause_eq_none_iff (sh : Shadow) (ty : Tally) (x : Transaction) : accessCause sh ty x = none ↔
    ∀ d, checkFails sh ty x d = false := by
  rw [accessCause_eq_find, List.find?_eq_none]
  simp [AccessCause.mem_all]

/-! ### Each check as the statement gives it -/

theorem getLsbD_writerMask (ws : List Word) (m : Master) :
    (writerMask ws).getLsbD m.toNat = (setupWord ws 1).getLsbD m.toNat := by
  have := m.isLt
  rw [writerMask, getLsbD_ofNat_bits, Nat.zero_add]
  simp [show m.toNat < 8 from m.isLt]

theorem getLsbD_windowMask (e : WindowEntry) (write : Bool) (m : Master) :
    (if write then e.writeMask else e.readMask).getLsbD m.toNat = e.control.getLsbD ((if write then 16 else 8) + m.toNat) := by
  have hm : m.toNat < 8 := m.isLt
  cases write
  · rw [if_neg Bool.false_ne_true, if_neg Bool.false_ne_true, WindowEntry.readMask, getLsbD_ofNat_bits, decide_eq_true hm]
    rfl
  · rw [if_pos rfl, if_pos rfl, WindowEntry.writeMask, getLsbD_ofNat_bits, decide_eq_true hm]
    rfl

theorem inWindow_iff {sh : Shadow} {x : Transaction} {i : Nat} (h : firstRegion sh.entries x = .window i) (P : WindowEntry → Prop) :
    (∃ i e, InWindow sh x i e ∧ P e) ↔ P (entryAt sh.entries i) := by
  constructor
  · rintro ⟨j, e, ⟨hj, rfl⟩, hP⟩
    rw [h] at hj
    cases hj
    exact hP
  · exact fun hP => ⟨i, _, ⟨h, rfl⟩, hP⟩

theorem not_inWindow {sh : Shadow} {x : Transaction} (h : ∀ i, firstRegion sh.entries x ≠ .window i) (P : WindowEntry → Prop) :
    ¬ ∃ i e, InWindow sh x i e ∧ P e := by
  rintro ⟨i, e, ⟨hi, -⟩, -⟩
  exact h i hi

theorem hasWordAt_iff (x : Transaction) (e : WindowEntry) (P : Nat → Prop) :
    (∃ off, HasWordAt x e off ∧ P off) ↔ ∃ a ∈ ownWords (Transaction.addr x) (Transaction.words x), P (offsetIn e a) := by
  constructor
  · rintro ⟨off, ⟨a, ha, rfl⟩, hP⟩
    exact ⟨a, ha, hP⟩
  · rintro ⟨a, ha, hP⟩
    exact ⟨_, ⟨a, ha, rfl⟩, hP⟩

theorem word_inWindow_iff {sh : Shadow} {x : Transaction} {i : Nat} (h : firstRegion sh.entries x = .window i)
    (P : WindowEntry → Nat → Prop) : (∃ i e off, InWindow sh x i e ∧ HasWordAt x e off ∧ P e off) ↔
      ∃ a ∈ ownWords (Transaction.addr x) (Transaction.words x), P (entryAt sh.entries i) (offsetIn (entryAt sh.entries i) a) := by
  rw [← hasWordAt_iff, ← inWindow_iff h fun e => ∃ off, HasWordAt x e off ∧ P e off]
  simp only [exists_and_left]

theorem watchedOffset_iff (e : WindowEntry) (off : Nat) : watchedOffset e off = true ↔
    (e.kind = .frame ∧ off / 1024 < frameSlots e ∧ (off % 1024 = 0 ∨ off % 1024 = 1020)) ∨
      (e.kind = .override ∧ off / 16 < overrideEntries e ∧ off % 16 = 8) ∨ (e.kind = .event ∧ off = 4) := by
  unfold watchedOffset
  cases e.kind <;> simp

theorem ownedOffset_iff (ty : Tally) (e : WindowEntry) (off : Nat) : ownedOffset ty e off = true ↔
    (e.kind = .record ∧ off < 8448) ∨
      (e.kind = .tally ∧ (off < 256 ∨ (256 + 1024 * ty.bank.toNat ≤ off ∧ off < 1280 + 1024 * ty.bank.toNat))) ∨
      (e.kind = .event ∧ off < 16 + 16 * ringCapacity e ∧ off ≠ 4) ∨ ((e.kind = .trim ∨ e.kind = .sort) ∧ off < 128) := by
  have hbank : off < 256 + 1024 * ty.bank.toNat + 1024 ↔ off < 1280 + 1024 * ty.bank.toNat := by omega
  unfold ownedOffset bankOffset
  cases e.kind <;> simp only [Bool.or_eq_true, Bool.and_eq_true, decide_eq_true_eq, bne_iff_ne, hbank] <;> simp

theorem isPartial_iff (b : Beat) : Beat.isPartial b = true ↔ b.enables ≠ 0xF#4 ∧ b.enables ≠ 0#4 := by
  simp [Beat.isPartial]

theorem words_pos_of_beat {x : Transaction} {b : Beat} (hb : b ∈ Transaction.beats x) :
    Transaction.isWrite x = true ∧ ∃ a, a ∈ ownWords (Transaction.addr x) (Transaction.words x) := by
  cases x with
  | read r => cases hb
  | write w =>
    refine ⟨rfl, Memory.wrap (w.addr.toNat + 4 * 0), List.mem_map.2 ⟨0, ?_, rfl⟩⟩
    exact List.mem_range.2 (List.length_pos_of_mem hb)

/-- Each check of the chain is the failing that the statement names, whatever the region. -/
theorem checkFails_iff (sh : Shadow) (ty : Tally) (x : Transaction) (c : AccessCause) :
    checkFails sh ty x c = true ↔ Fails sh ty x c := by
  cases c with
  | span => simp [checkFails, Fails]
  | align => simp [checkFails, Fails]
  | mask =>
    simp only [checkFails, Fails, Bool.not_eq_true']
    cases hregion : firstRegion sh.entries x with
    | setup =>
      rw [or_iff_left (not_inWindow (by simp [hregion]) _)]
      cases hwrite : Transaction.isWrite x with
      | false => simp [regionMask, getLsbD_fullMask]
      | true => simp [regionMask, getLsbD_writerMask]
    | window i =>
      rw [inWindow_iff hregion fun e =>
        e.control.getLsbD ((if Transaction.isWrite x then 16 else 8) + (Transaction.master x).toNat) = false, regionMask,
        getLsbD_windowMask]
      simp
    | outside =>
      rw [or_iff_left (not_inWindow (by simp [hregion]) _)]
      simp [regionMask, getLsbD_fullMask]
  | partial_ =>
    simp only [checkFails, Fails, partialWrite, Bool.and_eq_true, List.any_eq_true, isPartial_iff]
    have hbeat : (∃ b ∈ Transaction.beats x, b.enables ≠ 0xF#4 ∧ b.enables ≠ 0#4) → Transaction.isWrite x = true ∧
        ∃ a, a ∈ ownWords (Transaction.addr x) (Transaction.words x) := fun ⟨b, hb, _⟩ => words_pos_of_beat hb
    generalize (∃ b ∈ Transaction.beats x, b.enables ≠ 0xF#4 ∧ b.enables ≠ 0#4) = partialBeat at *
    cases hregion : firstRegion sh.entries x with
    | setup =>
      simp only [watchedWord, true_or, and_true]
      exact ⟨fun h => h.2.2, fun h => ⟨(hbeat h).1, (hbeat h).2, h⟩⟩
    | window i =>
      rw [word_inWindow_iff hregion fun e off =>
        (e.kind = .frame ∧ off / 1024 < frameSlots e ∧ (off % 1024 = 0 ∨ off % 1024 = 1020)) ∨
          (e.kind = .override ∧ off / 16 < overrideEntries e ∧ off % 16 = 8) ∨ (e.kind = .event ∧ off = 4)]
      simp only [watchedWord, watchedOffset_iff, reduceCtorEq, false_or]
      exact ⟨fun h => ⟨h.2.2, h.2.1⟩, fun h => ⟨(hbeat h.1).1, h.2, h.1⟩⟩
    | outside => simp [watchedWord, InWindow, hregion]
  | owned =>
    simp only [checkFails, Fails, Bool.and_eq_true, List.any_eq_true]
    cases hregion : firstRegion sh.entries x with
    | window i =>
      rw [word_inWindow_iff hregion fun e off => (e.kind = .record ∧ off < 8448) ∨
        (e.kind = .tally ∧ (off < 256 ∨ (256 + 1024 * ty.bank.toNat ≤ off ∧ off < 1280 + 1024 * ty.bank.toNat))) ∨
        (e.kind = .event ∧ off < 16 + 16 * ringCapacity e ∧ off ≠ 4) ∨ ((e.kind = .trim ∨ e.kind = .sort) ∧ off < 128)]
      simp only [ownedWord, ownedOffset_iff]
    | setup | outside => simp [ownedWord, InWindow, hregion]
  | burst =>
    simp only [checkFails, Fails, Bool.and_eq_true, List.any_eq_true, Bool.not_eq_true', decide_eq_true_eq, and_assoc]
    cases hregion : firstRegion sh.entries x with
    | window i =>
      rw [word_inWindow_iff hregion fun e off => (e.kind = .trim ∨ e.kind = .sort) ∧ off < 128]
      simp [answeredWord]
    | setup | outside => simp [answeredWord, InWindow, hregion]
  | range =>
    cases x with
    | read r => cases hregion : firstRegion sh.entries (.read r) <;> simp [checkFails, Fails, consumerBeyond, hregion]
    | write w =>
      cases hregion : firstRegion sh.entries (.write w) with
      | window i =>
        simp only [checkFails, Fails, consumerBeyond, hregion, InWindow, Bool.and_eq_true, beq_iff_eq, List.any_eq_true,
          decide_eq_true_eq, offsetIn]
        constructor
        · rintro ⟨hkind, ⟨a, b⟩, hcarried, ⟨hoff, hfull⟩, hbeyond⟩
          exact ⟨w, i, _, a, b, rfl, ⟨rfl, rfl⟩, hkind, hcarried, hoff, hfull, hbeyond⟩
        · rintro ⟨w, i, e, a, b, ⟨⟩, ⟨⟨⟩, rfl⟩, hkind, hcarried, hoff, hfull, hbeyond⟩
          exact ⟨hkind, (a, b), hcarried, ⟨hoff, hfull⟩, hbeyond⟩
      | setup | outside => simp [checkFails, Fails, consumerBeyond, InWindow, hregion]

/-! ### Windows in force and classes of words (O28) -/

theorem enabledAndValid_iff (e : WindowEntry) : EnabledAndValid e ↔ e.enabled = true ∧ e.invalidCause = none := by
  have hsize : EnabledAndValid e ↔ e.enabled = true ∧ e.start ≤ e.top ∧ (e.kind = .frame → e.head ≤ 5) ∧
      e.kind.minimum ≤ e.size := by
    unfold EnabledAndValid WindowEntry.size
    cases e.kind <;> rfl
  rw [hsize]
  unfold WindowEntry.invalidCause
  split
  · simp; omega
  · split
    · simp; omega
    · split
      · next hhead => simp [hhead.1]; omega
      · next hhead =>
        have hhead : e.kind = .frame → e.head ≤ 5 := fun hkind => not_lt.1 fun h => hhead ⟨hkind, h⟩
        simp only [and_true, iff_true_intro hhead, true_and]
        exact and_iff_left ⟨by omega, by omega⟩

theorem entryStands_iff (es : List WindowEntry) (i : Nat) : entryStands es i = true ↔ EnabledAndValid (entryAt es i) := by
  rw [enabledAndValid_iff]
  simp [entryStands]

theorem sameTarget_iff (e f : WindowEntry) : e.sameTarget f = true ↔ e.kind = f.kind ∧ (f.kind = .frame → e.head = f.head) := by
  simp only [WindowEntry.sameTarget, Bool.and_eq_true, beq_iff_eq, Bool.or_eq_true, bne_iff_ne, ne_eq]
  exact and_congr_right fun hkind => by rw [hkind, imp_iff_not_or]

/-- R177: an entry is a window in force exactly when it stands and no lower one of its target does. -/
theorem isInForce_iff (es : List WindowEntry) (i : Nat) : isInForce es i = true ↔ EnabledAndValid (entryAt es i) ∧
    ∀ j, j < i → EnabledAndValid (entryAt es j) → ¬ ((entryAt es j).kind = (entryAt es i).kind ∧
      ((entryAt es i).kind = .frame → (entryAt es j).head = (entryAt es i).head)) := by
  have hdup : ((List.range i).any fun j => entryStands es j && (entryAt es j).sameTarget (entryAt es i)) = false ↔
      ∀ j, j < i → EnabledAndValid (entryAt es j) → ¬ ((entryAt es j).kind = (entryAt es i).kind ∧
        ((entryAt es i).kind = .frame → (entryAt es j).head = (entryAt es i).head)) := by
    simp only [List.any_eq_false, List.mem_range, Bool.and_eq_true, entryStands_iff, sameTarget_iff]
    exact forall_congr' fun j => imp_congr_right fun _ => not_and
  rw [enabledAndValid_iff, ← hdup, isInForce, ignoredCause]
  cases (entryAt es i).invalidCause with
  | some c => simp
  | none => split <;> simp_all

/-- R178: the class of a word, by the first of the three that holds. -/
theorem classify_iff (es : List WindowEntry) (a : Nat) : (classify es a = .setup ↔ a < 4096) ∧
    ∀ i, classify es a = .window i ↔ 4096 ≤ a ∧ i < 16 ∧ isInForce es i = true ∧
      ((entryAt es i).start ≤ a ∧ a ≤ (entryAt es i).top + 3) ∧
      ∀ j, j < i → isInForce es j = true → ¬ ((entryAt es j).start ≤ a ∧ a ≤ (entryAt es j).top + 3) := by
  have hfind : ∀ i, (List.range 16).find? (fun i => isInForce es i && (entryAt es i).covers a) = some i ↔
      i < 16 ∧ isInForce es i = true ∧ ((entryAt es i).start ≤ a ∧ a ≤ (entryAt es i).top + 3) ∧
      ∀ j, j < i → isInForce es j = true → ¬ ((entryAt es j).start ≤ a ∧ a ≤ (entryAt es j).top + 3) := fun i => by
    rw [List.find?_range_eq_some]
    simp only [WindowEntry.covers, Bool.and_eq_true, decide_eq_true_eq, List.mem_range, Bool.not_eq_true',
      Bool.and_eq_false_imp, decide_eq_false_iff_not, not_and]
    tauto
  unfold classify
  split
  · next hlow => exact ⟨iff_of_true rfl hlow, fun i => iff_of_false (by simp) fun h => absurd h.1 (Nat.not_le.2 hlow)⟩
  · next hhigh =>
    have hhigh : 4096 ≤ a := Nat.not_lt.1 hhigh
    refine ⟨iff_of_false (by split <;> simp) (Nat.not_lt.2 hhigh), fun i => ?_⟩
    rw [← hfind, and_iff_right hhigh]
    split
    · next j hj => simp [hj]
    · next hnone => simp [hnone]

/-! ### Refusals (O28) -/

theorem emit_congr_values (e : Event) {s t : State} (hevents : t.events = s.events) (hwindow : t.window .event = s.window .event)
    (hinternal : t.bus.internal = s.bus.internal) :
    (emit e t).events = (emit e s).events ∧ (emit e t).bus.internal = (emit e s).bus.internal := by
  simp [emit_eq, hevents, hwindow, hinternal]

/-- Settles O28: `exec_refused`, and the checks through `checkFails_iff`. -/
theorem refusedTransactionsHaveNoEffect : Obligations.RefusedTransactionsHaveNoEffect := by
  unfold Obligations.RefusedTransactionsHaveNoEffect
  refine ⟨fun c x cause e s hc hshort hlong hreset hrun hcause he => ?_, fun sh ty x cause => ?_, fun sh ty x => ?_,
    isInForce_iff, classify_iff⟩
  · have hemit : emitAccess x cause (refuse s.bus.nextTxn x s.numbered) = emit e (refuse s.bus.nextTxn x s.numbered) := by
      rw [he]
      rfl
    obtain ⟨hevents, hinternal⟩ := emit_congr_values (s := s) (t := refuse s.bus.nextTxn x s.numbered) e rfl rfl rfl
    have hkept : BlocksKept s (emit e (refuse s.bus.nextTxn x s.numbered)) :=
      ((numbered_blocksKept s).trans (answer_blocksKept _ _ _ _)).trans (emit_blocksKept _ _)
    obtain ⟨more, hmore, haccess⟩ := settle_engineGrows s.numbered (emit e (refuse s.bus.nextTxn x s.numbered))
    refine ⟨_, more, exec_refused hc hshort hlong hreset hrun hcause, ?_⟩
    rw [hemit]
    refine ⟨by simp, by simp [refuse, answer, errorAnswer], by simp [hevents], ?_, hkept.onlyEngines _, by rw [hmore, hinternal],
      haccess⟩
    have hclass : e.cls.code = 6 := by rw [he]; rfl
    simpa using emit_pending e (refuse s.bus.nextTxn x s.numbered) 6 hclass (by decide)
  · rw [accessCause_eq_some_iff, checkFails_iff]
    simp only [← Bool.not_eq_true, checkFails_iff]
  · rw [accessCause_eq_none_iff]
    simp only [← Bool.not_eq_true, checkFails_iff]

/-! ### The layout of a word (R197) -/

theorem toNat_wordOf {fields : List Nat} (h : fields.sum < 4294967296) : (wordOf fields).toNat = fields.sum := by
  rw [wordOf, BitVec.toNat_ofNat]
  exact Nat.mod_eq_of_lt h

theorem place_eq (v lo len : Nat) : place v lo len = 2 ^ lo * (v % 2 ^ len) := Nat.mul_comm _ _

theorem place_low (v : Nat) : place v 0 16 = v % 65536 := by simp [place_eq]

/-- Two placed fields of 16 bits. -/
theorem toNat_pair (x y : Nat) : (pair x y).toNat = x % 65536 + 2 ^ 16 * (y % 65536) := by
  have hx : x % 65536 < 65536 := Nat.mod_lt _ (by decide)
  have hy : y % 65536 < 65536 := Nat.mod_lt _ (by decide)
  have hsum : [place x 0 16, place y 16 16].sum = x % 65536 + 2 ^ 16 * (y % 65536) := by simp [place_eq]
  rw [pair, toNat_wordOf (by omega), hsum]

theorem toNat_triple (x y z : Nat) : (triple x y z).toNat = x % 65536 + 2 ^ 16 * (y % 256) + 2 ^ 24 * (z % 256) := by
  have hx : x % 65536 < 65536 := Nat.mod_lt _ (by decide)
  have hy : y % 256 < 256 := Nat.mod_lt _ (by decide)
  have hz : z % 256 < 256 := Nat.mod_lt _ (by decide)
  have hsum : [place x 0 16, place y 16 8, place z 24 8].sum = x % 65536 + 2 ^ 16 * (y % 256) + 2 ^ 24 * (z % 256) := by
    simp [place_eq, Nat.add_assoc]
  rw [triple, toNat_wordOf (by omega), hsum]

theorem placeBit_eq (b : Bool) (lo : Nat) : placeBit b lo = 2 ^ lo * b.toNat := by
  cases b <;> simp [placeBit]

theorem toNat_producerWord (p : Nat) (o : Bool) : (producerWord p o).toNat = p % 65536 + 2 ^ 31 * o.toNat := by
  have ho := o.toNat_le
  have hp : p % 65536 < 65536 := Nat.mod_lt _ (by decide)
  have hsum : [place p 0 16, placeBit o 31].sum = p % 65536 + 2 ^ 31 * o.toNat := by
    rw [List.sum_cons, List.sum_cons, List.sum_nil, place_low, placeBit_eq, Nat.add_zero]
  rw [producerWord, toNat_wordOf (by omega), hsum]

theorem eventClass_code_lt (c : EventClass) : c.code < 8 := by cases c <;> decide

theorem eventLayout : EventLayout where
  producer := toNat_producerWord
  two := toNat_pair
  three := toNat_triple
  classes := rfl
  entry e := by
    have hclass := eventClass_code_lt e.cls
    have hcode : e.code % 256 < 256 := Nat.mod_lt _ (by decide)
    have hlug : e.lug.toNat % 65536 = e.lug.toNat := Nat.mod_eq_of_lt e.lug.isLt
    have hfirst : [place e.code 0 8, place e.cls.code 8 3].sum = e.code % 256 + 2 ^ 8 * e.cls.code := by
      simp [place_eq, Nat.mod_eq_of_lt hclass]
    have hsecond : [place e.lug.toNat 0 16].sum = e.lug.toNat := by simp [place_eq, hlug]
    have hbound := e.lug.isLt
    simp only [eventWords, List.map_cons, List.map_nil]
    rw [toNat_wordOf (by omega), toNat_wordOf (by omega), hfirst, hsecond]

/-! ### The consumer word (O32) -/

theorem ring_next_unread {c p n : Nat} (hp : p < n) (hc : c < n) (hroom : (p + 1) % n ≠ c) :
    (∀ i, i < (p + n - c) % n → (c + i) % n ≠ p) ∧ ((p + 1) % n + n - c) % n = (p + n - c) % n + 1 := by
  by_cases hwrap : p + 1 = n
  · rw [hwrap, Nat.mod_self] at hroom ⊢
    have hpc : c ≤ p := by omega
    have hcount : (p + n - c) % n = p - c := by
      rw [show p + n - c = p - c + n by omega, Nat.add_mod_right, Nat.mod_eq_of_lt (by omega)]
    rw [hcount, show 0 + n - c = n - c by omega, Nat.mod_eq_of_lt (by omega)]
    refine ⟨fun i hi => ?_, by omega⟩
    rw [Nat.mod_eq_of_lt (by omega)]
    omega
  · rw [Nat.mod_eq_of_lt (by omega : p + 1 < n)] at hroom ⊢
    by_cases hle : c ≤ p
    · rw [show p + n - c = p - c + n by omega, show p + 1 + n - c = p + 1 - c + n by omega, Nat.add_mod_right,
        Nat.add_mod_right, Nat.mod_eq_of_lt (by omega : p - c < n), Nat.mod_eq_of_lt (by omega : p + 1 - c < n)]
      refine ⟨fun i hi => ?_, by omega⟩
      rw [Nat.mod_eq_of_lt (by omega)]
      omega
    · rw [Nat.mod_eq_of_lt (by omega : p + n - c < n), Nat.mod_eq_of_lt (by omega : p + 1 + n - c < n)]
      refine ⟨fun i hi => ?_, by omega⟩
      by_cases hend : c + i < n
      · rw [Nat.mod_eq_of_lt hend]; omega
      · rw [show c + i = c + i - n + n by omega, Nat.add_mod_right, Nat.mod_eq_of_lt (by omega)]; omega

theorem takeConsumer_of_ring {e : WindowEntry} {c : Nat} {s : State} {r : Ring} (hring : s.events.ring = some r) :
    (c = r.producer →
      (takeConsumer e c s).events = { ring := some { r with consumer := c }, overflow := false, classes := 0 } ∧
      (takeConsumer e c s).bus.internal = s.bus.internal ++ (if s.events.overflow then
        [writeBurst (windowAddr e 0) [producerWord r.producer false] .plain] else [])) ∧
    (c ≠ r.producer → (takeConsumer e c s).events = { s.events with ring := some { r with consumer := c } } ∧
      (takeConsumer e c s).bus.internal = s.bus.internal) := by
  constructor
  · intro hcaught
    simp only [takeConsumer, hring, if_pos hcaught]
    split <;> simp [issue]
  · intro hbehind
    simp [takeConsumer, hring, if_neg hbehind]

theorem takeConsumer_of_none {e : WindowEntry} {c : Nat} {s : State} (hring : s.events.ring = none) : takeConsumer e c s = s := by
  simp [takeConsumer, hring]

theorem writerStep_of_room {x : EventWriter} {e : Event} {r : Ring} {w : Option WindowEntry} {v : WindowEntry}
    (hring : x.ring = some r) (hwindow : w = some v)
    (hroom : (r.producer + 1) % ringCapacity v ≠ r.consumer) : writerStep w x e =
      ({ x with ring := some { r with producer := (r.producer + 1) % ringCapacity v },
                classes := x.classes ||| BitVec.twoPow 8 e.cls.code },
        [writeBurst (windowAddr v (16 + 16 * r.producer)) (eventWords e) .plain,
          writeBurst (windowAddr v 0) [producerWord ((r.producer + 1) % ringCapacity v) x.overflow] .plain]) := by
  simp [writerStep, hring, hwindow, hroom]

theorem writerStep_of_full {x : EventWriter} {e : Event} {r : Ring} {w : Option WindowEntry} {v : WindowEntry}
    (hring : x.ring = some r) (hwindow : w = some v)
    (hfull : (r.producer + 1) % ringCapacity v = r.consumer) : writerStep w x e =
      ({ x with overflow := true, classes := x.classes ||| BitVec.twoPow 8 e.cls.code },
        if x.overflow then [] else [writeBurst (windowAddr v 0) [producerWord r.producer true] .plain]) := by
  cases hoverflow : x.overflow <;> simp [writerStep, hring, hwindow, hfull, hoverflow]

theorem writerStep_of_none {x : EventWriter} {e : Event} {w : Option WindowEntry} (hnone : x.ring = none ∨ w = none) :
    writerStep w x e = ({ x with overflow := true, classes := x.classes ||| BitVec.twoPow 8 e.cls.code }, []) := by
  rcases hnone with hring | rfl
  · simp [writerStep, hring]
  · cases hring : x.ring <;> simp [writerStep, hring]

/-- What a permitted full-word write of the consumer word runs into. -/
theorem handle_consumer {s : State} {c : Instr} {j : Nat} {m : Master} {d : Word} (h : WritesWindow s c .event j 4 m d) :
    handle s.bus.nextTxn (.write (oneWord m (windowAddr (entryAt s.shadow.entries j) 4) d)) (.window j) s.numbered =
      takeConsumer (entryAt s.shadow.entries j) d.toNat
        (pass s.bus.nextTxn (.write (oneWord m (windowAddr (entryAt s.shadow.entries j) 4) d)) false s.numbered) := by
  obtain ⟨-, hcarried, hoff⟩ := writes_exec h (by decide) (by decide)
  simp [handle, h.isKind, eventWrite, hcarried, hoff]

/-- Settles O32. -/
theorem consumerWriteSetsIndex : Obligations.ConsumerWriteSetsIndex := by
  unfold Obligations.ConsumerWriteSetsIndex
  refine ⟨⟨fun c j m d s h => ?_, fun s e cls hcls => ⟨fun r w hring hwindow hroom => ⟨?_, fun hp hc => ?_⟩,
    fun r w hring hwindow hfull => ?_, fun hnone => ?_⟩⟩, eventLayout⟩
  · obtain ⟨hexec, -, -⟩ := writes_exec h (by decide) (by decide)
    have hpart := h.admitted.running
    rw [handle_consumer h] at hexec
    generalize hx : Transaction.write (oneWord m (windowAddr (entryAt s.shadow.entries j) 4) d) = x at *
    have hpassed : (pass s.bus.nextTxn x false s.numbered).bus.through = s.bus.through ++ [passedBurst s x] := by
      rw [pass_grows_through]
      simp [passedBurst, hpart]
    have hkept : BlocksKept s (takeConsumer (entryAt s.shadow.entries j) d.toNat (pass s.bus.nextTxn x false s.numbered)) :=
      ((numbered_blocksKept s).trans (pass_blocksKept _ _ _ _)).trans (takeConsumer_blocksKept _ _ _)
    obtain ⟨more, hmore, haccess⟩ := settle_engineGrows s.numbered
      (takeConsumer (entryAt s.shadow.entries j) d.toNat (pass s.bus.nextTxn x false s.numbered))
    refine ⟨_, more, hexec, haccess, by simpa using hpassed, by simp, hkept.onlyEngines _, fun r hring hd => ?_, fun r hring hd => ?_,
      fun hring => ?_⟩
    · obtain ⟨hevents, hinternal⟩ := (takeConsumer_of_ring (e := entryAt s.shadow.entries j) (c := d.toNat)
        (s := pass s.bus.nextTxn x false s.numbered) hring).1 hd
      refine ⟨by simpa using hevents, ?_⟩
      rw [hmore, hinternal]
      simp [producerWord, wordOf, place, placeBit]
    · obtain ⟨hevents, hinternal⟩ := (takeConsumer_of_ring (e := entryAt s.shadow.entries j) (c := d.toNat)
        (s := pass s.bus.nextTxn x false s.numbered) hring).2 hd
      exact ⟨by simpa using hevents, by rw [hmore, hinternal]; rfl⟩
    · rw [takeConsumer_of_none (by exact hring)] at hmore ⊢
      exact ⟨by simp, hmore⟩
  · rw [emit_eq, writerStep_of_room hring hwindow hroom, hcls]
    rfl
  · exact ring_next_unread hp hc hroom
  · rw [emit_eq, writerStep_of_full hring hwindow hfull, hcls]
  · rw [emit_eq, writerStep_of_none hnone, hcls, List.append_nil]

end Sys2Proof.Machine
end

section
/-! The state after reset (O4), the enable masks (O31), completions at the port (O33) and the merge of a frame (O40). -/

namespace Sys2Proof.Machine

/-! ### Reset (O4) -/

theorem reset_record (k : Nat) : State.reset.record k = Record.blank := by
  simp only [State.reset, State.record, Tracker.powerOn, List.getD_eq_getElem?_getD, List.getElem?_replicate]
  split <;> rfl

theorem reset_not_live (k : Nat) : (State.reset.record k).live = false := by
  rw [reset_record]
  rfl

theorem reset_tableSound : State.reset.TableSound where
  sized := by constructor <;> simp [State.reset, Tracker.powerOn, Shadow.powerOn, Intake.powerOn, Overrides.powerOn,
    Dispatch.powerOn, LineGuard.powerOn]
  placed k _ hlive := by simp [reset_not_live] at hlive
  queue := ⟨.nil, fun e he => by cases he⟩
  aged :=
    { lugs := fun e he => by cases he
      older := .nil
      named := fun k _ hk => by simp [reset_record, Record.blank] at hk }

theorem reset_frameSlot (h i : Nat) : frameSlot State.reset h i = none := by
  simp only [frameSlot, State.reset, Intake.powerOn, List.getD_eq_getElem?_getD, List.getElem?_replicate]
  split <;> rfl

theorem reset_frameSlotsSound : State.reset.FrameSlotsSound where
  table := reset_tableSound
  held h i hheld := by simp [reset_frameSlot] at hheld
  fresh e he := by cases he
  listed k _ hlive := by simp [reset_not_live] at hlive
  apart j k p _ _ hlive := by simp [reset_not_live] at hlive
  readBacks e he := by cases he
  engine g hg := by cases hg
  windows hrun := by cases hrun
  loading _ := rfl
  startUp _ := ⟨rfl, fun g hg => (by cases hg), fun k _ => reset_not_live k⟩

theorem reset_withinLimits : State.reset.WithinLimits where
  posts := Nat.zero_le _
  pendings := Nat.zero_le _
  heldReads := Nat.zero_le _
  sortReads := Nat.zero_le _
  updates := Nat.zero_le _
  fresh := Nat.zero_le _
  ring r hr := by cases hr

/-- Settles O4. -/
theorem resetIsSafe : Obligations.ResetIsSafe := by
  unfold Obligations.ResetIsSafe
  refine ⟨⟨.nil, fun c hc => by cases hc⟩, reset_withinLimits, reset_frameSlotsSound, ?_, rfl⟩
  have hlskip : lskipLevel State.reset = false := rfl
  have halmout : almoutLevel State.reset = true := rfl
  have hattn : attnLevel State.reset = false := by simp [attnLevel, State.reset, EventWriter.powerOn]
  rw [State.pinsFollow, hlskip, halmout, hattn]
  rfl

/-! ### The merge of a frame (O40) -/

theorem convert_le (raw : Nat) (offset : Int) (gain limit : Nat) : convert raw offset gain limit ≤ limit := min_le_right _ _

theorem sliceOf_wane_le (w0 w1 : Word) : (sliceOf w0 w1).wane ≤ 255 := by
  have : bits w1 0 8 < 2 ^ 8 := Nat.mod_lt _ (by decide)
  simp only [sliceOf]
  omega

/-- The measurements of a segment lie in their ranges (the eighth law). -/
def Segment.InRange (e : Segment) : Prop := e.minThickness ≤ 2000 ∧ e.minWidth ≤ 4000 ∧ e.maxWane ≤ 1275 ∧ e.defects ≤ 65535 ∧
  e.wood ≤ 255 ∧ e.knots ≤ 255

/-- From `e` to `f` counts, sums and the wane have only risen, and the minima only fallen. -/
def Segment.Merged (e f : Segment) : Prop := e.wood ≤ f.wood ∧ e.knots ≤ f.knots ∧ e.defects ≤ f.defects ∧ e.maxWane ≤ f.maxWane ∧
  f.minThickness ≤ e.minThickness ∧ f.minWidth ≤ e.minWidth

theorem Segment.Merged.refl (e : Segment) : e.Merged e := ⟨le_rfl, le_rfl, le_rfl, le_rfl, le_rfl, le_rfl⟩

theorem Segment.Merged.trans {e f g : Segment} (h1 : e.Merged f) (h2 : f.Merged g) : e.Merged g := by
  obtain ⟨hwood, hknots, hdefects, hwane, hthickness, hwidth⟩ := h1
  obtain ⟨hwood', hknots', hdefects', hwane', hthickness', hwidth'⟩ := h2
  exact ⟨hwood.trans hwood', hknots.trans hknots', hdefects.trans hdefects', hwane.trans hwane', hthickness'.trans hthickness,
    hwidth'.trans hwidth⟩

/-- R50, R51: a slice merged into a segment entry. -/
theorem mergeSegment_spec (ws : List Word) (h : Nat) {c : Slice} (hc : c.wane ≤ 255) {e : Segment} (he : e.InRange) :
    (mergeSegment ws h c e).InRange ∧ e.Merged (mergeSegment ws h c e) := by
  obtain ⟨hthickness, hwidth, hwane, hdefects, hwood, hknots⟩ := he
  unfold Segment.InRange Segment.Merged mergeSegment sliceWane
  refine ⟨⟨?_, ?_, ?_, ?_, ?_, ?_⟩, ?_, ?_, ?_, ?_, ?_, ?_⟩ <;> dsimp only <;> try split
  all_goals omega

/-- The record has its twelve segments, each in range, and its length in range. -/
def Record.InRange (r : Record) : Prop := r.segments.length = 12 ∧ r.length ≤ 7320 ∧ ∀ i, i < 12 → (r.segment i).InRange

/-- From `r` to `q` the length and every segment have only grown as a merge makes them. -/
def Record.Merged (r q : Record) : Prop := r.length ≤ q.length ∧ ∀ i, i < 12 → (r.segment i).Merged (q.segment i)

theorem segment_of_set {r q : Record} {k : Nat} {e : Segment} (h : q.segments = r.segments.set k e) (hk : k < r.segments.length)
    (i : Nat) : q.segment i = if i = k then e else r.segment i := by
  simp only [Record.segment, h, List.getD_eq_getElem?_getD, List.getElem?_set]
  by_cases hik : k = i
  · subst hik; simp [hk]
  · simp [hik, Ne.symm hik]

/-- R48, R50-R53: one slice merged into a record. -/
theorem mergeSlice_spec (ws : List Word) (h : Nat) {c : Slice} (hc : c.wane ≤ 255) {r : Record} (hr : r.InRange) :
    (mergeSlice ws h r c).InRange ∧ r.Merged (mergeSlice ws h r c) ∧ (mergeSlice ws h r c).contributed = r.contributed := by
  obtain ⟨hsegments, hlength, hrange⟩ := hr
  simp only [mergeSlice]
  split
  · split
    · next hx =>
      have hx : slicePosition ws h c < 7320 := hx
      have hk : slicePosition ws h c / 610 < 12 := by omega
      set k := slicePosition ws h c / Config.segmentMm with hkdef
      have hk : k < 12 := hk
      obtain ⟨hnew, hmerged⟩ := mergeSegment_spec ws h hc (hrange k hk)
      have hsegment := segment_of_set (r := r) (q := { r with
        segments := r.segments.set k (mergeSegment ws h c (r.segment k)), length := max r.length (slicePosition ws h c + 1) })
        rfl (by omega)
      refine ⟨⟨by simpa using hsegments, by dsimp only; omega, fun i hi => ?_⟩, ⟨le_max_left _ _, fun i hi => ?_⟩, rfl⟩
      · rw [hsegment]
        split
        · exact hnew
        · exact hrange i hi
      · rw [hsegment]
        split
        · next hik => exact hik ▸ hmerged
        · exact .refl _
    · exact ⟨⟨hsegments, le_rfl, hrange⟩, ⟨hlength, fun i _ => .refl _⟩, rfl⟩
  · exact ⟨⟨hsegments, hlength, hrange⟩, ⟨le_rfl, fun i _ => .refl _⟩, rfl⟩

/-- R49: a merge of slices, by induction on them. -/
theorem mergeSlices_spec (ws : List Word) (h : Nat) (slices : List Slice) (hs : ∀ c ∈ slices, c.wane ≤ 255) : ∀ {r : Record},
    r.InRange → (slices.foldl (mergeSlice ws h) r).InRange ∧ r.Merged (slices.foldl (mergeSlice ws h) r) ∧
      (slices.foldl (mergeSlice ws h) r).contributed = r.contributed := by
  induction slices with
  | nil => exact fun hr => ⟨hr, ⟨le_rfl, fun i _ => .refl _⟩, rfl⟩
  | cons c slices ih =>
    intro r hr
    obtain ⟨hc, hs⟩ := List.forall_mem_cons.1 hs
    obtain ⟨hrange, ⟨hlength, hsegments⟩, hcontributed⟩ := mergeSlice_spec ws h hc hr
    obtain ⟨hrange', ⟨hlength', hsegments'⟩, hcontributed'⟩ := ih hs hrange
    exact ⟨hrange', ⟨hlength.trans hlength', fun i hi => (hsegments i hi).trans (hsegments' i hi)⟩, hcontributed'.trans hcontributed⟩

/-- Settles O40. -/
theorem mergeKeepsBounds : Obligations.MergeKeepsBounds := by
  unfold Obligations.MergeKeepsBounds
  refine ⟨sliceOf_wane_le, fun ws h slices r r' hr' hhead => ⟨fun c => ⟨convert_le .., convert_le ..⟩,
    fun hsegments hlength hslices hrange => ?_⟩⟩
  have hstart : ({ r with contributed := r.contributed ||| BitVec.twoPow 6 h } : Record).InRange := ⟨hsegments, hlength, hrange⟩
  obtain ⟨⟨hsegments', hlength', hrange'⟩, ⟨hgrown, hmerged⟩, hcontributed⟩ := mergeSlices_spec ws h slices hslices hstart
  subst hr'
  refine ⟨hsegments', hlength', hgrown, by rw [mergeFrame, hcontributed]; simp [hhead], fun i hi => ?_⟩
  obtain ⟨hthickness, hwidth, hwane, hdefects, hwood, hknots⟩ := hrange' i hi
  exact ⟨hthickness, hwidth, hwane, hdefects, hwood, hknots, hmerged i hi⟩

/-! ### Setup writes that leave the window table alone -/

theorem setupCarried_oneWord {m : Master} {a d : Word} (hfield : holdsField (a.toNat / 4) = true) :
    setupCarried (oneWord m a d) = [(a.toNat / 4, d)] := by
  simp [setupCarried, carried_oneWord, hfield]

theorem entries_eq_map_entryAt {es : List WindowEntry} (h : es.length = 16) : (List.range 16).map (entryAt es) = es := by
  refine List.ext_getElem (by simp [h]) fun i hi _ => ?_
  have hi : i < es.length := by simpa [h] using hi
  simp [entryAt, hi]

theorem followEntries_of_none_carried {es : List WindowEntry} {ws : List Word} {c : List (Nat × Word)} (h : es.length = 16)
    (hcarried : ∀ i, carriesControl c i = false) : followEntries es ws c = es := by
  simp [followEntries, hcarried, entries_eq_map_entryAt h]

theorem ignoredByWrite_of_none_carried {es : List WindowEntry} {c : List (Nat × Word)} (hcarried : ∀ i, carriesControl c i = false) :
    ignoredByWrite es c = [] := by
  simp [ignoredByWrite, hcarried]

theorem eventWindowChanged_self (s : State) : eventWindowChanged s.shadow.entries s = s := by
  simp [eventWindowChanged]

theorem windowsChanged_self (s : State) : windowsChanged s.shadow.entries s = s := by
  simp [windowsChanged, frameWindowsChanged, changedHeads, loseTables]

/-- R183: setup words, entries in force and filter times as a write leaves them, before any block acts on it. -/
def State.withSetup (s : State) (ws : List Word) (es : List WindowEntry) : State :=
  { s with shadow := { s.shadow with words := ws, entries := es }
           inputs := { lug := { s.inputs.lug with time := filterTime ws .lug }
                       eye := { s.inputs.eye with time := filterTime ws .eye }
                       almin := { s.inputs.almin with time := filterTime ws .almin } } }

/-- The SETUP_ERR events of ignored entries and of clamped words (R177, R184). -/
def setupErrors (lug : Lug) (ws : List Word) (ignored : List (Nat × Nat)) (clamped : List Nat) : List Event :=
  ignored.map (fun p => event .setup 2 lug (wordOf [place p.1 0 31, placeBit true 31]) (single p.2)) ++
    clamped.map fun n => event .setup 2 lug (single (4 * n)) (single (inUse ws n))

theorem emitAll_nil (s : State) : emitAll [] s = s := rfl

theorem emitAll_cons (e : Event) (es : List Event) (s : State) : emitAll (e :: es) s = emitAll es (emit e s) := rfl

theorem emitAll_append (es fs : List Event) (s : State) : emitAll (es ++ fs) s = emitAll fs (emitAll es s) := List.foldl_append

theorem emitIgnored_foldl (ps : List (Nat × Nat)) (s : State) : ps.foldl (fun s p => emitIgnored p s) s =
    emitAll (ps.map fun p => event .setup 2 s.tracker.lug (wordOf [place p.1 0 31, placeBit true 31]) (single p.2)) s := by
  induction ps generalizing s with
  | nil => rfl
  | cons p ps ih =>
    rw [List.foldl_cons, ih]
    simp [emitAll_cons, emitIgnored, emitNow]

theorem emitClamped_foldl (ns : List Nat) (s : State) : ns.foldl (fun s n => emitClamped n s) s =
    emitAll (ns.map fun n => event .setup 2 s.tracker.lug (single (4 * n)) (single (inUse s.shadow.words n))) s := by
  induction ns generalizing s with
  | nil => rfl
  | cons n ns ih =>
    rw [List.foldl_cons, ih]
    simp [emitAll_cons, emitClamped, emitNow]

theorem emitAll_blocksKept (es : List Event) (s : State) : BlocksKept s (emitAll es s) := by
  induction es generalizing s with
  | nil => exact .refl s
  | cons e es ih => exact (emit_blocksKept e s).trans (ih _)

theorem setupErrors_foldl (ignored : List (Nat × Nat)) (clamped : List Nat) (s : State) :
    clamped.foldl (fun s n => emitClamped n s) (ignored.foldl (fun s p => emitIgnored p s) s) =
      emitAll (setupErrors s.tracker.lug s.shadow.words ignored clamped) s := by
  rw [emitIgnored_foldl, emitClamped_foldl, setupErrors, emitAll_append, (emitAll_blocksKept _ _).tracker,
    (emitAll_blocksKept _ _).shadow]

/-- R183: a setup write, stage by stage: what it carries, the shadow, the event writer's window, the SETUP_ERR events, the other windows,
the grading tables. -/
theorem followSetup_eq {w : BusWrite} {s : State} {c : List (Nat × Word)} {ws : List Word} {es : List WindowEntry}
    (hc : c = setupCarried w) (hws : ws = followWords s.shadow.words c) (hes : es = followEntries s.shadow.entries ws c) :
    followSetup w s =
      (let t := eventWindowChanged s.shadow.entries (s.withSetup ws es)
       let u := windowsChanged s.shadow.entries
         (emitAll (setupErrors s.tracker.lug ws (ignoredByWrite es c) (clampedByWrite s.shadow.words ws c)) t)
       if c.any fun p => inGradingTables p.1 then gradingWrite u else u) := by
  subst hc hws hes
  have hlug : ∀ t, (eventWindowChanged s.shadow.entries t).tracker.lug = t.tracker.lug := fun t => by simp
  have hshadow : ∀ t, (eventWindowChanged s.shadow.entries t).shadow.words = t.shadow.words := fun t => by simp
  have herrors := fun t => setupErrors_foldl (ignoredByWrite (followEntries s.shadow.entries
    (followWords s.shadow.words (setupCarried w)) (setupCarried w)) (setupCarried w))
    (clampedByWrite s.shadow.words (followWords s.shadow.words (setupCarried w)) (setupCarried w))
    (eventWindowChanged s.shadow.entries t)
  simp only [hlug, hshadow] at herrors
  simp only [followSetup]
  rw [herrors]
  rfl

/-- A setup write that carries no control word of the window table: its events, and the grading work. -/
theorem followSetup_of_none_carried {w : BusWrite} {s : State} {c : List (Nat × Word)} {ws : List Word} (h : s.shadow.entries.length = 16)
    (hc : c = setupCarried w) (hws : ws = followWords s.shadow.words c) (hcarried : ∀ i, carriesControl c i = false) :
    followSetup w s =
      (let t := emitAll (setupErrors s.tracker.lug ws [] (clampedByWrite s.shadow.words ws c)) (s.withSetup ws s.shadow.entries)
       if c.any fun p => inGradingTables p.1 then gradingWrite t else t) := by
  have hentries := followEntries_of_none_carried (ws := ws) h hcarried
  have hevent := eventWindowChanged_self (s.withSetup ws s.shadow.entries)
  have hwindows := fun es => windowsChanged_self (emitAll es (s.withSetup ws s.shadow.entries))
  simp only [(emitAll_blocksKept _ _).shadow] at hwindows
  rw [followSetup_eq hc hws hentries.symm, ignoredByWrite_of_none_carried hcarried]
  simp only [State.withSetup] at hevent hwindows ⊢
  rw [hevent, hwindows]

/-- A permitted write of one field that has no range of its own and stands outside window table and grading tables sets that word and
does nothing else. -/
theorem followSetup_oneWord {m : Master} {a d : Word} {s : State} {n : Nat} (hn : a.toNat / 4 = n) (h : s.shadow.entries.length = 16)
    (hfield : holdsField n = true) (hcontrol : ∀ i, n ≠ 34 + 3 * i) (hgrading : inGradingTables n = false)
    (hrange : ∀ ws, isClamped ws n = false) (hten : n ≠ 10) (htwelve : n ≠ 12) :
    followSetup (oneWord m a d) s = s.withSetup (s.shadow.words.set n d) s.shadow.entries := by
  subst hn
  have hcarried := setupCarried_oneWord (m := m) (d := d) hfield
  rw [followSetup_of_none_carried h hcarried.symm rfl fun i => by simpa [carriesControl] using hcontrol i]
  have hclamped : ∀ old new, clampedByWrite old new [(a.toNat / 4, d)] = [] := fun old new => by
    simp only [clampedByWrite, List.filter_eq_nil_iff, List.any_cons, List.any_nil, Bool.or_false]
    intro k _
    by_cases hk : a.toNat / 4 = k
    · simp [← hk, hrange]
    · simp [hk, hten, htwelve]
  simp [hclamped, hgrading, followWords, setupErrors, emitAll_nil]

theorem setupWord_set (ws : List Word) (n : Nat) (d : Word) (hn : n < ws.length) : setupWord (ws.set n d) n = d := by
  simp [setupWord, List.getD_eq_getElem?_getD, hn]

/-! ### The enable masks (O31) -/

/-- Into what a permitted write of an unclamped setup word outside window table and grading tables runs. -/
theorem exec_setupWord {c : Instr} {m : Master} {a d : Word} {s : State} {n : Nat} (hn : a.toNat / 4 = n) (hs : s.Sized)
    (harrives : arrivalOf c = some (.write (oneWord m a d))) (hadmitted : Admitted s (.write (oneWord m a d)) .setup)
    (hfield : holdsField n = true) (hcontrol : ∀ i, n ≠ 34 + 3 * i) (hgrading : inGradingTables n = false)
    (hrange : ∀ ws, isClamped ws n = false) (hten : n ≠ 10) (htwelve : n ≠ 12) :
    exec c s = .next (finish (settle s.numbered
      ((pass s.bus.nextTxn (.write (oneWord m a d)) false s.numbered).withSetup (s.shadow.words.set n d) s.shadow.entries))) := by
  have hfollow := followSetup_oneWord (m := m) (d := d)
    (s := pass s.bus.nextTxn (.write (oneWord m a d)) false s.numbered) hn hs.entries hfield hcontrol hgrading hrange hten htwelve
  rw [exec_admitted harrives hadmitted, handle, hfollow]
  rfl

theorem isClamped_of_no_range {n : Nat} (h : fieldRange n = none) (h11 : n ≠ 11) (h13 : n ≠ 13) (ws : List Word) :
    isClamped ws n = false := by
  simp [isClamped, inUse, h11, h13, ownClamp, h]

/-- Settles O31. -/
theorem enableMaskWritesActAtOnce : Obligations.EnableMaskWritesActAtOnce := by
  unfold Obligations.EnableMaskWritesActAtOnce
  refine fun c m d s hs => ⟨fun harrives hadmitted => ?_, fun harrives hadmitted => ?_⟩
  · have hexec := exec_setupWord (n := 15) rfl hs harrives hadmitted (by decide) (by omega) (by decide)
      (isClamped_of_no_range (by decide) (by decide) (by decide)) (by decide) (by decide)
    have hword := setupWord_set s.shadow.words 15 d (by rw [hs.words]; decide)
    have hmask : ∀ i, i < 6 → (guardEnable (s.shadow.words.set 15 d)).getLsbD i = d.getLsbD i := fun i hi => by
      rw [guardEnable, getLsbD_ofNat_bits, hword]
      simp [hi]
    refine ⟨_, hexec, by simpa [State.withSetup] using hword, by simp [State.withSetup, pass], ?_⟩
    rw [(outputsFollowTheState c s _ hexec).2]
    have hreleased := hadmitted.released
    have hrunning := hadmitted.running
    simp only [finish_frame, settle_frame, State.withSetup, pass, numbered_frame, State.flag, hreleased, hrunning]
    simp only [Bool.false_eq_true, ne_eq, not_true_eq_false, false_or]
    refine or_congr_right (or_congr_right (exists_congr fun i => and_congr_right fun hi => ?_))
    rw [hmask i hi]
  · have hexec := exec_setupWord (n := 2) rfl hs harrives hadmitted (by decide) (by omega) (by decide)
      (isClamped_of_no_range (by decide) (by decide) (by decide)) (by decide) (by decide)
    have hword := setupWord_set s.shadow.words 2 d (by rw [hs.words]; decide)
    have hmask : ∀ i, i < 8 → (classEnable (s.shadow.words.set 2 d)).getLsbD i = d.getLsbD i := fun i hi => by
      rw [classEnable, getLsbD_ofNat_bits, hword]
      simp [hi]
    refine ⟨_, hexec, by simpa [State.withSetup] using hword, by simp [State.withSetup, pass], ?_⟩
    rw [(skipAndAttentionFollowTheState c s _ hexec).2]
    have hreleased := hadmitted.released
    have hrunning := hadmitted.running
    simp only [finish_frame, settle_frame, State.withSetup, pass, numbered_frame, hreleased, hrunning]
    simp only [ne_eq, reduceCtorEq, not_false_eq_true, true_and]
    refine exists_congr fun i => and_congr_right fun hi => ?_
    rw [hmask i hi]

/-! ### Completions at the port (O33) -/

theorem exec_memoryBurstDone {s : State} {b : Burst} (hport : s.bus.port = some b) :
    exec .memoryBurstDone s = .next (finish (afterBurst b (Burst.perform s.bus.mem b).2 (landBurst b s))) := by
  show done _ = _
  rw [completePort_of_port hport]
  rfl

/-- R182: a chassis transaction completes, and starts no load. -/
theorem chassisDone_plain {txn : Nat} {m : Master} {watched : Bool} {reply : Reply} {s : State}
    (h : watched = false ∨ s.shadow.part ≠ .transparent) :
    chassisDone txn m watched reply s = writeLanded txn (answer txn m reply s) := by
  cases watched with
  | false => rfl
  | true =>
    have hpart : s.shadow.part ≠ .transparent := h.resolve_left (by decide)
    simp [chassisDone, formatWordWritten, hpart]

theorem sliceBursts_eq (addr : Word) (n : Nat) : sliceBursts addr n = (List.range ((2 * n + 15) / 16)).map fun i =>
    { addr := addr + BitVec.ofNat 32 (4 * (2 + 16 * i)), access := .read (min 16 (2 * n - 16 * i)),
      purpose := .frameSlices (decide (2 * n ≤ 16 * (i + 1))) } := by
  refine List.map_congr_left fun i hi => ?_
  have hi : i < (2 * n + 15) / 16 := List.mem_range.1 hi
  have hlast : (i + 1 == (2 * n + 15) / 16) = decide (2 * n ≤ 16 * (i + 1)) := by
    rw [Bool.eq_iff_iff, beq_iff_eq, decide_eq_true_iff]
    omega
  rw [hlast, show 8 + 64 * i = 4 * (2 + 16 * i) by omega]

/-- Settles O33, purpose by purpose. -/
theorem memoryBurstDoneAnswers : Obligations.MemoryBurstDoneAnswers := by
  unfold Obligations.MemoryBurstDoneAnswers
  refine ⟨fun s addr a txn m watched hport hplain => ?_, fun s hport => ?_, fun s addr g hport hengine => ?_,
    fun s addr w g words hport hengine hw hform hwords hpos => ?_, fun s addr n g hport hengine => ?_,
    fun s addr beats i base x hport hi hswap hrun => ?_, fun s addr n ld hport hload => ?_, fun s addr n r hport hengine => ?_,
    fun s addr beats p hp hport => ?_⟩
  · rw [exec_memoryBurstDone hport]
    simp only [afterBurst]
    rw [chassisDone_plain (by simpa [landBurst] using hplain)]
    refine ⟨_, rfl, fun beats ha => ?_, fun n ha => ?_, rfl, rfl, rfl, rfl, rfl, rfl, rfl, rfl, rfl, rfl, rfl⟩
    · subst ha; exact ⟨rfl, rfl⟩
    · subst ha; exact ⟨rfl, rfl⟩
  · show done _ = _
    rw [completePort_of_free hport]
    rfl
  · rw [exec_memoryBurstDone hport]
    simp [afterBurst, landBurst, frameHeadRead, hengine, readWords_two, setEngine]
  · have hslices : slicesUsed g.header = min (headerCount g.header) 120 := rfl
    have hsome : slicesUsed g.header ≠ 0 := by omega
    rw [exec_memoryBurstDone hport]
    simp only [afterBurst, perform_read, landBurst, readWords_one, List.getD_cons_zero, ← hw, frameTrailerRead, hengine]
    rw [if_neg (by simp [noSliceReads, hform, hsome]), sliceBursts_eq, hslices, ← hwords]
    rfl
  · rw [exec_memoryBurstDone hport]
    simp [afterBurst, landBurst, frameSlicesRead, hengine, setEngine]
  · rw [exec_memoryBurstDone hport]
    have hword : base + bankOffset s.tally.bank + 4 * (16 * (i + 1)) = base + 256 + 1024 * s.tally.bank.toNat + 64 * (i + 1) := by
      unfold bankOffset; omega
    simp [afterBurst, landBurst, zeroingWritten, hswap, hrun, hi, issue, zeroBurst, bankWordAddr, hword]
  · rw [exec_memoryBurstDone hport]
    simp [afterBurst, landBurst, loadSetupRead, hload]
  · rw [exec_memoryBurstDone hport]
    simp [afterBurst, landBurst, tallyRead, hengine]
  · rw [exec_memoryBurstDone hport]
    rcases hp with rfl | rfl | ⟨k, rfl⟩ <;> simp [afterBurst, landBurst]

end Sys2Proof.Machine
end

section
/-! Permitted writes of the windows a block watches: where the words of an admitted write lie, the frame slots it moves (O36, O37) and the
posts it makes (O44). -/

namespace Sys2Proof.Machine

/-! ### Where the words of an admitted write lie -/

theorem touchedWords_aligned {addr : Word} {n : Nat} (haligned : addr.toNat % 4 = 0) (hn : 1 ≤ n) :
    touchedWords addr n = ownWords addr n := by
  have hcount : (addr.toNat + 4 * n - 1) / 4 + 1 - addr.toNat / 4 = n := by omega
  simp only [touchedWords, ownWords, hcount]
  refine List.map_congr_left fun i _ => congrArg Memory.wrap ?_
  omega

theorem Admitted.checks {s : State} {x : Transaction} {r : Region} (h : Admitted s x r) (d : AccessCause) :
    checkFails s.shadow s.tally x d = false := (accessCause_eq_none_iff _ _ _).1 h.passes d

theorem Admitted.aligned {s : State} {x : Transaction} {j : Nat} (h : Admitted s x (.window j)) : (Transaction.addr x).toNat % 4 = 0 := by
  have := h.checks .align
  simpa [checkFails, h.region] using this

/-- Every word of an admitted transaction lies in its window, and none beyond the top of memory. -/
theorem Admitted.word {s : State} {x : Transaction} {j : Nat} (h : Admitted s x (.window j)) {i : Nat} (hi : i < Transaction.words x) :
    Memory.wrap ((Transaction.addr x).toNat + 4 * i) = (Transaction.addr x).toNat + 4 * i ∧
      (entryAt s.shadow.entries j).start ≤ (Transaction.addr x).toNat + 4 * i := by
  have hspan : ∀ r ∈ regionsOf s.shadow.entries x, r = .window j := by
    have := h.checks .span
    simpa [checkFails, h.region] using this
  have hmem : Memory.wrap ((Transaction.addr x).toNat + 4 * i) ∈ touchedWords (Transaction.addr x) (Transaction.words x) := by
    rw [touchedWords_aligned h.aligned h.shortest]
    exact List.mem_map.2 ⟨i, List.mem_range.2 hi, rfl⟩
  have hclass := hspan _ (List.mem_map.2 ⟨_, hmem, rfl⟩)
  obtain ⟨hhigh, -, -, ⟨hstart, -⟩, -⟩ := ((classify_iff _ _).2 j).1 hclass
  have haddr := (Transaction.addr x).isLt
  have hlongest : Transaction.words x ≤ 16 := h.longest
  simp only [Memory.wrap] at *
  omega

theorem Admitted.carried_fst {s : State} {w : BusWrite} {j : Nat} (h : Admitted s (.write w) (.window j)) :
    (carried w).map Prod.fst = (List.range w.beats.length).map fun i => w.addr.toNat + 4 * i := by
  rw [carried, List.map_fst_zip (by simp [ownWords])]
  exact List.map_congr_left fun i hi => (h.word (List.mem_range.1 hi)).1

/-- The words of an admitted write: aligned, in the window, and at most 16. -/
theorem Admitted.carried_mem {s : State} {w : BusWrite} {j : Nat} (h : Admitted s (.write w) (.window j)) {p : Nat × Beat}
    (hp : p ∈ carried w) : p.1 % 4 = 0 ∧ (entryAt s.shadow.entries j).start ≤ p.1 ∧ w.addr.toNat ≤ p.1 ∧
      p.1 < w.addr.toNat + 64 := by
  have hfst : p.1 ∈ (carried w).map Prod.fst := List.mem_map.2 ⟨p, hp, rfl⟩
  rw [h.carried_fst, List.mem_map] at hfst
  obtain ⟨i, hi, hip⟩ := hfst
  have haligned : w.addr.toNat % 4 = 0 := h.aligned
  have hstart : _ ≤ w.addr.toNat + 4 * i := (h.word (List.mem_range.1 hi)).2
  have hlongest : w.beats.length ≤ 16 := h.longest
  have hi := List.mem_range.1 hi
  exact ⟨by omega, hip ▸ hstart, by omega, by omega⟩

/-- The words of an admitted write ascend, and lie within 16 words of each other. -/
theorem Admitted.carried_ascending {s : State} {w : BusWrite} {j : Nat} (h : Admitted s (.write w) (.window j)) :
    (carried w).Pairwise fun p q => p.1 < q.1 ∧ q.1 < p.1 + 64 := by
  have hlongest : w.beats.length ≤ 16 := h.longest
  refine List.pairwise_map (R := fun a b => a < b ∧ b < a + 64) |>.1 ?_
  rw [h.carried_fst, List.pairwise_map, List.pairwise_iff_getElem]
  intro a b ha hb hab
  have hb : b < w.beats.length := by simpa using hb
  simp only [List.getElem_range]
  omega

/-! ### A refusal with its event -/

/-- A transaction answered with an error response, with one event (R27, R28, R106, R108, R180): what stands after the end of the change. -/
theorem refusal_spec (x : Transaction) (e : Event) (s : State) :
    let y := settle s.numbered (emit e (refuse s.bus.nextTxn x s.numbered))
    OnlyEngines s y ∧ y.bus.through = s.bus.through ∧ y.bus.answers = s.bus.answers ++ [errorAnswer s (Transaction.master x)] ∧
      y.events.classes.getLsbD e.cls.code = true ∧ EventsWritten [e] s y := by
  have hkept : BlocksKept s (emit e (refuse s.bus.nextTxn x s.numbered)) :=
    ((numbered_blocksKept s).trans (answer_blocksKept _ _ _ _)).trans (emit_blocksKept _ _)
  have hwritten : EventsWritten [e] s (emit e (refuse s.bus.nextTxn x s.numbered)) :=
    (eventsWritten_emit e (refuse s.bus.nextTxn x s.numbered)).after rfl rfl (.refl _)
  refine ⟨hkept.onlyEngines _, by simp, by simp [refuse, answer, errorAnswer], ?_, hwritten.settle _ (window_of_shadow hkept.shadow _)⟩
  simpa using emit_pending e (refuse s.bus.nextTxn x s.numbered) _ rfl (eventClass_code_lt e.cls)

/-! ### Frame slots -/

theorem setFrameSlot_tables (h i : Nat) (x : SlotState) (s : State) : (setFrameSlot h i x s).intake.tables =
    s.intake.tables.set h ((s.intake.tables.getD h none).map fun slots => slots.set i x) := by
  cases ht : s.intake.tables.getD h none with
  | some slots => simp only [setFrameSlot, ht, Option.map_some]
  | none =>
    have hself : s.intake.tables.set h none = s.intake.tables := by
      rw [List.getD_eq_getElem?_getD] at ht
      by_cases hlt : h < s.intake.tables.length
      · have hnone : none = s.intake.tables[h] := by simpa [hlt, eq_comm] using ht
        rw [hnone, List.set_getElem_self]
      · exact List.set_eq_of_length_le (Nat.le_of_not_lt hlt)
    simp only [setFrameSlot, ht, Option.map_none, hself]

/-- A frame slot written, whether it exists or not. -/
theorem frameSlot_setFrameSlot_eq (h i : Nat) (x : SlotState) (s : State) (h' i' : Nat) : frameSlot (setFrameSlot h i x s) h' i' =
    if h' = h ∧ i' = i then (frameSlot s h i).map fun _ => x else frameSlot s h' i' := by
  simp only [frameSlot, setFrameSlot_tables, List.getD_eq_getElem?_getD, List.getElem?_set]
  by_cases hh : h = h'
  · subst hh
    by_cases hlt : h < s.intake.tables.length
    · cases ht : s.intake.tables[h] with
      | none => simp [hlt, ht]
      | some slots =>
        by_cases hi : i = i'
        · subst hi
          by_cases hil : i < slots.length <;> simp [hlt, ht, hil]
        · simp [hlt, ht, hi, Ne.symm hi]
    · simp [hlt]
  · simp [hh, Ne.symm hh]

/-! ### The beats of a frame write (R23, R25, R26) -/

theorem mem_slotBeats {e : WindowEntry} {w : BusWrite} {b : SlotBeat} : b ∈ slotBeats e w ↔ ∃ a, (a, b.beat) ∈ carried w ∧
    b.slot < frameSlots e ∧ b.slot = (a - e.start) / 1024 ∧ b.word = (a - e.start) % 1024 / 4 := by
  simp only [slotBeats, List.mem_filterMap, Option.ite_none_right_eq_some, Option.some.injEq, Prod.exists]
  constructor
  · rintro ⟨a, x, hmem, hslot, rfl⟩
    exact ⟨a, hmem, hslot, rfl, rfl⟩
  · rintro ⟨a, hmem, hslot, hs, hw⟩
    refine ⟨a, b.beat, hmem, hs ▸ hslot, ?_⟩
    rw [offsetIn, ← hs, ← hw]

/-- The beats of an admitted frame write are the words of its frame slots. -/
theorem slotWord_iff {s : State} {w : BusWrite} {j : Nat} (h : Admitted s (.write w) (.window j)) {i n : Nat} {b : Beat} :
    SlotWord (entryAt s.shadow.entries j) w i n b ↔ { slot := i, word := n, beat := b } ∈ slotBeats (entryAt s.shadow.entries j) w := by
  have hstart := (window_bounds (entryAt s.shadow.entries j)).1
  rw [mem_slotBeats]
  constructor
  · rintro ⟨hi, hn, a, hmem, hoff⟩
    exact ⟨a, hmem, hi, by simp only; omega, by simp only; omega⟩
  · rintro ⟨a, hmem, hi, hslot, hword⟩
    have haligned := (h.carried_mem hmem).1
    simp only at hi hslot hword haligned
    exact ⟨hi, by omega, a, hmem, by omega⟩

/-- The beats of an admitted frame write ascend, and lie within 16 words of each other. -/
theorem slotBeats_ascending {s : State} {w : BusWrite} {j : Nat} (h : Admitted s (.write w) (.window j)) :
    (slotBeats (entryAt s.shadow.entries j) w).Pairwise fun b c =>
      256 * b.slot + b.word < 256 * c.slot + c.word ∧ 256 * c.slot + c.word < 256 * b.slot + b.word + 16 := by
  have hstart := (window_bounds (entryAt s.shadow.entries j)).1
  have hplaced : (carried w).Pairwise fun p q => (p.1 % 4 = 0 ∧ q.1 % 4 = 0 ∧ (entryAt s.shadow.entries j).start ≤ p.1) ∧
      p.1 < q.1 ∧ q.1 < p.1 + 64 :=
    h.carried_ascending.imp_of_mem fun hp hq hpq => ⟨⟨(h.carried_mem hp).1, (h.carried_mem hq).1, (h.carried_mem hp).2.1⟩, hpq⟩
  refine hplaced.filterMap _ ?_
  rintro ⟨a, x⟩ ⟨a', x'⟩ ⟨⟨hp, hq, hstart'⟩, hlt, hnear⟩ b hb c hc
  simp only [Option.ite_none_right_eq_some, Option.some.injEq] at hb hc hp hq hlt hnear hstart'
  obtain ⟨-, rfl⟩ := hb
  obtain ⟨-, rfl⟩ := hc
  simp only [offsetIn]
  omega

theorem isHeader_iff (b : SlotBeat) : b.isHeader = true ↔ b.word = 0 ∧ Beat.isFull b.beat = true := by
  simp [SlotBeat.isHeader]

theorem isTrailer_iff (b : SlotBeat) : b.isTrailer = true ↔ b.word = 255 ∧ Beat.isFull b.beat = true ∧
    trailerComplete b.beat.data = true := by
  simp [SlotBeat.isTrailer, and_assoc]

/-- No burst of 16 words carries the trailers of two frame slots. -/
theorem filter_isTrailer {s : State} {w : BusWrite} {j : Nat} (h : Admitted s (.write w) (.window j)) {b : SlotBeat}
    (hb : b ∈ slotBeats (entryAt s.shadow.entries j) w) (htrailer : b.isTrailer = true) :
    (slotBeats (entryAt s.shadow.entries j) w).filter SlotBeat.isTrailer = [b] := by
  have hmem : b ∈ (slotBeats (entryAt s.shadow.entries j) w).filter SlotBeat.isTrailer := List.mem_filter.2 ⟨hb, htrailer⟩
  have hwords : ∀ c ∈ (slotBeats (entryAt s.shadow.entries j) w).filter SlotBeat.isTrailer, c.word = 255 :=
    fun c hc => ((isTrailer_iff c).1 (List.mem_filter.1 hc).2).1
  have hpair := (slotBeats_ascending h).filter SlotBeat.isTrailer
  generalize (slotBeats (entryAt s.shadow.entries j) w).filter SlotBeat.isTrailer = l at hmem hwords hpair
  match l, hmem, hwords, hpair with
  | [c], hmem, _, _ => rw [List.mem_singleton.1 hmem]
  | c :: d :: l, _, hwords, hpair =>
    have hc := hwords c (by simp)
    have hd := hwords d (by simp)
    have := (List.pairwise_cons.1 hpair).1 d (by simp)
    omega

/-- What a beat makes of its frame slot. -/
def SlotBeat.target (b : SlotBeat) : Option SlotState :=
  if b.isHeader then some .filling else if b.isTrailer then some .held else none

theorem target_eq_none_iff (b : SlotBeat) : b.target = none ↔ b.isHeader = false ∧ b.isTrailer = false := by
  unfold SlotBeat.target
  split
  · next h => simp [h]
  · next h => simp [h]

theorem target_of_header {b : SlotBeat} (h : b.isHeader = true) : b.target = some .filling := if_pos h

theorem not_header_of_trailer {b : SlotBeat} (h : b.isTrailer = true) : b.isHeader = false := by
  obtain ⟨hword, -⟩ := (isTrailer_iff b).1 h
  simp [SlotBeat.isHeader, hword]

theorem target_of_trailer {b : SlotBeat} (h : b.isTrailer = true) : b.target = some .held := by
  simp [SlotBeat.target, h, not_header_of_trailer h]

theorem frameSlot_moveSlot (h txn : Nat) (b : SlotBeat) (s : State) (h' i' : Nat) : frameSlot (moveSlot h txn b s) h' i' =
    if h' = h ∧ i' = b.slot then b.target.elim (frameSlot s h' i') fun x => (frameSlot s h' i').map fun _ => x
    else frameSlot s h' i' := by
  have hset : ∀ x, frameSlot (setFrameSlot h b.slot x s) h' i' =
      if h' = h ∧ i' = b.slot then (frameSlot s h' i').map fun _ => x else frameSlot s h' i' := fun x => by
    rw [frameSlot_setFrameSlot_eq]
    split
    · next hat => rw [hat.1, hat.2]
    · rfl
  unfold moveSlot SlotBeat.target
  split
  · exact hset _
  · split
    · exact hset _
    · simp

/-- A frame slot after the beats of a write of which each that touches it makes the same of it. -/
theorem frameSlot_foldl_moveSlot (h txn : Nat) (x : SlotState) (i : Nat) (bs : List SlotBeat)
    (hsame : ∀ b ∈ bs, b.slot = i → b.target = none ∨ b.target = some x) (s : State) :
    frameSlot (bs.foldl (fun s b => moveSlot h txn b s) s) h i =
      if ∃ b ∈ bs, b.slot = i ∧ b.target = some x then (frameSlot s h i).map fun _ => x else frameSlot s h i := by
  induction bs generalizing s with
  | nil => simp
  | cons b bs ih =>
    obtain ⟨hb, hsame⟩ := List.forall_mem_cons.1 hsame
    have hmove := frameSlot_moveSlot h txn b s h i
    rw [List.foldl_cons, ih hsame]
    by_cases hslot : b.slot = i
    · rcases hb hslot with htarget | htarget
      · simp [hmove, htarget]
      · have hexists : ∃ c ∈ b :: bs, c.slot = i ∧ c.target = some x := ⟨b, by simp, hslot, htarget⟩
        rw [if_pos hexists, hmove]
        simp only [hslot, and_self, if_true, htarget, Option.elim_some, Option.map_map]
        split <;> rfl
    · have hexists : (∃ c ∈ b :: bs, c.slot = i ∧ c.target = some x) ↔ ∃ c ∈ bs, c.slot = i ∧ c.target = some x := by
        rw [List.exists_mem_cons_iff]
        simp [hslot]
      simp only [hexists, hmove, Ne.symm hslot, and_false, if_false]

/-- A frame slot that no beat of a write moves. -/
theorem frameSlot_foldl_moveSlot_other (h txn h' i' : Nat) (bs : List SlotBeat)
    (hother : h' = h → ∀ b ∈ bs, b.slot = i' → b.target = none) (s : State) :
    frameSlot (bs.foldl (fun s b => moveSlot h txn b s) s) h' i' = frameSlot s h' i' := by
  induction bs generalizing s with
  | nil => rfl
  | cons b bs ih =>
    rw [List.foldl_cons, ih fun hh c hc => hother hh c (by simp [hc]), frameSlot_moveSlot]
    split
    · next hat => simp [hother hat.1 b (by simp) hat.2.symm]
    · rfl

/-- The fresh entry that a trailer beat makes. -/
def SlotBeat.entry (h txn : Nat) (b : SlotBeat) : IntakeEntry := { head := h, slot := b.slot, kind := .fresh, awaiting := some txn }

theorem queue_foldl_moveSlot (h txn : Nat) (bs : List SlotBeat) (s : State) :
    (bs.foldl (fun s b => moveSlot h txn b s) s).intake.queue =
      s.intake.queue ++ (bs.filter SlotBeat.isTrailer).map (SlotBeat.entry h txn) := by
  induction bs generalizing s with
  | nil => simp
  | cons b bs ih =>
    have hmove : (moveSlot h txn b s).intake.queue =
        s.intake.queue ++ if b.isTrailer then [SlotBeat.entry h txn b] else [] := by
      unfold moveSlot
      by_cases htrailer : b.isTrailer = true
      · rw [if_neg (by simp [not_header_of_trailer htrailer])]
        simp [htrailer, SlotBeat.entry]
      · simp only [if_neg htrailer]
        split <;> simp
    rw [List.foldl_cons, ih, hmove, List.filter_cons]
    split <;> simp

/-! ### Frame slot writes (O36, O37) -/

theorem frameWrite_refuses_held {txn : Nat} {e : WindowEntry} {h : Nat} {w : BusWrite} {s : State} {b : SlotBeat}
    (hfind : (slotBeats e w).find? (fun b => frameSlot s h b.slot == some .held) = some b) : frameWrite txn e h w s =
      emit (event .frame 2 s.tracker.lug (pair h b.slot) (single w.master.toNat)) (refuse txn (.write w) s) := by
  simp only [frameWrite, hfind]
  rfl

theorem frameWrite_refuses_full {txn : Nat} {e : WindowEntry} {h : Nat} {w : BusWrite} {s : State} {b : SlotBeat}
    (hheld : (slotBeats e w).find? (fun b => frameSlot s h b.slot == some .held) = none)
    (hfind : (slotBeats e w).find? SlotBeat.isTrailer = some b) (hfull : 12 ≤ freshCount s) : frameWrite txn e h w s =
      emit (event .frame 1 s.tracker.lug (pair h b.slot) (single w.master.toNat)) (refuse txn (.write w) s) := by
  have hcount : 0 < (slotBeats e w).countP SlotBeat.isTrailer :=
    List.countP_pos_iff.2 ⟨b, List.mem_of_find?_eq_some hfind, List.find?_some hfind⟩
  have hmax : Config.maxFresh = 12 := rfl
  simp only [frameWrite, hheld, hfind]
  rw [if_neg (by omega)]
  rfl

theorem frameWrite_passes {txn : Nat} {e : WindowEntry} {h : Nat} {w : BusWrite} {s : State}
    (hheld : (slotBeats e w).find? (fun b => frameSlot s h b.slot == some .held) = none)
    (hroom : ∀ b, (slotBeats e w).find? SlotBeat.isTrailer = some b →
      freshCount s + (slotBeats e w).countP SlotBeat.isTrailer ≤ 12) : frameWrite txn e h w s =
      (slotBeats e w).foldl (fun s b => moveSlot h txn b s) (pass txn (.write w) false s) := by
  simp only [frameWrite, hheld]
  cases hfind : (slotBeats e w).find? SlotBeat.isTrailer with
  | none => rfl
  | some b => exact if_pos (hroom b hfind)

/-- Into what a permitted write of a FRAME window runs. -/
theorem exec_frameWrite {c : Instr} {w : BusWrite} {j : Nat} {s : State} (harrives : arrivalOf c = some (.write w))
    (hadmitted : Admitted s (.write w) (.window j)) (hkind : (entryAt s.shadow.entries j).kind = .frame) :
    exec c s = .next (finish (settle s.numbered (frameWrite s.bus.nextTxn (entryAt s.shadow.entries j)
      (entryAt s.shadow.entries j).head w s.numbered))) := by
  rw [exec_admitted harrives hadmitted, handle]
  simp only [numbered_frame, hkind]

/-- The frame slot of the first beat of a kind is the lowest that has one. -/
theorem first_slot {s : State} {w : BusWrite} {j : Nat} (hadmitted : Admitted s (.write w) (.window j)) {P : SlotBeat → Bool}
    {b : SlotBeat} (hfind : (slotBeats (entryAt s.shadow.entries j) w).find? P = some b) {c : SlotBeat}
    (hc : c ∈ slotBeats (entryAt s.shadow.entries j) w) (hPc : P c = true) : b.slot ≤ c.slot := by
  have hbword : ∀ x ∈ slotBeats (entryAt s.shadow.entries j) w, x.word < 256 := fun x hx => by
    obtain ⟨a, -, -, -, hword⟩ := mem_slotBeats.1 hx
    omega
  have hascending := slotBeats_ascending hadmitted
  obtain ⟨-, pre, post, hsplit, hpre⟩ := List.find?_eq_some_iff_append.1 hfind
  rw [hsplit] at hc hascending
  have hb := hbword b (by simp [hsplit])
  have hcw := hbword c (hsplit ▸ hc)
  rcases List.mem_append.1 hc with hc | hc
  · exact absurd hPc (by simpa using hpre c hc)
  · rcases List.mem_cons.1 hc with rfl | hc
    · exact le_rfl
    · have := (List.pairwise_cons.1 (List.pairwise_append.1 hascending).2.1).1 c hc
      omega

/-- R26-R28: a permitted frame write into a HELD slot, or with a complete trailer and 12 fresh entries waiting. -/
theorem exec_frameWrite_refused {c : Instr} {w : BusWrite} {j h : Nat} {e : WindowEntry} {s : State}
    (harrives : arrivalOf c = some (.write w)) (hadmitted : Admitted s (.write w) (.window j)) (he : e = entryAt s.shadow.entries j)
    (hkind : e.kind = .frame) (hhead : e.head = h)
    (hrefused : (∃ i n b, SlotWord e w i n b ∧ frameSlot s h i = some .held) ∨
      (12 ≤ freshCount s ∧ ∃ i b, SlotWord e w i 255 b ∧ Beat.isFull b = true ∧ trailerComplete b.data = true)) :
    ∃ y, exec c s = .next (finish y) ∧ OnlyEngines s y ∧ y.bus.through = s.bus.through ∧
      y.bus.answers = s.bus.answers ++ [errorAnswer s w.master] ∧ y.events.classes.getLsbD 0 = true ∧
      (∀ i n b, SlotWord e w i n b → frameSlot s h i = some .held →
        (∀ i' n' b', SlotWord e w i' n' b' → frameSlot s h i' = some .held → i ≤ i') →
        EventsWritten [event .frame 2 s.tracker.lug (pair h i) (single w.master.toNat)] s y) ∧
      (∀ i b, SlotWord e w i 255 b → Beat.isFull b = true → trailerComplete b.data = true →
        (∀ i' n' b', SlotWord e w i' n' b' → frameSlot s h i' ≠ some .held) →
        EventsWritten [event .frame 1 s.tracker.lug (pair h i) (single w.master.toNat)] s y) := by
  subst he hhead
  have hexec := exec_frameWrite harrives hadmitted hkind
  have hword : ∀ b ∈ slotBeats (entryAt s.shadow.entries j) w, SlotWord (entryAt s.shadow.entries j) w b.slot b.word b.beat :=
    fun b hb => (slotWord_iff hadmitted).2 hb
  generalize (entryAt s.shadow.entries j).head = h at *
  have hslots : ∀ i, frameSlot s.numbered h i = frameSlot s h i := fun i => frameSlot_congr rfl h i
  cases hfind : (slotBeats (entryAt s.shadow.entries j) w).find? (fun b => frameSlot s.numbered h b.slot == some .held) with
  | some b =>
    have hb := List.mem_of_find?_eq_some hfind
    have hbheld : frameSlot s h b.slot = some .held := by simpa [hslots] using List.find?_some hfind
    obtain ⟨hengines, hthrough, hanswers, hpending, hwritten⟩ :=
      refusal_spec (.write w) (event .frame 2 s.tracker.lug (pair h b.slot) (single w.master.toNat)) s
    rw [frameWrite_refuses_held hfind] at hexec
    refine ⟨_, hexec, hengines, hthrough, hanswers, hpending, fun i n x hi hheld hleast => ?_, fun i x hi hfull hcomplete hnone => ?_⟩
    · have hle := hleast b.slot b.word b.beat (hword b hb) hbheld
      have hge := first_slot hadmitted hfind ((slotWord_iff hadmitted).1 hi) (by simpa [hslots] using hheld)
      rwa [show i = b.slot from le_antisymm hle hge]
    · exact absurd hbheld (hnone _ _ _ (hword b hb))
  | none =>
    have hnone : ∀ b ∈ slotBeats (entryAt s.shadow.entries j) w, frameSlot s h b.slot ≠ some .held := by
      simpa [hslots] using hfind
    have hnoHeld : ∀ i n b, SlotWord (entryAt s.shadow.entries j) w i n b → frameSlot s h i ≠ some .held :=
      fun i n b hi => hnone _ ((slotWord_iff hadmitted).1 hi)
    obtain ⟨hfull, i0, x0, hi0, hfull0, hcomplete0⟩ := hrefused.resolve_left
      fun ⟨i, n, b, hi, hheld⟩ => hnoHeld i n b hi hheld
    have htrailer0 := (isTrailer_iff { slot := i0, word := 255, beat := x0 }).2 ⟨rfl, hfull0, hcomplete0⟩
    obtain ⟨b, hfindTrailer⟩ := Option.isSome_iff_exists.1 (List.find?_isSome.2 ⟨_, (slotWord_iff hadmitted).1 hi0, htrailer0⟩)
    obtain ⟨hengines, hthrough, hanswers, hpending, hwritten⟩ :=
      refusal_spec (.write w) (event .frame 1 s.tracker.lug (pair h b.slot) (single w.master.toNat)) s
    rw [frameWrite_refuses_full hfind hfindTrailer hfull] at hexec
    refine ⟨_, hexec, hengines, hthrough, hanswers, hpending, fun i n x hi hheld => absurd hheld (hnoHeld i n x hi),
      fun i x hi hfull hcomplete _ => ?_⟩
    have htrailer := (isTrailer_iff { slot := i, word := 255, beat := x }).2 ⟨rfl, hfull, hcomplete⟩
    have hsingle := filter_isTrailer hadmitted ((slotWord_iff hadmitted).1 hi) htrailer
    have hbmem : b ∈ (slotBeats (entryAt s.shadow.entries j) w).filter SlotBeat.isTrailer :=
      List.mem_filter.2 ⟨List.mem_of_find?_eq_some hfindTrailer, List.find?_some hfindTrailer⟩
    rw [hsingle, List.mem_singleton] at hbmem
    rw [hbmem] at hwritten
    rwa [hbmem]

/-- The state in which a transaction that passes stands at the end of the through stream. -/
def State.passed (s : State) (x : Transaction) : State := pass s.bus.nextTxn x false s.numbered

theorem passed_through {s : State} {x : Transaction} (hrun : s.shadow.part = .running) :
    (s.passed x).bus.through = s.bus.through ++ [passedBurst s x] := by
  simp [State.passed, pass_grows_through, passedBurst, hrun]

theorem passed_frameSlot (s : State) (x : Transaction) (h i : Nat) : frameSlot (s.passed x) h i = frameSlot s h i :=
  frameSlot_congr rfl h i

/-- R25-R28: any other permitted frame write passes, and its beats move their slots. -/
theorem exec_frameWrite_passed {c : Instr} {w : BusWrite} {j : Nat} {s : State} (harrives : arrivalOf c = some (.write w))
    (hadmitted : Admitted s (.write w) (.window j)) (hkind : (entryAt s.shadow.entries j).kind = .frame)
    (hfree : ∀ i n b, SlotWord (entryAt s.shadow.entries j) w i n b → frameSlot s (entryAt s.shadow.entries j).head i ≠ some .held)
    (hroom : (∃ i b, SlotWord (entryAt s.shadow.entries j) w i 255 b ∧ Beat.isFull b = true ∧ trailerComplete b.data = true) →
      freshCount s < 12) :
    exec c s = .next (finish (settle s.numbered ((slotBeats (entryAt s.shadow.entries j) w).foldl
      (fun t b => moveSlot (entryAt s.shadow.entries j).head s.bus.nextTxn b t) (s.passed (.write w))))) := by
  rw [exec_frameWrite harrives hadmitted hkind, frameWrite_passes]
  · rfl
  · have hslots : ∀ h i, frameSlot s.numbered h i = frameSlot s h i := frameSlot_congr rfl
    simpa [hslots] using fun b hb => hfree _ _ _ ((slotWord_iff hadmitted).2 hb)
  · intro b hfind
    have hb := List.mem_of_find?_eq_some hfind
    have htrailer := List.find?_some hfind
    obtain ⟨hword, hfull, hcomplete⟩ := (isTrailer_iff b).1 htrailer
    have hroom := hroom ⟨b.slot, b.beat, hword ▸ (slotWord_iff hadmitted).2 hb, hfull, hcomplete⟩
    rw [List.countP_eq_length_filter, filter_isTrailer hadmitted hb htrailer]
    exact hroom

/-- Two beats of an admitted frame write lie within 16 words of each other. -/
theorem slotBeats_near {s : State} {w : BusWrite} {j : Nat} (h : Admitted s (.write w) (.window j)) {b c : SlotBeat}
    (hb : b ∈ slotBeats (entryAt s.shadow.entries j) w) (hc : c ∈ slotBeats (entryAt s.shadow.entries j) w) :
    256 * c.slot + c.word < 256 * b.slot + b.word + 16 := by
  have hstart := (window_bounds (entryAt s.shadow.entries j)).1
  obtain ⟨a, ha, -, hslot, hword⟩ := mem_slotBeats.1 hb
  obtain ⟨a', ha', -, hslot', hword'⟩ := mem_slotBeats.1 hc
  obtain ⟨haligned, hbase, hlow, hhigh⟩ := h.carried_mem ha
  obtain ⟨haligned', hbase', hlow', hhigh'⟩ := h.carried_mem ha'
  simp only at haligned hbase hlow hhigh haligned' hbase' hlow' hhigh'
  omega

theorem target_ne_none_iff (b : SlotBeat) : b.target ≠ none ↔ b.isHeader = true ∨ b.isTrailer = true := by
  rw [ne_eq, target_eq_none_iff, not_and_or, Bool.not_eq_false, Bool.not_eq_false]

/-- Two beats of an admitted write that move one slot move it the same way. -/
theorem target_same {s : State} {w : BusWrite} {j : Nat} (hadmitted : Admitted s (.write w) (.window j)) {b c : SlotBeat}
    (hb : b ∈ slotBeats (entryAt s.shadow.entries j) w) (hc : c ∈ slotBeats (entryAt s.shadow.entries j) w) (hslot : c.slot = b.slot)
    (hbtarget : b.target ≠ none) (hctarget : c.target ≠ none) : c.target = b.target := by
  have hnear := slotBeats_near hadmitted hb hc
  have hnear' := slotBeats_near hadmitted hc hb
  rcases (target_ne_none_iff b).1 hbtarget with hbheader | hbtrailer <;>
    rcases (target_ne_none_iff c).1 hctarget with hcheader | hctrailer
  · rw [target_of_header hbheader, target_of_header hcheader]
  · have := ((isHeader_iff b).1 hbheader).1
    have := ((isTrailer_iff c).1 hctrailer).1
    omega
  · have := ((isTrailer_iff b).1 hbtrailer).1
    have := ((isHeader_iff c).1 hcheader).1
    omega
  · rw [target_of_trailer hbtrailer, target_of_trailer hctrailer]

/-- A frame slot that a beat of an admitted write moves. -/
theorem frameSlot_moved {s t : State} {w : BusWrite} {j : Nat} (hadmitted : Admitted s (.write w) (.window j)) {b : SlotBeat}
    {x : SlotState} (hb : b ∈ slotBeats (entryAt s.shadow.entries j) w) (hx : b.target = some x) (h txn : Nat) :
    frameSlot ((slotBeats (entryAt s.shadow.entries j) w).foldl (fun t b => moveSlot h txn b t) t) h b.slot =
      (frameSlot t h b.slot).map fun _ => x := by
  rw [frameSlot_foldl_moveSlot h txn x b.slot _ (fun c hc hslot => ?_), if_pos ⟨b, hb, rfl, hx⟩]
  by_cases hnone : c.target = none
  · exact .inl hnone
  · exact .inr ((target_same hadmitted hb hc hslot (by simp [hx]) hnone).trans hx)

/-- The one word of a one-word write of a frame slot. -/
theorem slotBeats_oneWord {s : State} {c : Instr} {j i n : Nat} {m : Master} {d : Word} (hi : i < frameSlots (entryAt s.shadow.entries j))
    (hn : n < 256) (h : WritesWindow s c .frame j (1024 * i + 4 * n) m d) : slotBeats (entryAt s.shadow.entries j)
      (oneWord m (windowAddr (entryAt s.shadow.entries j) (1024 * i + 4 * n)) d) = [{ slot := i, word := n, beat := Beat.full d }] := by
  have hslots : frameSlots (entryAt s.shadow.entries j) ≤ 32 := Nat.min_le_right _ _
  obtain ⟨-, hcarried, hoff⟩ := writes_exec h (by omega) (by omega)
  have hslot : (1024 * i + 4 * n) / 1024 = i := by omega
  have hword : (1024 * i + 4 * n) % 1024 / 4 = n := by omega
  rw [slotBeats, hcarried]
  simp only [List.filterMap_cons, List.filterMap_nil, hoff, hslot, hword, if_pos hi]

/-- The frame slot words of a one-word write. -/
theorem slotWord_oneWord {s : State} {c : Instr} {j i n : Nat} {m : Master} {d : Word} (hi : i < frameSlots (entryAt s.shadow.entries j))
    (hn : n < 256) (h : WritesWindow s c .frame j (1024 * i + 4 * n) m d) (i' n' : Nat) (b : Beat) :
    SlotWord (entryAt s.shadow.entries j) (oneWord m (windowAddr (entryAt s.shadow.entries j) (1024 * i + 4 * n)) d) i' n' b ↔
      i' = i ∧ n' = n ∧ b = Beat.full d := by
  rw [slotWord_iff h.admitted, slotBeats_oneWord hi hn h]
  simp

/-- Settles O37. -/
theorem heldSlotsAndFullQueueRefuse : Obligations.HeldSlotsAndFullQueueRefuse := by
  unfold Obligations.HeldSlotsAndFullQueueRefuse
  intro c j i h n m d s st hhead hi hn hslot hwrites hrefused
  have hwords := slotWord_oneWord hi hn hwrites
  have hown := (hwords i n (Beat.full d)).2 ⟨rfl, rfl, rfl⟩
  obtain ⟨y, hexec, hengines, hthrough, hanswers, hpending, hheldEvent, hfullEvent⟩ :=
    exec_frameWrite_refused hwrites.arrives hwrites.admitted rfl hwrites.isKind hhead (by
      rcases hrefused with rfl | ⟨rfl, hcomplete, hfull⟩
      · exact .inl ⟨i, n, _, hown, hslot⟩
      · exact .inr ⟨hfull, i, _, hown, rfl, hcomplete⟩)
  refine ⟨y, hexec, hthrough, hanswers, hengines.intake, hengines.measure, hengines.shadow, hengines.overrides, hpending, ?_,
    hengines.mem⟩
  split
  · next hheld =>
    exact hheldEvent i n _ hown (hheld ▸ hslot) fun i' n' b' hi' _ => ((hwords i' n' b').1 hi').1.ge
  · next hheld =>
    obtain ⟨rfl, hcomplete, -⟩ := hrefused.resolve_left hheld
    refine hfullEvent i _ hown rfl hcomplete fun i' n' b' hi' => ?_
    rw [((hwords i' n' b').1 hi').1, hslot]
    simpa using hheld

/-- Settles O36: one-word writes, refusals, and the writes that pass. -/
theorem frameSlotWritesMoveSlots : Obligations.FrameSlotWritesMoveSlots := by
  unfold Obligations.FrameSlotWritesMoveSlots
  refine ⟨fun c j i h n m d x s st hhead hi hn hslot hheld hwrites hx hfresh => ?_,
    fun c w j h e s harrives hadmitted he hkind hhead => ⟨fun hrefused => ?_, fun hfree hroom => ?_⟩⟩
  · have hwords := slotWord_oneWord hi hn hwrites
    have hbeats := slotBeats_oneWord hi hn hwrites
    have hexec := exec_frameWrite_passed hwrites.arrives hwrites.admitted hwrites.isKind (fun i' n' b' hi' => by
      rw [((hwords i' n' b').1 hi').1, hhead, hslot]
      simpa using hheld) (fun ⟨i', b', hi', _, hcomplete⟩ => by
      obtain ⟨-, rfl, rfl⟩ := (hwords i' 255 b').1 hi'
      exact hfresh rfl hcomplete)
    rw [hbeats, ← hx, hhead] at hexec
    have hheader := isHeader_iff { slot := i, word := n, beat := Beat.full d }
    have htrailer := isTrailer_iff { slot := i, word := n, beat := Beat.full d }
    have hmove := frameSlot_moveSlot h s.bus.nextTxn { slot := i, word := n, beat := Beat.full d } (s.passed x)
    have hqueue := queue_foldl_moveSlot h s.bus.nextTxn [{ slot := i, word := n, beat := Beat.full d }] (s.passed x)
    simp only [List.foldl_cons, List.foldl_nil, passed_frameSlot] at hexec hmove hqueue
    simp only [full_isFull, full_data, and_true, true_and] at hheader htrailer
    have hsettled : ∀ h' i' (z : State), frameSlot (settle s.numbered z) h' i' = frameSlot z h' i' :=
      fun h' i' z => frameSlot_congr (by simp) h' i'
    refine ⟨_, hexec, by simpa using passed_through hwrites.admitted.running, by simp [State.passed], fun hn0 => ?_,
      fun hn255 hcomplete => ?_, fun hstill => ?_, fun h' i' hother => ?_, by simp [State.passed], by simp [State.passed],
      by simp [State.passed], by simp [State.passed], by simp [State.passed]⟩
    · have htarget := target_of_header (hheader.2 hn0)
      have hnot : SlotBeat.isTrailer { slot := i, word := n, beat := Beat.full d } = false := by
        rw [← Bool.not_eq_true, htrailer]
        omega
      refine ⟨by simp [hsettled, hmove, htarget, hslot], ?_⟩
      simpa [hnot, State.passed] using hqueue
    · have his := htrailer.2 ⟨hn255, hcomplete⟩
      have htarget := target_of_trailer his
      refine ⟨by simp [hsettled, hmove, htarget, hslot], ?_⟩
      simpa [his, State.passed, SlotBeat.entry] using hqueue
    · have hnotHeader : ¬ n = 0 := by omega
      have hnotTrailer : ¬ (n = 255 ∧ trailerComplete d = true) := by
        rintro ⟨hn255, hcomplete⟩
        rcases hstill with ⟨-, hclear⟩ | hbetween
        · simp [hclear] at hcomplete
        · omega
      rw [← hheader] at hnotHeader
      rw [← htrailer] at hnotTrailer
      simp [moveSlot, hnotHeader, hnotTrailer, State.passed]
    · have hother : ¬ (h' = h ∧ i' = i) := fun ⟨hh', hi'⟩ => hother (by rw [hh', hi'])
      rw [hsettled, frameSlot_moveSlot, if_neg hother, passed_frameSlot]
  · obtain ⟨y, hexec, hengines, hthrough, hanswers, hpending, hheldEvent, hfullEvent⟩ :=
      exec_frameWrite_refused harrives hadmitted he hkind hhead hrefused
    exact ⟨y, hexec, hthrough, hanswers, hengines.intake, hpending, hheldEvent, hfullEvent, hengines.measure, hengines.overrides,
      hengines.shadow, hengines.mem⟩
  · subst he hhead
    have hexec := exec_frameWrite_passed harrives hadmitted hkind hfree hroom
    have hsettled : ∀ h' i' (z : State), frameSlot (settle s.numbered z) h' i' = frameSlot z h' i' :=
      fun h' i' z => frameSlot_congr (by simp) h' i'
    have hmoved : ∀ i n b x, SlotWord (entryAt s.shadow.entries j) w i n b →
        ({ slot := i, word := n, beat := b } : SlotBeat).target = some x →
        frameSlot s (entryAt s.shadow.entries j).head i ≠ none → frameSlot (settle s.numbered
          ((slotBeats (entryAt s.shadow.entries j) w).foldl (fun t b => moveSlot (entryAt s.shadow.entries j).head s.bus.nextTxn b t)
            (s.passed (.write w)))) (entryAt s.shadow.entries j).head i = some x := fun i n b x hi hx hexists => by
      obtain ⟨st, hst⟩ := Option.ne_none_iff_exists'.1 hexists
      rw [hsettled, frameSlot_moved hadmitted ((slotWord_iff hadmitted).1 hi) hx, passed_frameSlot, hst]
      rfl
    have hqueue := queue_foldl_moveSlot (entryAt s.shadow.entries j).head s.bus.nextTxn (slotBeats (entryAt s.shadow.entries j) w)
      (s.passed (.write w))
    refine ⟨_, hexec, by simpa using passed_through hadmitted.running, by simp [State.passed], fun i b hi hfull hcomplete => ?_,
      fun i b hi hfull hexists => ?_, fun h' i' hother => ?_, fun hclear => ?_, by simp [State.passed], by simp [State.passed],
      by simp [State.passed], by simp [State.passed], by simp [State.passed]⟩
    · have htrailer := (isTrailer_iff { slot := i, word := 255, beat := b }).2 ⟨rfl, hfull, hcomplete⟩
      refine ⟨hmoved i 255 b .held hi (target_of_trailer htrailer), ?_⟩
      rw [filter_isTrailer hadmitted ((slotWord_iff hadmitted).1 hi) htrailer] at hqueue
      simpa [State.passed, SlotBeat.entry] using hqueue
    · have hheader := (isHeader_iff { slot := i, word := 0, beat := b }).2 ⟨rfl, hfull⟩
      exact hmoved i 0 b .filling hi (target_of_header hheader) hexists
    · rw [hsettled, frameSlot_foldl_moveSlot_other, passed_frameSlot]
      rintro hh' b hb rfl
      have hword := (slotWord_iff hadmitted).2 hb
      by_contra hmoves
      rcases (target_ne_none_iff b).1 hmoves with hheader | htrailer
      · obtain ⟨hn, hfull⟩ := (isHeader_iff b).1 hheader
        exact hother hh' _ _ hword hfull (.inl hn)
      · obtain ⟨hn, hfull, hcomplete⟩ := (isTrailer_iff b).1 htrailer
        exact hother hh' _ _ hword hfull (.inr ⟨hn, hcomplete⟩)
    · have hnone : (slotBeats (entryAt s.shadow.entries j) w).filter SlotBeat.isTrailer = [] := by
        rw [List.filter_eq_nil_iff]
        rintro b hb htrailer
        obtain ⟨hn, hfull, hcomplete⟩ := (isTrailer_iff b).1 htrailer
        have := hclear b.slot b.beat (hn ▸ (slotWord_iff hadmitted).2 hb) hfull
        simp [this] at hcomplete
      rw [hnone] at hqueue
      simpa [State.passed] using hqueue

end Sys2Proof.Machine
end

section
/-! Posts (O44): which words of a permitted write of an OVERRIDE window make posts, and which writes are refused. -/

namespace Sys2Proof.Machine

/-! ### The beats of an override write (R104-R106) -/

theorem mem_entryBeats {e : WindowEntry} {w : BusWrite} {b : EntryBeat} : b ∈ entryBeats e w ↔ ∃ a, (a, b.beat) ∈ carried w ∧
    b.index < overrideEntries e ∧ b.index = (a - e.start) / 16 ∧ b.word = (a - e.start) % 16 / 4 ∧
      b.addr = windowAddr e (16 * b.index) := by
  simp only [entryBeats, List.mem_filterMap, Option.ite_none_right_eq_some, Option.some.injEq, Prod.exists]
  constructor
  · rintro ⟨a, x, hmem, hindex, rfl⟩
    exact ⟨a, hmem, hindex, rfl, rfl, rfl⟩
  · rintro ⟨a, hmem, hlt, hindex, hword, haddr⟩
    refine ⟨a, b.beat, hmem, hindex ▸ hlt, ?_⟩
    rw [offsetIn, ← hindex, ← hword, ← haddr]

/-- R106: a write is busy when it writes word 0, 1 or 2 of an entry whose post stands in the FIFO. -/
theorem busy_iff {s : State} {w : BusWrite} {j : Nat} (h : Admitted s (.write w) (.window j)) (t : State) :
    (∃ b ∈ entryBeats (entryAt s.shadow.entries j) w, EntryBeat.isBusy t b = true) ↔
      ∃ i n b p, EntryWord (entryAt s.shadow.entries j) w i n b ∧ n ≠ 3 ∧ p ∈ t.overrides.fifo ∧
        p.addr = windowAddr (entryAt s.shadow.entries j) (16 * i) := by
  have hstart := (window_bounds (entryAt s.shadow.entries j)).1
  simp only [EntryBeat.isBusy, Bool.and_eq_true, bne_iff_ne, List.any_eq_true, beq_iff_eq]
  constructor
  · rintro ⟨b, hb, hn, p, hp, haddr⟩
    obtain ⟨a, hmem, hlt, hindex, hword, hbaddr⟩ := mem_entryBeats.1 hb
    have haligned := (h.carried_mem hmem).1
    simp only at haligned
    exact ⟨b.index, b.word, b.beat, p, ⟨hlt, by omega, a, hmem, by omega⟩, hn, hp, haddr.trans hbaddr⟩
  · rintro ⟨i, n, b, p, ⟨hi, hlt, a, hmem, hoff⟩, hn, hp, haddr⟩
    exact ⟨{ index := i, addr := windowAddr (entryAt s.shadow.entries j) (16 * i), word := n, beat := b },
      mem_entryBeats.2 ⟨a, hmem, hi, by simp only; omega, by simp only; omega, rfl⟩, hn, p, hp, haddr⟩

theorem postTag_eq (d : Word) : postTag d = BitVec.ofNat 15 (d.toNat % 32768) := by
  simp [postTag, bits]

/-- The posts of a write, read off its words. -/
theorem postsOf_eq_postsMade (e : WindowEntry) (w : BusWrite) (txn : Nat) :
    postsOf txn w.master (entryBeats e w) = postsMade e w txn := by
  simp only [postsOf, postsMade, entryBeats, List.filter_filterMap, List.map_filterMap, offsetIn]
  refine List.filterMap_congr fun c _ => ?_
  by_cases hlt : (c.1 - e.start) / 16 < overrideEntries e
  · by_cases hpost : (c.1 - e.start) % 16 / 4 = 2 ∧ Beat.isFull c.2 = true ∧ postMarker c.2.data = true
    · simp [hlt, hpost, EntryBeat.isPost, postTag_eq]
    · simp only [hlt, hpost, if_true, Option.filter_some]
      simpa [EntryBeat.isPost] using hpost
  · simp [hlt]

/-! ### Into what an override write runs (R105-R108) -/

theorem exec_overrideWrite {c : Instr} {w : BusWrite} {j : Nat} {s : State} (harrives : arrivalOf c = some (.write w))
    (hadmitted : Admitted s (.write w) (.window j)) (hkind : (entryAt s.shadow.entries j).kind = .override) :
    exec c s = .next (finish (settle s.numbered (overrideWrite s.bus.nextTxn (entryAt s.shadow.entries j) w s.numbered))) := by
  rw [exec_admitted harrives hadmitted, handle]
  simp only [numbered_frame, hkind]

theorem overrideWrite_busy {txn : Nat} {e : WindowEntry} {w : BusWrite} {s : State} {b : EntryBeat}
    (hfind : (entryBeats e w).find? (EntryBeat.isBusy s) = some b) : overrideWrite txn e w s =
      emit (event .override 2 s.tracker.lug (single b.index) (single w.master.toNat)) (refuse txn (.write w) s) := by
  simp only [overrideWrite, hfind]
  rfl

/-- R131: the entry that POST_FULL names. -/
def firstPosted (bs : List EntryBeat) : Nat := ((bs.find? EntryBeat.isPost).map EntryBeat.index).getD 0

theorem overrideWrite_full {txn : Nat} {e : WindowEntry} {w : BusWrite} {s : State}
    (hfind : (entryBeats e w).find? (EntryBeat.isBusy s) = none) (hfull : 16 < s.overrides.fifo.length + (postsMade e w txn).length) :
    overrideWrite txn e w s =
      emit (event .override 1 s.tracker.lug (single (firstPosted (entryBeats e w))) (single w.master.toNat))
        (refuse txn (.write w) s) := by
  simp only [overrideWrite, hfind, postsOf_eq_postsMade]
  rw [if_neg (Nat.not_le.2 hfull)]
  rfl

theorem overrideWrite_passes {txn : Nat} {e : WindowEntry} {w : BusWrite} {s : State}
    (hfind : (entryBeats e w).find? (EntryBeat.isBusy s) = none) (hroom : s.overrides.fifo.length + (postsMade e w txn).length ≤ 16) :
    overrideWrite txn e w s = (let t := pass txn (.write w) false s
      { t with overrides := { t.overrides with fifo := s.overrides.fifo ++ postsMade e w txn } }) := by
  simp only [overrideWrite, hfind, postsOf_eq_postsMade]
  rw [if_pos (show _ ≤ Config.maxPosts from hroom)]
  rfl

/-- A permitted override write that is refused, with its event. -/
theorem exec_override_refused {c : Instr} {w : BusWrite} {j : Nat} {s : State} {busy : Prop} (harrives : arrivalOf c = some (.write w))
    (hadmitted : Admitted s (.write w) (.window j)) (hkind : (entryAt s.shadow.entries j).kind = .override)
    (hbusy : busy ↔ ∃ b ∈ entryBeats (entryAt s.shadow.entries j) w, EntryBeat.isBusy s b = true)
    (hrefused : busy ∨ 16 < s.overrides.fifo.length + (postsMade (entryAt s.shadow.entries j) w s.bus.nextTxn).length) :
    ∃ y code index, exec c s = .next (finish y) ∧ OnlyEngines s y ∧ y.bus.through = s.bus.through ∧
      y.bus.answers = s.bus.answers ++ [errorAnswer s w.master] ∧ y.events.classes.getLsbD 2 = true ∧
      EventsWritten [event .override code s.tracker.lug (single index) (single w.master.toNat)] s y ∧
      (busy → code = 2 ∧ ∃ b ∈ entryBeats (entryAt s.shadow.entries j) w, EntryBeat.isBusy s b = true ∧ index = b.index) ∧
      (¬ busy → code = 1 ∧ index = firstPosted (entryBeats (entryAt s.shadow.entries j) w)) := by
  have hexec := exec_overrideWrite harrives hadmitted hkind
  have hspec := fun code index => refusal_spec (.write w)
    (event .override code s.tracker.lug (single index) (single w.master.toNat)) s
  cases hfind : (entryBeats (entryAt s.shadow.entries j) w).find? (EntryBeat.isBusy s) with
  | some b =>
    have hb : ∃ b ∈ entryBeats (entryAt s.shadow.entries j) w, EntryBeat.isBusy s b = true :=
      ⟨b, List.mem_of_find?_eq_some hfind, List.find?_some hfind⟩
    obtain ⟨hengines, hthrough, hanswers, hpending, hwritten⟩ := hspec 2 b.index
    rw [overrideWrite_busy (s := s.numbered) hfind] at hexec
    exact ⟨_, 2, b.index, hexec, hengines, hthrough, hanswers, hpending, hwritten,
      fun _ => ⟨rfl, b, List.mem_of_find?_eq_some hfind, List.find?_some hfind, rfl⟩, fun hnot => absurd (hbusy.2 hb) hnot⟩
  | none =>
    have hnot : ¬ busy := by
      rw [hbusy]
      simpa using hfind
    obtain ⟨hengines, hthrough, hanswers, hpending, hwritten⟩ := hspec 1 (firstPosted (entryBeats (entryAt s.shadow.entries j) w))
    rw [overrideWrite_full (s := s.numbered) hfind (hrefused.resolve_left hnot)] at hexec
    exact ⟨_, 1, _, hexec, hengines, hthrough, hanswers, hpending, hwritten, fun h => absurd h hnot, fun _ => ⟨rfl, rfl⟩⟩

/-- A permitted override write that passes. -/
theorem exec_override_passed {c : Instr} {w : BusWrite} {j : Nat} {s : State} (harrives : arrivalOf c = some (.write w))
    (hadmitted : Admitted s (.write w) (.window j)) (hkind : (entryAt s.shadow.entries j).kind = .override)
    (hfree : ¬ ∃ b ∈ entryBeats (entryAt s.shadow.entries j) w, EntryBeat.isBusy s b = true)
    (hroom : s.overrides.fifo.length + (postsMade (entryAt s.shadow.entries j) w s.bus.nextTxn).length ≤ 16) :
    ∃ y, exec c s = .next (finish y) ∧ y.bus.through = s.bus.through ++ [passedBurst s (.write w)] ∧ y.bus.answers = s.bus.answers ∧
      y.overrides = { s.overrides with fifo := s.overrides.fifo ++ postsMade (entryAt s.shadow.entries j) w s.bus.nextTxn } ∧
      y.shadow = s.shadow ∧ y.intake = s.intake ∧ y.bus.mem = s.bus.mem := by
  have hexec := exec_overrideWrite harrives hadmitted hkind
  rw [overrideWrite_passes (s := s.numbered) (List.find?_eq_none.2 fun b hb hbusy => hfree ⟨b, hb, hbusy⟩) hroom] at hexec
  exact ⟨_, hexec, by simpa [State.passed] using passed_through (x := .write w) hadmitted.running,
    by simp, by simp, by simp, by simp, by simp⟩

/-! ### The statement about posts (O44) -/

/-- The one word of a one-word write of an override entry's word 2. -/
theorem entryBeats_oneWord {s : State} {c : Instr} {j i : Nat} {m : Master} {d : Word}
    (hi : i < overrideEntries (entryAt s.shadow.entries j)) (h : WritesWindow s c .override j (16 * i + 8) m d) :
    entryBeats (entryAt s.shadow.entries j) (oneWord m (windowAddr (entryAt s.shadow.entries j) (16 * i + 8)) d) =
      [{ index := i, addr := windowAddr (entryAt s.shadow.entries j) (16 * i), word := 2, beat := Beat.full d }] := by
  have hentries : overrideEntries (entryAt s.shadow.entries j) ≤ 1024 := Nat.min_le_right _ _
  obtain ⟨-, hcarried, hoff⟩ := writes_exec h (by omega) (by omega)
  have hindex : (16 * i + 8) / 16 = i := by omega
  have hword : (16 * i + 8) % 16 / 4 = 2 := by omega
  rw [entryBeats, hcarried]
  simp only [List.filterMap_cons, List.filterMap_nil, hoff, hindex, hword, if_pos hi]

/-- Settles O44: one post word, and then a write of any length. -/
theorem postsJoinTheFifo : Obligations.PostsJoinTheFifo := by
  unfold Obligations.PostsJoinTheFifo
  refine ⟨fun c j i m d a x s hi ha hwrites hx => ?_, fun c w j e s busy harrives hadmitted he hkind hbusy => ?_⟩
  · have hbeats := entryBeats_oneWord hi hwrites
    have hposts : postsMade (entryAt s.shadow.entries j) (oneWord m (windowAddr (entryAt s.shadow.entries j) (16 * i + 8)) d)
        s.bus.nextTxn = if postMarker d = true then
          [{ addr := a, index := i, tag := BitVec.ofNat 15 (d.toNat % 32768), master := m, awaiting := some s.bus.nextTxn }] else [] := by
      rw [← postsOf_eq_postsMade, hbeats, ha]
      by_cases hmarker : postMarker d = true
      · simp [postsOf, EntryBeat.isPost, hmarker, postTag_eq, oneWord]
      · simp [postsOf, EntryBeat.isPost, hmarker]
    have hbusy : (∃ p ∈ s.overrides.fifo, p.addr = a) ↔ ∃ b ∈ entryBeats (entryAt s.shadow.entries j)
        (oneWord m (windowAddr (entryAt s.shadow.entries j) (16 * i + 8)) d), EntryBeat.isBusy s b = true := by
      simp [hbeats, EntryBeat.isBusy, ha]
    have hrefuse := exec_override_refused hwrites.arrives hwrites.admitted hwrites.isKind hbusy
    have hpass := exec_override_passed hwrites.arrives hwrites.admitted hwrites.isKind
    rw [hbeats, hposts] at hrefuse
    rw [← hbusy, hposts] at hpass
    by_cases hrefused : (∃ p ∈ s.overrides.fifo, p.addr = a) ∨ 16 < s.overrides.fifo.length + (if postMarker d = true then
        [({ addr := a, index := i, tag := BitVec.ofNat 15 (d.toNat % 32768), master := m, awaiting := some s.bus.nextTxn } : Post)]
          else []).length
    · obtain ⟨y, code, index, hexec, hengines, hthrough, hanswers, hpending, hwritten, hcode, hcode'⟩ := hrefuse hrefused
      refine ⟨y, hexec, hengines.mem, by rw [hengines.overrides], by rw [hengines.overrides], by rw [hengines.overrides],
        hengines.shadow, hengines.intake, fun hfree hmarker hroom => ?_, fun hwhy => ⟨hthrough, by rw [hengines.overrides], hpending, ?_,
          hanswers⟩, fun hfree hmarker hroom => ?_⟩
      · simp only [hmarker, if_true, List.length_singleton] at hrefused
        rcases hrefused with ⟨p, hp, haddr⟩ | hfull
        · exact absurd haddr (hfree p hp)
        · omega
      · split
        · next hstands =>
          obtain ⟨rfl, b, hb, -, rfl⟩ := hcode hstands
          obtain rfl := List.mem_singleton.1 hb
          exact hwritten
        · next hfree =>
          obtain ⟨rfl, rfl⟩ := hcode' hfree
          have hmarker := (hwhy.resolve_left hfree).1
          simpa [firstPosted, EntryBeat.isPost, hmarker, oneWord] using hwritten
      · simp only [hmarker, Bool.false_eq_true, if_false, List.length_nil] at hrefused
        rcases hrefused with ⟨p, hp, haddr⟩ | hfull
        · exact absurd haddr (hfree p hp)
        · omega
    · obtain ⟨hfree, hroom⟩ := not_or.1 hrefused
      obtain ⟨y, hexec, hthrough, hanswers, hoverrides, hshadow, hintake, hmem⟩ := hpass hfree (Nat.not_lt.1 hroom)
      rw [← hx] at hthrough
      refine ⟨y, hexec, hmem, by rw [hoverrides], by rw [hoverrides], by rw [hoverrides], hshadow, hintake, fun _ hmarker _ =>
        ⟨hthrough, hanswers, by rw [hoverrides]; simp [hmarker]⟩, fun hwhy => ?_, fun _ hmarker _ =>
        ⟨hthrough, hanswers, by rw [hoverrides]; simp [hmarker]⟩⟩
      obtain ⟨hmarker, hfull⟩ := hwhy.resolve_left hfree
      simp only [hmarker, if_true, List.length_singleton] at hroom
      omega
  · subst he
    rw [← busy_iff hadmitted s] at hbusy
    by_cases hrefused : busy ∨ 16 < s.overrides.fifo.length + (postsMade (entryAt s.shadow.entries j) w s.bus.nextTxn).length
    · obtain ⟨y, code, index, hexec, hengines, hthrough, hanswers, hpending, -⟩ :=
        exec_override_refused harrives hadmitted hkind hbusy hrefused
      refine ⟨y, hexec, hengines.mem, by rw [hengines.overrides], by rw [hengines.overrides], by rw [hengines.overrides],
        hengines.shadow, hengines.intake, fun _ => ⟨hthrough, by rw [hengines.overrides], hpending, hanswers⟩, fun hfree hroom => ?_⟩
      exact absurd hrefused (not_or.2 ⟨hfree, Nat.not_lt.2 hroom⟩)
    · obtain ⟨hfree, hroom⟩ := not_or.1 hrefused
      obtain ⟨y, hexec, hthrough, hanswers, hoverrides, hshadow, hintake, hmem⟩ :=
        exec_override_passed harrives hadmitted hkind (by rwa [← hbusy]) (Nat.not_lt.1 hroom)
      exact ⟨y, hexec, hmem, by rw [hoverrides], by rw [hoverrides], by rw [hoverrides], hshadow, hintake,
        fun h => absurd h hrefused, fun _ _ => ⟨hthrough, hanswers, by rw [hoverrides]⟩⟩

end Sys2Proof.Machine
end

section
/-! The record table and the decision queue, operation by operation: what writing one record, joining and leaving the queue, and a
lug event make of them. -/

namespace Sys2Proof.Machine

/-! ### Sizes -/

/-- The sizes of the part's tables. -/
def State.lengths (s : State) : List Nat :=
  [s.tracker.records.length, s.tracker.areas.length, s.shadow.words.length, s.shadow.entries.length, s.intake.tables.length,
    s.overrides.trimEntries.length, s.dispatch.counts.length, s.lineGuard.flags.length]

theorem sized_iff_lengths (s : State) : s.Sized ↔ s.lengths = [32, 33, Config.setupWords, 16, 6, 32, 16, 6] := by
  simp only [State.lengths, List.cons.injEq, and_true]
  exact ⟨fun h => ⟨h.records, h.areas, h.words, h.entries, h.tables, h.trims, h.bins, h.flags⟩,
    fun ⟨h1, h2, h3, h4, h5, h6, h7, h8⟩ => ⟨h1, h2, h3, h4, h5, h6, h7, h8⟩⟩

theorem sized_of_lengths {s t : State} (hl : t.lengths = s.lengths) (h : s.Sized) : t.Sized :=
  (sized_iff_lengths t).2 (hl.trans ((sized_iff_lengths s).1 h))

@[simp] theorem report_flags_length (g : GuardName) (s : State) : (report g s).lineGuard.flags.length = s.lineGuard.flags.length := by
  simp [report]

@[simp] theorem fallbackAtRetire_flags_length (k : Nat) (s : State) :
    (fallbackAtRetire k s).lineGuard.flags.length = s.lineGuard.flags.length := by
  unfold fallbackAtRetire
  split <;> simp

@[simp] theorem setFrameSlot_tables_length (h i : Nat) (st : SlotState) (s : State) :
    (setFrameSlot h i st s).intake.tables.length = s.intake.tables.length := by
  unfold setFrameSlot
  split <;> simp

@[simp] theorem releaseHeldSlots_tables_length (ps : List (Nat × Nat)) (s : State) :
    (releaseHeldSlots ps s).intake.tables.length = s.intake.tables.length := by
  simp only [releaseHeldSlots]
  split
  · rfl
  · simp only [dropEngine_frame, leaveIntakeQueue_frame]
    exact foldl_keeps _ _ s (fun s => s.intake.tables.length) fun s p => setFrameSlot_tables_length ..

@[simp] theorem raiseBin_counts_length (b : Nat) (s : State) :
    (raiseBin b s).dispatch.counts.length = s.dispatch.counts.length := by
  simp [raiseBin]

@[simp] theorem setTrimEntry_trims_length (k : Nat) (kind : OverrideKind) (addr : Word) (tag : BitVec 15) (s : State) :
    (setTrimEntry k kind addr tag s).overrides.trimEntries.length = s.overrides.trimEntries.length := by
  unfold setTrimEntry
  split <;> simp

@[simp] theorem publish_areas_length (s0 s : State) : (publish s0 s).tracker.areas.length = s.tracker.areas.length := by
  have hfold : ∀ (ks : List Nat) (s : State),
      (ks.foldl (fun s k => publishArea k s) s).tracker.areas.length = s.tracker.areas.length := fun ks s =>
    foldl_keeps _ ks s (fun s => s.tracker.areas.length) fun s k => publishArea_areas_length k s
  simp only [publish, publishAll]
  repeat' split
  all_goals simp [hfold, publishArea_areas_length]

@[simp] theorem startOptimizer_records_length (s : State) :
    (startOptimizer s).tracker.records.length = s.tracker.records.length := by
  unfold startOptimizer
  split <;> simp [State.setRecord]

theorem settle_lengths (s0 s : State) : (settle s0 s).lengths = s.lengths := by
  simp only [State.lengths, settle_records, startOptimizer_records_length]
  simp [settle, startRun]

/-! ### What a step may make of one record -/

/-- From `r` to `q` a record slot keeps what a step may not take from it: a DISPATCHED committed record is freed or stands but for its
held-slot list, and a FREE slot stays FREE. -/
structure Follows (r q : Record) : Prop where
  stands : r.state = .dispatched → r.committed = true → q = Record.blank ∨ ∃ held, q = { r with held := held }
  blank : r = Record.blank → q = Record.blank
  free : r.live = false → q.live = false

theorem Follows.refl (r : Record) : Follows r r := ⟨fun _ _ => .inr ⟨r.held, rfl⟩, id, id⟩

theorem Follows.of_eq {r q : Record} (h : q = r) : Follows r q := h ▸ .refl r

theorem Follows.trans {r q p : Record} (hrq : Follows r q) (hqp : Follows q p) : Follows r p where
  stands hstate hcommitted := by
    rcases hrq.stands hstate hcommitted with rfl | ⟨held, rfl⟩
    · exact .inl (hqp.blank rfl)
    · rcases hqp.stands hstate hcommitted with rfl | ⟨held', rfl⟩
      · exact .inl rfl
      · exact .inr ⟨held', rfl⟩
  blank h := hqp.blank (hrq.blank h)
  free h := hqp.free (hrq.free h)

theorem Follows.to_blank (r : Record) : Follows r Record.blank := ⟨fun _ _ => .inl rfl, fun _ => rfl, fun _ => rfl⟩

theorem Follows.held (r : Record) (f : List (Nat × Nat) → List (Nat × Nat)) (hf : f [] = []) :
    Follows r { r with held := f r.held } where
  stands _ _ := .inr ⟨_, rfl⟩
  blank h := by subst h; simp [Record.blank, hf]
  free h := h

/-- A live record that is not DISPATCHED and committed may take any value. -/
theorem Follows.of_open {r : Record} (q : Record) (hlive : r.live = true) (h : r.state = .dispatched → r.committed = false) :
    Follows r q where
  stands hstate hcommitted := by simp [h hstate] at hcommitted
  blank hblank := by subst hblank; cases hlive
  free hfree := by simp [hlive] at hfree

theorem live_iff (r : Record) : r.live = true ↔ r.state ≠ .free := by
  simp [Record.live]

/-! ### The table -/

/-- The record table with every live record at a position up to `b`: between steps `b` is 30, and within a lug event 31. -/
structure State.TableWithin (b : Nat) (s : State) : Prop where
  sized : s.Sized
  placed : ∀ k, k < 32 → (s.record k).live = true → slotOf (s.record k).lug = k ∧ position s.tracker.lug (s.record k).lug ≤ b
  queue : s.QueueAgrees
  aged : s.QueueByAge

theorem tableSound_iff (s : State) : s.TableSound ↔ s.TableWithin 30 :=
  ⟨fun h => ⟨h.sized, h.placed, h.queue, h.aged⟩, fun h => ⟨h.sized, h.placed, h.queue, h.aged⟩⟩

/-- From `s` to `t` the record table stays sound, and every slot keeps what a step may not take from it. -/
structure Keeps (b : Nat) (s t : State) : Prop where
  within : s.TableWithin b → t.TableWithin b ∧ ∀ j, Follows (s.record j) (t.record j)

theorem Keeps.refl (b : Nat) (s : State) : Keeps b s s := ⟨fun h => ⟨h, fun _ => .refl _⟩⟩

theorem Keeps.trans {b : Nat} {s t u : State} (hst : Keeps b s t) (htu : Keeps b t u) : Keeps b s u where
  within h :=
    have ⟨ht, hfollows⟩ := hst.within h
    have ⟨hu, hfollows'⟩ := htu.within ht
    ⟨hu, fun j => (hfollows j).trans (hfollows' j)⟩

/-- What is shown of the change with a sound table at hand. -/
theorem Keeps.of_within {b : Nat} {s t : State} (h : s.TableWithin b → Keeps b s t) : Keeps b s t := ⟨fun hs => (h hs).within hs⟩

theorem State.TableWithin.queued_of_entry {b : Nat} {s : State} (h : s.TableWithin b) {e : QueueEntry} (he : e ∈ s.optimizer.queue) :
    e.slot < 32 ∧ (s.record e.slot).state = .queued ∧ (s.record e.slot).live = true ∧ e.lug = (s.record e.slot).lug :=
  have ⟨hslot, hqueued⟩ := h.queue.2 e he
  ⟨hslot, hqueued, by simp [Record.live, hqueued], h.aged.lugs e he⟩

theorem State.TableWithin.slot_of_live {b : Nat} {s : State} (h : s.TableWithin b) {k : Nat} (hlive : (s.record k).live = true) : k < 32 :=
  slot_of_not_free h.sized ((live_iff _).1 hlive)

/-- Nothing of the lug number, the records and the queue has moved. -/
theorem keeps_of_eq {b : Nat} {s t : State} (hl : t.lengths = s.lengths) (hlug : t.tracker.lug = s.tracker.lug)
    (hrecords : t.tracker.records = s.tracker.records) (hqueue : t.optimizer.queue = s.optimizer.queue) : Keeps b s t := .mk fun h => by
  have hr : ∀ j, t.record j = s.record j := record_of_records hrecords
  refine ⟨⟨sized_of_lengths hl h.sized, ?_, queueAgrees_congr hqueue hr h.queue, ?_⟩, fun j => .of_eq (hr j)⟩
  · simp only [hr, hlug]
    exact h.placed
  · exact
      { lugs := by simp only [hr, hqueue]; exact h.aged.lugs
        older := by simp only [hlug, hqueue]; exact h.aged.older
        named := by simp only [hr, hqueue]; exact h.aged.named }

/-- Every record changed by a function that leaves lug and state alone. -/
theorem keeps_map {b : Nat} {s t : State} (f : Record → Record) (hl : t.lengths = s.lengths) (hlug : t.tracker.lug = s.tracker.lug)
    (hrecords : t.tracker.records = s.tracker.records.map f) (hqueue : t.optimizer.queue = s.optimizer.queue)
    (hblank : f Record.blank = Record.blank) (hf : ∀ r, (f r).lug = r.lug ∧ (f r).state = r.state ∧ Follows r (f r)) :
    Keeps b s t := .mk fun h => by
  have hr : ∀ j, t.record j = f (s.record j) := fun j => by
    simp only [State.record, hrecords]
    rw [← hblank, List.getD_map, hblank]
  have hstate : ∀ j, (t.record j).state = (s.record j).state := fun j => by rw [hr, (hf _).2.1]
  have hlugs : ∀ j, (t.record j).lug = (s.record j).lug := fun j => by rw [hr, (hf _).1]
  refine ⟨⟨sized_of_lengths hl h.sized, ?_, ?_, ?_⟩, fun j => hr j ▸ (hf _).2.2⟩
  · simp only [Record.live, hstate, hlugs, hlug]
    exact h.placed
  · simp only [State.QueueAgrees, hstate, hqueue]
    exact h.queue
  · exact
      { lugs := by simp only [hlugs, hqueue]; exact h.aged.lugs
        older := by simp only [hlug, hqueue]; exact h.aged.older
        named := by simp only [hstate, hqueue]; exact h.aged.named }

/-- Record `k` takes the value `r`, and the decision queue loses at most the slot's entry. -/
theorem keeps_put {b : Nat} {s t : State} {k : Nat} {r : Record} (hl : t.lengths = s.lengths)
    (hlug : t.tracker.lug = s.tracker.lug) (hset : t.tracker.records = s.tracker.records.set k r)
    (hlive : r.live = true → (s.record k).live = true ∧ r.lug = (s.record k).lug) (hfollows : Follows (s.record k) r)
    (hnew : r.state = .queued → (s.record k).state = .queued) (hsub : t.optimizer.queue.Sublist s.optimizer.queue)
    (hout : s.TableWithin b → ∀ e ∈ t.optimizer.queue, e.slot = k → r.state = .queued)
    (hin : ∀ e ∈ s.optimizer.queue, e.slot ≠ k ∨ r.state = .queued → e ∈ t.optimizer.queue) : Keeps b s t := .mk fun h => by
  have hr : ∀ j, j < 32 → t.record j = if j = k then r else s.record j := fun j hj => by
    by_cases hjk : j = k
    · subst hjk
      have hlength : j < s.tracker.records.length := by rw [h.sized.records]; exact hj
      simp [State.record, hset, hlength]
    · simp [State.record, hset, hjk, List.getD_eq_getElem?_getD, List.getElem?_set_ne (Ne.symm hjk)]
  have hlug_of : ∀ e ∈ t.optimizer.queue, e.lug = (t.record e.slot).lug := fun e he => by
    obtain ⟨hslot, -, -, heq⟩ := h.queued_of_entry (hsub.subset he)
    rw [hr _ hslot]
    split
    · next hk =>
      have hqueued := hout h e he hk
      rw [(hlive (by simp [Record.live, hqueued])).2, ← hk, heq]
    · exact heq
  refine ⟨⟨sized_of_lengths hl h.sized, fun j hj => ?_, ⟨(hsub.map _).nodup h.queue.1, fun e he => ?_⟩,
    { lugs := hlug_of, older := ?_, named := fun j hj => ?_ }⟩, fun j => ?_⟩
  · rw [hr j hj, hlug]
    split
    · next hjk =>
      intro hlive'
      obtain ⟨hold, heq⟩ := hlive hlive'
      rw [heq, ← hjk]
      exact h.placed j hj (hjk ▸ hold)
    · exact h.placed j hj
  · obtain ⟨hslot, hqueued, -, -⟩ := h.queued_of_entry (hsub.subset he)
    refine ⟨hslot, ?_⟩
    rw [hr _ hslot]
    split
    · next hk => exact hout h e he hk
    · exact hqueued
  · rw [hlug]
    exact h.aged.older.sublist hsub
  · rw [hr j hj]
    split
    · next hjk =>
      intro hqueued
      obtain ⟨e, he, heq⟩ := h.aged.named j hj (hjk ▸ hnew hqueued)
      exact ⟨e, hin e he (.inr hqueued), heq⟩
    · next hjk =>
      intro hqueued
      obtain ⟨e, he, heq⟩ := h.aged.named j hj hqueued
      exact ⟨e, hin e he (.inl (heq ▸ hjk)), heq⟩
  · rcases record_of_set hset j with hj | ⟨rfl, hj⟩
    · exact .of_eq hj
    · exact hj ▸ hfollows

/-- Record `k` changes, but for its lug and state. -/
theorem keeps_update {b : Nat} {s t : State} {k : Nat} {r : Record} (hl : t.lengths = s.lengths)
    (hlug : t.tracker.lug = s.tracker.lug) (hset : t.tracker.records = s.tracker.records.set k r)
    (hqueue : t.optimizer.queue = s.optimizer.queue) (hstate : r.state = (s.record k).state) (heq : r.lug = (s.record k).lug)
    (hfollows : Follows (s.record k) r) : Keeps b s t :=
  keeps_put hl hlug hset (fun h => ⟨by rwa [Record.live, ← hstate], heq⟩) hfollows (fun h => hstate ▸ h) (hqueue ▸ .refl _)
    (fun h e he hk => by
      have hqueued := (h.queued_of_entry (hqueue ▸ he)).2.1
      rwa [hk, ← hstate] at hqueued)
    (fun e he _ => hqueue ▸ he)

/-- Record `k` leaves QUEUED or was not there, and the queue does not name it. -/
theorem keeps_leave {b : Nat} {s t : State} {k : Nat} {r : Record} (hl : t.lengths = s.lengths)
    (hlug : t.tracker.lug = s.tracker.lug) (hset : t.tracker.records = s.tracker.records.set k r)
    (hqueue : t.optimizer.queue = s.optimizer.queue.filter fun e => e.slot != k) (hstate : r.state ≠ .queued)
    (hlive : r.live = true → (s.record k).live = true ∧ r.lug = (s.record k).lug) (hfollows : Follows (s.record k) r) :
    Keeps b s t :=
  keeps_put hl hlug hset hlive hfollows (fun h => absurd h hstate) (hqueue ▸ List.filter_sublist)
    (fun _ e he hk => by simp [hqueue, hk] at he)
    (fun e he h => by
      have hk := h.resolve_right hstate
      simp [hqueue, he, hk])

/-- Record `k`, which is not QUEUED, changes and does not become it. -/
theorem keeps_unqueued {b : Nat} {s t : State} {k : Nat} {r : Record} (hl : t.lengths = s.lengths)
    (hlug : t.tracker.lug = s.tracker.lug) (hset : t.tracker.records = s.tracker.records.set k r)
    (hqueue : t.optimizer.queue = s.optimizer.queue) (hold : (s.record k).state ≠ .queued) (hstate : r.state ≠ .queued)
    (hlive : r.live = true → (s.record k).live = true ∧ r.lug = (s.record k).lug) (hfollows : Follows (s.record k) r) :
    Keeps b s t :=
  keeps_put hl hlug hset hlive hfollows (fun h => absurd h hstate) (hqueue ▸ .refl _)
    (fun h e he hk => by
      have hqueued := (h.queued_of_entry (hqueue ▸ he)).2.1
      rw [hk] at hqueued
      exact absurd hqueued hold)
    (fun e he _ => hqueue ▸ he)

/-! ### Joining the queue and the idle optimizer -/

theorem position_inj {c x y : Lug} (h : position c x = position c y) : x = y := by
  simp only [position] at h
  bv_omega

theorem mem_insertByAge (c : Lug) (e x : QueueEntry) (q : List QueueEntry) : x ∈ insertByAge c e q ↔ x = e ∨ x ∈ q := by
  induction q with
  | nil => simp [insertByAge]
  | cons y q ih =>
    unfold insertByAge
    split
    · simp
    · simp only [List.mem_cons, ih]
      tauto

theorem insertByAge_perm (c : Lug) (e : QueueEntry) (q : List QueueEntry) : (insertByAge c e q).Perm (e :: q) := by
  induction q with
  | nil => exact .refl _
  | cons y q ih =>
    unfold insertByAge
    split
    · exact .refl _
    · exact (ih.cons y).trans (.swap e y q)

/-- An entry of a lug that the queue does not name goes in where the queue stays by age. -/
theorem insertByAge_pairwise {c : Lug} {e : QueueEntry} {q : List QueueEntry} (hnew : ∀ x ∈ q, x.lug ≠ e.lug)
    (h : q.Pairwise fun e f => position c f.lug < position c e.lug) :
    (insertByAge c e q).Pairwise fun e f => position c f.lug < position c e.lug := by
  induction q with
  | nil => exact List.pairwise_singleton ..
  | cons y q ih =>
    obtain ⟨hy, hq⟩ := List.pairwise_cons.1 h
    unfold insertByAge
    split
    · next hlt =>
      refine List.pairwise_cons.2 ⟨fun x hx => ?_, h⟩
      rcases List.mem_cons.1 hx with rfl | hx
      · exact hlt
      · exact (hy x hx).trans hlt
    · next hge =>
      refine List.pairwise_cons.2 ⟨fun x hx => ?_, ih (fun x hx => hnew x (List.mem_cons_of_mem _ hx)) hq⟩
      rcases (mem_insertByAge c e x q).1 hx with rfl | hx
      · have hne : position c y.lug ≠ position c x.lug := fun heq => hnew y List.mem_cons_self (position_inj heq)
        omega
      · exact hy x hx

theorem joinQueue_values (k : Nat) (s : State) :
    (joinQueue k s).tracker.records = s.tracker.records.set k { s.record k with state := .queued, decision := none } ∧
    (joinQueue k s).optimizer.queue = insertByAge s.tracker.lug { slot := k, lug := (s.record k).lug } s.optimizer.queue := by
  simp [joinQueue, State.setRecord]

/-- R87: a live record that is not QUEUED joins the queue. -/
theorem joinQueue_keeps {b k : Nat} {s : State} (hlive : (s.record k).live = true) (hstate : (s.record k).state ≠ .queued)
    (hopen : (s.record k).state = .dispatched → (s.record k).committed = false) : Keeps b s (joinQueue k s) := .mk fun h => by
  obtain ⟨hset, hqueue⟩ := joinQueue_values k s
  have hlug : (joinQueue k s).tracker.lug = s.tracker.lug := by simp
  have hk := State.TableWithin.slot_of_live h hlive
  have hr : ∀ j, (joinQueue k s).record j =
      if j = k then { s.record k with state := .queued, decision := none } else s.record j := fun j =>
    (record_of_records hset j).trans (record_setRecord s k j _ (by rw [h.sized.records]; exact hk))
  have hnot : ∀ e ∈ s.optimizer.queue, e.slot ≠ k := fun e he heq => hstate (heq ▸ (h.queued_of_entry he).2.1)
  have hmem : ∀ e, e ∈ (joinQueue k s).optimizer.queue ↔ e = { slot := k, lug := (s.record k).lug } ∨ e ∈ s.optimizer.queue := by
    intro e
    rw [hqueue, mem_insertByAge]
  refine ⟨⟨sized_of_lengths ?_ h.sized, fun j hj => ?_, ⟨?_, fun e he => ?_⟩,
    { lugs := fun e he => ?_, older := ?_, named := fun j hj hqueued => ?_ }⟩, fun j => ?_⟩
  · simp [State.lengths, hset]
  · rw [hr, hlug]
    split
    · next hjk => exact fun _ => hjk ▸ h.placed k hk hlive
    · exact h.placed j hj
  · rw [hqueue, (insertByAge_perm ..).map _ |>.nodup_iff, List.map_cons, List.nodup_cons]
    exact ⟨fun hin => by
      obtain ⟨e, he, heq⟩ := List.mem_map.1 hin
      exact hnot e he heq, h.queue.1⟩
  · rcases (hmem e).1 he with rfl | he
    · exact ⟨hk, by rw [hr, if_pos rfl]⟩
    · obtain ⟨hslot, hqueued, -, -⟩ := h.queued_of_entry he
      exact ⟨hslot, by rw [hr, if_neg (hnot e he), hqueued]⟩
  · rcases (hmem e).1 he with rfl | he
    · rw [hr, if_pos rfl]
    · rw [hr, if_neg (hnot e he), (h.queued_of_entry he).2.2.2]
  · rw [hqueue, hlug]
    refine insertByAge_pairwise (fun x hx heq => ?_) h.aged.older
    obtain ⟨hslot, -, hxlive, hxlug⟩ := h.queued_of_entry hx
    have hplaced := (h.placed _ hslot hxlive).1
    rw [← hxlug, heq] at hplaced
    exact hnot x hx (hplaced.symm.trans (h.placed k hk hlive).1)
  · rw [hr] at hqueued
    split at hqueued
    · next hjk => exact ⟨_, (hmem _).2 (.inl rfl), hjk.symm⟩
    · obtain ⟨e, he, heq⟩ := h.aged.named j hj hqueued
      exact ⟨e, (hmem e).2 (.inr he), heq⟩
  · rw [hr]
    split
    · next hjk => subst hjk; exact .of_open _ hlive hopen
    · exact .refl _

/-- R89: the idle optimizer takes the head of the queue. -/
theorem startOptimizer_keeps (b : Nat) (s : State) : Keeps b s (startOptimizer s) := .of_within fun h => by
  have hl : (startOptimizer s).lengths = s.lengths := by simp [State.lengths]
  have hlug : (startOptimizer s).tracker.lug = s.tracker.lug := by simp
  by_cases hstart : ∃ e rest, s.shadow.part = .running ∧ s.optimizer.run = none ∧ s.optimizer.queue = e :: rest
  · obtain ⟨e, rest, hrun, hidle, hqueue⟩ := hstart
    obtain ⟨-, hqueued, hlive, -⟩ := h.queued_of_entry (hqueue ▸ List.mem_cons_self : e ∈ s.optimizer.queue)
    have hnot : ∀ x ∈ rest, x.slot ≠ e.slot := fun x hx heq => by
      have hnodup := h.queue.1
      rw [hqueue, List.map_cons, List.nodup_cons] at hnodup
      exact hnodup.1 (heq ▸ List.mem_map_of_mem hx)
    have hrest : (startOptimizer s).optimizer.queue = rest := by simp [startOptimizer, hrun, hidle, hqueue]
    refine keeps_put (k := e.slot) (r := { s.record e.slot with state := .optimizing }) hl hlug
      (by simp [startOptimizer, hrun, hidle, hqueue, State.setRecord]) (fun _ => ⟨hlive, rfl⟩) (.of_open _ hlive (by simp [hqueued]))
      nofun (by simp [hrest, hqueue]) (fun _ x hx heq => absurd heq (hnot x (hrest ▸ hx))) fun x hx hor => ?_
    rw [hqueue, List.mem_cons] at hx
    rcases hx with rfl | hx
    · simp at hor
    · exact hrest ▸ hx
  · have hsame : startOptimizer s = s := by
      unfold startOptimizer
      split
      · next h1 h2 h3 => exact absurd ⟨_, _, h1, h2, h3⟩ hstart
      · rfl
    rw [hsame]
    exact Keeps.refl b s

theorem settle_keeps (b : Nat) (s0 s : State) : Keeps b s (settle s0 s) := by
  refine (startOptimizer_keeps b s).trans (keeps_of_eq ?_ (by simp) (settle_records s0 s) (by rw [settle_optimizer]))
  rw [settle_lengths]
  simp [State.lengths]

end Sys2Proof.Machine
end

section
/-! Every step keeps the record table sound (O7), and leaves a DISPATCHED committed record standing until it is freed (O60): the
operations of the blocks, effect by effect. -/

namespace Sys2Proof.Machine

/-! ### Writing one record -/

theorem setRecord_lengths (k : Nat) (r : Record) (s : State) : (s.setRecord k r).lengths = s.lengths := by
  simp [State.lengths, State.setRecord]

theorem mergeSlice_kept (ws : List Word) (h : Nat) (r : Record) (c : Slice) : mergeSlice ws h r c =
    { r with segments := (mergeSlice ws h r c).segments, length := (mergeSlice ws h r c).length, long := (mergeSlice ws h r c).long } := by
  simp only [mergeSlice]
  repeat' split
  all_goals rfl

theorem mergeSlices_kept (ws : List Word) (h : Nat) (slices : List Slice) (r : Record) : slices.foldl (mergeSlice ws h) r =
    { r with
      segments := (slices.foldl (mergeSlice ws h) r).segments
      length := (slices.foldl (mergeSlice ws h) r).length
      long := (slices.foldl (mergeSlice ws h) r).long } := by
  induction slices generalizing r with
  | nil => rfl
  | cons c slices ih => rw [List.foldl_cons, ih (mergeSlice ws h r c), mergeSlice_kept]

/-- R49: a merge writes the measurement of a record and nothing else. -/
theorem mergeFrame_kept (ws : List Word) (h : Nat) (slices : List Slice) (r : Record) : mergeFrame ws h slices r =
    { r with
      contributed := r.contributed ||| BitVec.twoPow 6 h
      segments := (mergeFrame ws h slices r).segments
      length := (mergeFrame ws h slices r).length
      long := (mergeFrame ws h slices r).long } :=
  mergeSlices_kept ws h slices _

theorem mergeFrame_state (ws : List Word) (h : Nat) (slices : List Slice) (r : Record) :
    (mergeFrame ws h slices r).state = r.state ∧ (mergeFrame ws h slices r).lug = r.lug ∧ (mergeFrame ws h slices r).held = r.held := by
  rw [mergeFrame_kept]
  exact ⟨rfl, rfl, rfl⟩

theorem applyPart_lug (r : Record) (kind : OverrideKind) (arg : Word) : (r.applyPart kind arg).lug = r.lug := by
  cases kind <;> rfl

theorem applyPart_records (k : Nat) (kind : OverrideKind) (arg addr : Word) (tag : BitVec 15) (s : State) :
    (applyPart k kind arg addr tag s).tracker.records = s.tracker.records.set k ((s.record k).applyPart kind arg) := by
  simp [applyPart, State.setRecord]

theorem applyPart_lengths (k : Nat) (kind : OverrideKind) (arg addr : Word) (tag : BitVec 15) (s : State) :
    (applyPart k kind arg addr tag s).lengths = s.lengths := by
  simp [State.lengths, applyPart, State.setRecord]

/-- R114-R116: an override's part is taken into a live record that is not DISPATCHED and committed. -/
theorem applyPart_keeps {b k : Nat} (kind : OverrideKind) (arg addr : Word) (tag : BitVec 15) {s : State}
    (hlive : (s.record k).live = true) (hopen : (s.record k).state = .dispatched → (s.record k).committed = false) :
    Keeps b s (applyPart k kind arg addr tag s) :=
  keeps_update (applyPart_lengths ..) (by simp) (applyPart_records ..) (by simp) (applyPart_state ..) (applyPart_lug ..)
    (.of_open _ hlive hopen)

/-! ### Leaving the table -/

theorem freeRecord_keeps (b k : Nat) (s : State) : Keeps b s (freeRecord k s) := by
  obtain ⟨-, -, -, htrims, hshadow, hrecords, hqueue⟩ := freeRecord_values k s
  have htables : (freeRecord k s).intake.tables.length = s.intake.tables.length := by simp [freeRecord, State.setRecord]
  exact keeps_leave (by simp [State.lengths, hrecords, htrims, htables]) (by simp) hrecords hqueue nofun nofun (.to_blank _)

/-- What comes before the freeing at a retire moves no record. -/
theorem keeps_retire {b : Nat} (k : Nat) {s t : State} (hl : t.lengths = s.lengths) (hlug : t.tracker.lug = s.tracker.lug)
    (hrecords : t.tracker.records = s.tracker.records) (hqueue : t.optimizer.queue = s.optimizer.queue) :
    Keeps b s (freeRecord k t) :=
  (keeps_of_eq hl hlug hrecords hqueue).trans (freeRecord_keeps b k t)

theorem judgeSort_keeps (b txn : Nat) (m : Master) (k : Nat) (s : State) : Keeps b s (judgeSort txn m k s) := by
  simp only [judgeSort]
  split
  · exact keeps_of_eq (by simp [State.lengths]) (by simp) (by simp) (by simp)
  · refine keeps_retire k ?_ ?_ ?_ ?_
    all_goals
      repeat' split
      all_goals simp [State.lengths]

theorem sortReadSlot_keeps (b txn : Nat) (m : Master) (k : Nat) (s : State) : Keeps b s (sortReadSlot txn m k s) := by
  unfold sortReadSlot
  repeat' split
  · exact judgeSort_keeps b txn m k s
  · exact keeps_of_eq rfl rfl rfl rfl
  · exact keeps_of_eq (by simp [State.lengths]) (by simp) (by simp) (by simp)

theorem judgeWaiting_keeps (b fuel : Nat) (s : State) : Keeps b s (judgeWaiting fuel s) := by
  induction fuel generalizing s with
  | zero => exact .refl b s
  | succ fuel ih =>
    unfold judgeWaiting
    split
    · exact .refl b s
    · next w rest _ =>
      split
      · refine .trans ?_ (ih _)
        refine .trans ?_ (judgeSort_keeps b w.txn w.master w.slot _)
        exact keeps_of_eq rfl rfl rfl rfl
      · exact .refl b s

/-! ### Trim reads, hold expiry, decisions -/

theorem holdRead_keeps (b txn : Nat) (m : Master) (k : Nat) (s : State) : Keeps b s (holdRead txn m k s) := by
  refine keeps_of_eq ?_ (by simp) (by simp) (by simp)
  unfold holdRead
  split <;> simp [State.lengths]

theorem trimReadSlot_keeps (b txn : Nat) (m : Master) (k : Nat) (s : State) : Keeps b s (trimReadSlot txn m k s) := by
  simp only [trimReadSlot]
  split
  · exact keeps_of_eq (by simp [State.lengths]) (by simp) (by simp) (by simp)
  · next d hstate _ =>
    have hlive : (s.record k).live = true := by simp [Record.live, hstate]
    refine keeps_unqueued (k := k) (r := { s.record k with state := .dispatched, committed := true })
      (by simp [State.lengths, State.setRecord]) (by simp [State.setRecord]) (by simp [State.setRecord]) (by simp [State.setRecord])
      (by simp [hstate]) (by simp) (fun _ => ⟨hlive, rfl⟩) (.of_open _ hlive (by simp [hstate]))
  · exact keeps_of_eq (by simp [State.lengths]) (by simp) (by simp) (by simp)
  · exact holdRead_keeps b txn m k s

/-- R75, R84, R139: a decision is written into one record, which is DECIDED, or DISPATCHED when held reads take it. -/
theorem writeDecision_records (k : Nat) (d : Decision) (segs : List Segment) (forced : Bool) (s : State) :
    (writeDecision k d segs forced s).tracker.records = s.tracker.records.set k
      (if hasHeld s k then { (s.record k).decide d segs forced with state := .dispatched, committed := true }
        else (s.record k).decide d segs forced) := by
  simp only [writeDecision]
  split <;> simp [State.setRecord]

theorem writeDecision_lengths (k : Nat) (d : Decision) (segs : List Segment) (forced : Bool) (s : State) :
    (writeDecision k d segs forced s).lengths = s.lengths := by
  simp [State.lengths, writeDecision_records]

theorem writeDecision_keeps {b k : Nat} (d : Decision) (segs : List Segment) (forced : Bool) {s : State}
    (hlive : (s.record k).live = true) (hqueued : (s.record k).state ≠ .queued)
    (hopen : (s.record k).state = .dispatched → (s.record k).committed = false) : Keeps b s (writeDecision k d segs forced s) := by
  refine keeps_unqueued (writeDecision_lengths ..) (by simp) (writeDecision_records ..) (by simp) hqueued ?_ (fun _ => ⟨hlive, ?_⟩)
    (.of_open _ hlive hopen)
  all_goals split <;> simp [Record.decide]

theorem forceDecision_records (k : Nat) (own : Bool) (s : State) : (forceDecision k own s).tracker.records =
    (writeDecision k (forcedDecision s.shadow.words (s.record k)) (gradedSegments s.shadow.words (s.record k)) true s).tracker.records := by
  simp only [forceDecision]
  split <;> simp

theorem forceDecision_lengths (k : Nat) (own : Bool) (s : State) : (forceDecision k own s).lengths = s.lengths := by
  simp [State.lengths, forceDecision_records, writeDecision_records]

theorem forceDecision_keeps {b k : Nat} (own : Bool) {s : State} (hlive : (s.record k).live = true)
    (hqueued : (s.record k).state ≠ .queued) (hopen : (s.record k).state = .dispatched → (s.record k).committed = false) :
    Keeps b s (forceDecision k own s) := by
  refine (writeDecision_keeps _ _ _ hlive hqueued hopen).trans (keeps_of_eq ?_ (by simp) (forceDecision_records k own s) (by simp))
  rw [forceDecision_lengths, writeDecision_lengths]

theorem expireHold_keeps (b : Nat) (h : HeldRead) (s : State) : Keeps b s (expireHold h s) := by
  simp only [expireHold]
  split
  · next hcond =>
    have hundecided : (s.record h.slot).state.undecided = true := by simpa using (Bool.and_eq_true_iff.1 hcond).1
    have hlive : (s.record h.slot).live = true := by
      cases hstate : (s.record h.slot).state <;> simp [hstate, RecordState.undecided, Record.live] at hundecided ⊢
    refine keeps_leave (k := h.slot) (r := (s.record h.slot).fallBack (fallbackDecision s.shadow.words))
      (by simp [State.lengths, State.setRecord]) (by simp [State.setRecord]) (by simp [State.setRecord])
      (by simp [State.setRecord, endWork_queue]) nofun (fun _ => ⟨hlive, rfl⟩) (.of_open _ hlive fun hstate => ?_)
    rw [hstate] at hundecided
    cases hundecided
  · exact .refl b s

/-! ### Overrides -/

/-- R112: an override is applied to the live, uncommitted record of its lug. -/
theorem lugJudgement_none {s : State} {lug : Lug} (h : lugJudgement s lug = none) :
    position s.tracker.lug lug < commitPosition s.shadow.words ∧ (s.record (slotOf lug)).live = true ∧
      (s.record (slotOf lug)).lug = lug ∧ (s.record (slotOf lug)).committed = false := by
  simp only [lugJudgement] at h
  repeat' split at h
  all_goals cases h
  next hnear hmiss hcommitted =>
    simp only [Bool.or_eq_true, Bool.not_eq_true', bne_iff_ne, not_or, Bool.not_eq_false, not_not] at hmiss
    exact ⟨hnear, hmiss.1, hmiss.2, Bool.eq_false_iff.2 hcommitted⟩

theorem acceptRescan_keeps {b k : Nat} {s : State} (hlive : (s.record k).live = true)
    (hopen : (s.record k).state = .dispatched → (s.record k).committed = false) : Keeps b s (acceptRescan k s) := by
  refine keeps_leave (k := k) (r := (s.record k).reopen) ?_ ?_ ?_ ?_ nofun (fun _ => ⟨hlive, rfl⟩) (.of_open _ hlive hopen)
  all_goals simp [acceptRescan, State.setRecord, State.lengths, leaveDecisionQueue]

theorem requeue_keeps (b k : Nat) (s : State) : Keeps b s (requeue k s) := by
  have hrecord : (abandonRun k s).record k = s.record k := record_of_records (by simp) k
  unfold requeue
  split
  · next hstate =>
    refine (keeps_of_eq (by simp [State.lengths]) (by simp) (by simp) (by simp)).trans (joinQueue_keeps ?_ ?_ ?_)
    all_goals simp [hrecord, hstate, Record.live]
  · next hstate => exact joinQueue_keeps (by simp [hstate, Record.live]) (by simp [hstate]) (by simp [hstate])
  · exact .refl b s

/-- R115: the forced decision of a TRIM or CHIP: its part is taken, the work of the slot ends, and the decision is written. -/
theorem applyForced_keeps {b k : Nat} (kind : OverrideKind) (arg addr : Word) (tag : BitVec 15) {s : State}
    (hlive : (s.record k).live = true) (hopen : (s.record k).state = .dispatched → (s.record k).committed = false) :
    Keeps b s (forceDecision k true (abandonRun k (leaveDecisionQueue k (applyPart k kind arg addr tag s)))) := by
  generalize hx : abandonRun k (leaveDecisionQueue k (applyPart k kind arg addr tag s)) = x
  have hrecords : x.tracker.records = s.tracker.records.set k ((s.record k).applyPart kind arg) := by
    simp [← hx, applyPart_records]
  have hqueue : x.optimizer.queue = s.optimizer.queue.filter fun e => e.slot != k := by
    simp [← hx, leaveDecisionQueue]
  have hlengths : x.lengths = s.lengths := by
    rw [← applyPart_lengths k kind arg addr tag s, ← hx]
    simp [State.lengths]
  have hlug : x.tracker.lug = s.tracker.lug := by simp [← hx]
  have hrecord : (x.record k).lug = (s.record k).lug := by
    rcases record_of_set hrecords k with h | ⟨-, h⟩ <;> rw [h]
    exact applyPart_lug ..
  refine keeps_leave (k := k) ((forceDecision_lengths ..).trans hlengths) (by simpa using hlug)
    (by rw [forceDecision_records, writeDecision_records, hrecords, List.set_set]) (by simpa using hqueue) ?_ (fun _ => ⟨hlive, ?_⟩)
    (.of_open _ hlive hopen)
  · split <;> simp [Record.decide]
  · split <;> simp [Record.decide, hrecord]

theorem applyOverride_keeps {b k : Nat} (kind : OverrideKind) (arg addr : Word) (tag : BitVec 15) {s : State}
    (hlive : (s.record k).live = true) (hopen : (s.record k).state = .dispatched → (s.record k).committed = false) :
    Keeps b s (applyOverride kind k arg addr tag s).1 := by
  simp only [applyOverride]
  split
  · split
    · exact .refl b s
    · exact applyPart_keeps kind arg addr tag hlive hopen
  · split
    · exact acceptRescan_keeps hlive hopen
    · exact applyForced_keeps _ arg addr tag hlive hopen
    · exact applyForced_keeps _ arg addr tag hlive hopen
    · exact (applyPart_keeps kind arg addr tag hlive hopen).trans (requeue_keeps b k _)

theorem judgeBoard_keeps (b : Nat) (kind : OverrideKind) (lug : Lug) (arg addr : Word) (tag : BitVec 15) (s : State) :
    Keeps b s (judgeBoard kind lug arg addr tag s).1 := by
  unfold judgeBoard
  split
  · next h =>
    obtain ⟨-, hlive, -, hcommitted⟩ := lugJudgement_none h
    exact applyOverride_keeps kind arg addr tag hlive fun _ => hcommitted
  · exact keeps_of_eq rfl rfl rfl rfl
  · exact .refl b s

theorem emptyBin_lengths (n : Nat) (s : State) : (emptyBin n s).lengths = s.lengths := by
  simp [State.lengths, emptyBin]

/-- R170: every flag is acknowledged or left, so that there are six. -/
theorem acknowledgeFlags_keeps (b : Nat) (mask : BitVec 6) (s : State) : Keeps b s (acknowledgeFlags mask s) := .of_within fun h =>
  keeps_of_eq (by simp [State.lengths, acknowledgeFlags, h.sized.flags]) rfl rfl rfl

theorem judgeEntry_keeps (b : Nat) (p : Post) (w0 w1 w2 : Word) (s : State) : Keeps b s (judgeEntry p w0 w1 w2 s).1 := by
  have hboard : ∀ kind, Keeps b s (judgeBoard kind (lugTag w0) w1 p.addr p.tag s).1 := fun kind =>
    judgeBoard_keeps b kind (lugTag w0) w1 p.addr p.tag s
  simp only [judgeEntry]
  split
  · split
    · exact .refl b s
    · split
      · exact .refl b s
      · split
        · exact keeps_of_eq (emptyBin_lengths ..) (by simp) (by simp) (by simp)
        · unfold judgeShift
          split
          · exact .refl b s
          · exact keeps_of_eq (by simp [State.lengths]) (by simp) (by simp) (by simp)
        · exact acknowledgeFlags_keeps b _ s
        · exact keeps_of_eq rfl rfl rfl rfl
        · unfold judgeSawTest
          split
          · exact .refl b s
          · exact keeps_of_eq rfl rfl rfl rfl
        · unfold judgeLineReset
          split
          · exact keeps_of_eq rfl rfl rfl rfl
          · exact .refl b s
        all_goals exact hboard _
  · exact keeps_of_eq (by simp [State.lengths]) (by simp) (by simp) (by simp)

theorem completeReadback_keeps (b : Nat) (w0 w1 w2 : Word) (s : State) : Keeps b s (completeReadback w0 w1 w2 s) := by
  simp only [completeReadback]
  split
  · next p rest _ _ =>
    refine .trans (t := { s with overrides := { s.overrides with fifo := rest, readback := .idle } }) (keeps_of_eq rfl rfl rfl rfl) ?_
    refine (judgeEntry_keeps b p w0 w1 w2 _).trans ((settle_keeps b s _).trans ?_)
    exact keeps_of_eq (by simp [State.lengths]) (by simp) (by simp) (by simp)
  · exact keeps_of_eq rfl rfl rfl rfl

/-! ### Frames and closes -/

theorem leaveByJudgement_keeps (b : Nat) (e : IntakeRun) (s : State) : Keeps b s (leaveByJudgement e s) :=
  keeps_of_eq (by simp [State.lengths]) (by simp) (by simp) (by simp)

theorem mergesInto_record {s : State} {lug : Lug} (h : mergesInto s lug = true) : (s.record (slotOf lug)).lug = lug ∧
    ((s.record (slotOf lug)).state = .scanning ∨ (s.record (slotOf lug)).state = .closing) := by
  simp only [mergesInto, Bool.and_eq_true, Bool.or_eq_true, beq_iff_eq] at h
  exact ⟨h.1, h.2.imp_right And.left⟩

theorem live_of_measured {r : Record} (h : r.state = .scanning ∨ r.state = .closing) :
    r.live = true ∧ (r.state = .dispatched → r.committed = false) := by
  rcases h with h | h <;> simp [Record.live, h]

/-- A record whose frames are still taken in changes, but for its lug and state. -/
theorem keeps_measured {b : Nat} {s t : State} {k : Nat} {r : Record} (hl : t.lengths = s.lengths)
    (hlug : t.tracker.lug = s.tracker.lug) (hset : t.tracker.records = s.tracker.records.set k r)
    (hqueue : t.optimizer.queue = s.optimizer.queue) (hmeasured : (s.record k).state = .scanning ∨ (s.record k).state = .closing)
    (hstate : r.state = (s.record k).state) (heq : r.lug = (s.record k).lug) : Keeps b s t :=
  have ⟨hlive, hopen⟩ := live_of_measured hmeasured
  keeps_update hl hlug hset hqueue hstate heq (.of_open _ hlive hopen)

theorem mergeFresh_keeps (b : Nat) (e : IntakeRun) {lug : Lug} {s : State} (h : mergesInto s lug = true) :
    Keeps b s (mergeFresh e lug s) := by
  obtain ⟨-, hmeasured⟩ := mergesInto_record h
  obtain ⟨hstate, hlug, -⟩ := mergeFrame_state s.shadow.words e.head e.frame (s.record (slotOf lug))
  simp only [mergeFresh]
  split
  · exact keeps_measured (setRecord_lengths ..) (by simp [State.setRecord]) rfl (by simp [State.setRecord]) hmeasured hstate hlug
  · exact keeps_measured (by simp [State.lengths, State.setRecord]) (by simp [State.setRecord]) (by simp [State.setRecord])
      (by simp [State.setRecord]) hmeasured hstate hlug

theorem discardFresh_keeps (b : Nat) (e : IntakeRun) (lug : Lug) (s : State) : Keeps b s (discardFresh e lug s) := by
  refine keeps_of_eq ?_ (by simp) (by simp) (by simp)
  simp only [discardFresh]
  split <;> simp [State.lengths]

theorem judgeFresh_keeps (b : Nat) (e : IntakeRun) (s : State) : Keeps b s (judgeFresh e s) := by
  simp only [judgeFresh]
  split
  · exact keeps_of_eq (by simp [State.lengths]) (by simp) (by simp) (by simp)
  · split
    · next h =>
      refine (mergeFresh_keeps b e h).trans (.trans ?_ (leaveByJudgement_keeps b e _))
      exact keeps_of_eq (by simp [State.lengths]) (by simp) (by simp) (by simp)
    · exact (discardFresh_keeps b e _ s).trans (leaveByJudgement_keeps b e _)

theorem failReadBack_keeps (b : Nat) (e : IntakeRun) {lug : Lug} {s : State} (h : (s.record (slotOf lug)).state = .closing) :
    Keeps b s (failReadBack e lug s) := by
  refine keeps_measured (k := slotOf lug) (r := { s.record (slotOf lug) with
    rescanFailed := true, held := (s.record (slotOf lug)).held.filter fun p => p != (e.head, e.slot) }) ?_ (by simp) ?_ (by simp)
    (.inr h) rfl rfl
  all_goals simp [failReadBack, State.lengths, State.setRecord]

theorem judgeReadBack_keeps (b : Nat) (e : IntakeRun) (lug : Lug) (s : State) : Keeps b s (judgeReadBack e lug s) := by
  simp only [judgeReadBack]
  split
  · next h =>
    obtain ⟨hstate, hlug, -⟩ := mergeFrame_state s.shadow.words e.head e.frame (s.record (slotOf lug))
    split
    · refine .trans (.trans (keeps_measured (setRecord_lengths ..) ?_ rfl ?_ (.inr h.1) hstate hlug)
        (keeps_of_eq (by simp [State.lengths]) (by simp) (by simp) (by simp))) (leaveByJudgement_keeps b e _)
      all_goals simp [State.setRecord]
    · exact (failReadBack_keeps b e h.1).trans (leaveByJudgement_keeps b e _)
  · exact leaveByJudgement_keeps b e s

theorem completeIntake_keeps (b : Nat) (s : State) : Keeps b s (completeIntake s) := by
  simp only [completeIntake]
  split
  · exact .refl b s
  · split
    · exact keeps_of_eq rfl rfl rfl rfl
    · refine .trans (t := { s with intake := { s.intake with engine := none } }) (keeps_of_eq rfl rfl rfl rfl) ?_
      refine .trans ?_ (settle_keeps b s _)
      split
      · exact judgeFresh_keeps b _ _
      · exact judgeReadBack_keeps b _ _ _

theorem reportSilent_lengths (r : Record) (s : State) : (reportSilent r s).lengths = s.lengths := by
  unfold reportSilent
  split <;> simp [State.lengths]

theorem finalise_state (ws : List Word) (r : Record) : (finalise ws r).state = r.state ∧ (finalise ws r).lug = r.lug := ⟨rfl, rfl⟩

/-- R56, R57: the results of a close are written into record `k`. -/
theorem writeClose_keeps {b k : Nat} {r : Record} {s : State} (hclosing : (s.record k).state = .closing)
    (hstate : r.state = (s.record k).state) (hlug : r.lug = (s.record k).lug) :
    Keeps b s (reportSilent r (s.setRecord k r)) ∧ ((reportSilent r (s.setRecord k r)).record k).state = .closing := by
  have hset : (reportSilent r (s.setRecord k r)).tracker.records = s.tracker.records.set k r := by simp [State.setRecord]
  refine ⟨keeps_measured ((reportSilent_lengths ..).trans (setRecord_lengths ..)) (by simp [State.setRecord]) hset
    (by simp [State.setRecord]) (.inr hclosing) hstate hlug, ?_⟩
  rcases record_of_set hset k with h | ⟨-, h⟩ <;> rw [h]
  · exact hclosing
  · exact hstate.trans hclosing

/-- R58: a record whose close has ended takes its forced decision, or joins the decision queue. -/
theorem leaveClosing_keeps {b k : Nat} {s : State} (hclosing : (s.record k).state = .closing) (forced : Bool) :
    Keeps b s (if forced then forceDecision k false s else joinQueue k s) := by
  obtain ⟨hlive, hopen⟩ := live_of_measured (.inr hclosing)
  have hqueued : (s.record k).state ≠ .queued := by simp [hclosing]
  cases forced
  · exact joinQueue_keeps hlive hqueued hopen
  · exact forceDecision_keeps false hlive hqueued hopen

theorem completeClose_keeps (b : Nat) (s : State) : Keeps b s (completeClose s) := by
  simp only [completeClose]
  split
  · exact .refl b s
  · next c rest _ =>
    refine .trans (t := { s with measure := { s.measure with finalising := rest } }) (keeps_of_eq rfl rfl rfl rfl) ?_
    generalize { s with measure := { s.measure with finalising := rest } } = x
    split
    · next hclosing =>
      obtain ⟨hstate, hlug⟩ := finalise_state s.shadow.words (x.record c.slot)
      obtain ⟨hkeeps, hclosing'⟩ := writeClose_keeps (b := b) hclosing.1 hstate hlug
      exact hkeeps.trans ((leaveClosing_keeps hclosing' _).trans (settle_keeps b s _))
    · exact .refl b x

theorem completeRun_keeps (b : Nat) (s : State) : Keeps b s (completeRun s) := by
  simp only [completeRun]
  split
  · exact .refl b s
  · next run _ =>
    refine .trans (t := { s with optimizer := { s.optimizer with run := none } }) (keeps_of_eq rfl rfl rfl rfl) ?_
    generalize { s with optimizer := { s.optimizer with run := none } } = x
    split
    · next hrun =>
      refine (writeDecision_keeps (k := run.slot) run.decision (gradedSegments run.tables run.record) run.record.isForced
        (by simp [Record.live, hrun.1]) (by simp [hrun.1]) (by simp [hrun.1])).trans (.trans ?_ (settle_keeps b s _))
      refine keeps_of_eq ?_ ?_ ?_ ?_
      all_goals split <;> simp [State.lengths]
    · exact settle_keeps b s x

end Sys2Proof.Machine
end

section
/-! The record table through the bus path, a lug event, the completions of the port and the changes of part state, and with them O7 and
O60. -/

namespace Sys2Proof.Machine

/-! ### The bus path -/

theorem foldl_keeps_table {α : Type} {b : Nat} {f : State → α → State} (h : ∀ s x, Keeps b s (f s x)) (l : List α) (s : State) :
    Keeps b s (l.foldl f s) :=
  foldl_invariant f l s (Keeps b s) (fun t x ht => ht.trans (h t x)) (.refl b s)

theorem moveSlot_lengths (h txn : Nat) (x : SlotBeat) (s : State) : (moveSlot h txn x s).lengths = s.lengths := by
  simp only [moveSlot]
  repeat' split
  all_goals simp [State.lengths]

theorem frameWrite_keeps (b txn : Nat) (e : WindowEntry) (h : Nat) (w : BusWrite) (s : State) : Keeps b s (frameWrite txn e h w s) := by
  have hmove : ∀ bs : List SlotBeat, Keeps b s (bs.foldl (fun s b => moveSlot h txn b s) (pass txn (.write w) false s)) := fun bs =>
    .trans (t := pass txn (.write w) false s) (keeps_of_eq rfl rfl rfl rfl)
      (foldl_keeps_table (fun s x => keeps_of_eq (moveSlot_lengths ..) (by simp) (by simp) (by simp)) bs _)
  have hrefuse : ∀ n a c, Keeps b s (emitNow .frame n a c (refuse txn (.write w) s)) := fun n a c =>
    keeps_of_eq (by simp [State.lengths]) (by simp) (by simp) (by simp)
  simp only [frameWrite]
  repeat' split
  · exact hrefuse ..
  · exact hmove _
  · exact hrefuse ..
  · exact hmove _

theorem loseTables_keeps (b : Nat) (hs : List Nat) (s : State) : Keeps b s (loseTables hs s) := by
  simp only [loseTables]
  split
  · exact .refl b s
  · refine keeps_map (fun r => { r with held := r.held.filter fun p => !hs.contains p.1 }) ?_ (by simp) ?_ (by simp) rfl
      fun r => ⟨rfl, rfl, .held r _ rfl⟩
    all_goals simp [State.lengths]

theorem frameWindowsChanged_keeps (b : Nat) (old : List WindowEntry) (s : State) : Keeps b s (frameWindowsChanged old s) := by
  simp only [frameWindowsChanged]
  refine (loseTables_keeps b _ s).trans (keeps_of_eq ?_ rfl rfl rfl)
  have hfold : ∀ (hs : List Nat) (ts : List (Option (List SlotState))),
      (hs.foldl (fun ts h => ts.set h (freshTable s.shadow.entries h)) ts).length = ts.length := fun hs => by
    induction hs with
    | nil => exact fun _ => rfl
    | cons h hs ih => exact fun ts => (ih _).trans (List.length_set ..)
  simp [State.lengths, hfold]

theorem windowsChanged_keeps (b : Nat) (old : List WindowEntry) (s : State) : Keeps b s (windowsChanged old s) := by
  simp only [windowsChanged]
  refine (frameWindowsChanged_keeps b old s).trans ?_
  split
  · exact keeps_of_eq (by simp [State.lengths]) (by simp) (by simp) (by simp)
  · exact .refl b _

theorem gradingWrite_keeps (b : Nat) (s : State) : Keeps b s (gradingWrite s) := by
  simp only [gradingWrite]
  refine (foldl_keeps_table (fun s k => requeue_keeps b k s) (sentBack s) s).trans ?_
  split
  · exact .refl b _
  · exact keeps_of_eq (by simp [State.lengths]) (by simp) (by simp) (by simp)

theorem followWords_length (ws : List Word) (c : List (Nat × Word)) : (followWords ws c).length = ws.length := by
  unfold followWords
  induction c generalizing ws with
  | nil => rfl
  | cons p c ih => exact (ih _).trans (List.length_set ..)

/-- R183: the shadow and the filter times follow a write. -/
theorem withSetup_keeps (b : Nat) {s : State} {ws : List Word} {es : List WindowEntry} (hws : ws.length = s.shadow.words.length)
    (hes : es.length = 16) : Keeps b s (s.withSetup ws es) := .of_within fun h =>
  keeps_of_eq (by simp [State.lengths, State.withSetup, hws, hes, h.sized.entries]) rfl rfl rfl

theorem emitAll_keeps (b : Nat) (es : List Event) (s : State) : Keeps b s (emitAll es s) :=
  foldl_keeps_table (fun s e => keeps_of_eq (by simp [State.lengths]) (by simp) (by simp) (by simp)) es s

theorem eventWindowChanged_keeps (b : Nat) (old : List WindowEntry) (s : State) : Keeps b s (eventWindowChanged old s) :=
  keeps_of_eq (by simp [State.lengths]) (by simp) (by simp) (by simp)

theorem followSetup_keeps (b : Nat) (w : BusWrite) (s : State) : Keeps b s (followSetup w s) := by
  generalize hws : followWords s.shadow.words (setupCarried w) = ws
  generalize hes : followEntries s.shadow.entries ws (setupCarried w) = es
  have hset : Keeps b s (s.withSetup ws es) :=
    withSetup_keeps b (hws ▸ followWords_length ..) (by simp [← hes, followEntries])
  rw [followSetup_eq rfl hws.symm hes.symm]
  extract_lets t u
  have hwindows : Keeps b s u := hset.trans ((eventWindowChanged_keeps b s.shadow.entries _).trans
    ((emitAll_keeps b _ _).trans (windowsChanged_keeps b s.shadow.entries _)))
  split
  · exact hwindows.trans (gradingWrite_keeps b u)
  · exact hwindows

theorem handle_keeps (b txn : Nat) (x : Transaction) (r : Region) (s : State) : Keeps b s (handle txn x r s) := by
  have hpass : Keeps b s (pass txn x false s) := keeps_of_eq rfl rfl rfl rfl
  simp only [handle]
  split
  · exact hpass.trans (followSetup_keeps b _ _)
  · split
    · exact frameWrite_keeps ..
    · exact keeps_of_eq (by simp [State.lengths]) (by simp) (by simp) (by simp)
    · exact keeps_of_eq (by simp [State.lengths]) (by simp) (by simp) (by simp)
    all_goals exact hpass
  · split
    · exact trimReadSlot_keeps ..
    · split
      · exact sortReadSlot_keeps ..
      · exact hpass
  · exact hpass

theorem judge_keeps (b txn : Nat) (x : Transaction) (s : State) : Keeps b s (judge txn x s) := by
  refine .trans ?_ (settle_keeps b s _)
  split
  · exact keeps_of_eq (by simp [State.lengths, emitAccess, refuse, answer]) (by simp [emitAccess]) (by simp [emitAccess])
      (by simp [emitAccess])
  · exact handle_keeps ..

theorem arrive_keeps (b : Nat) (x : Transaction) (s : State) : Keeps b s (arrive x s) := by
  rw [arrive_eq]
  repeat' split
  any_goals exact keeps_of_eq rfl rfl rfl rfl
  exact .trans (t := s.numbered) (keeps_of_eq rfl rfl rfl rfl) (judge_keeps ..)

/-! ### A lug event -/

theorem position_next {c lug : Lug} (h : position c lug ≤ 30) : position (c + 1) lug = position c lug + 1 := by
  have hone : (1 : Lug).toNat = 1 := rfl
  simp only [position, BitVec.toNat_sub, BitVec.toNat_add, hone] at h ⊢
  omega

theorem lug_of_position {c lug : Lug} (h : position c lug = 31) : lug = c - 31#16 := by
  simp only [position] at h
  bv_omega

theorem slotOf_lt (lug : Lug) : slotOf lug < 32 := Nat.mod_lt _ (by decide)

/-- The lug number rises: every live record stands one position further on, and the queue keeps its order. -/
theorem tableWithin_next {s t : State} (h : s.TableWithin 30) (hl : t.lengths = s.lengths) (hlug : t.tracker.lug = s.tracker.lug + 1)
    (hrecords : t.tracker.records = s.tracker.records) (hqueue : t.optimizer.queue = s.optimizer.queue) : t.TableWithin 31 := by
  have hr : ∀ j, t.record j = s.record j := record_of_records hrecords
  refine ⟨sized_of_lengths hl h.sized, fun k hk hlive => ?_, queueAgrees_congr hqueue hr h.queue,
    { lugs := by simp only [hr, hqueue]; exact h.aged.lugs
      older := ?_
      named := by simp only [hr, hqueue]; exact h.aged.named }⟩
  · rw [hr] at hlive ⊢
    obtain ⟨hslot, hposition⟩ := h.placed k hk hlive
    exact ⟨hslot, by rw [hlug, position_next hposition]; omega⟩
  · have hnext : ∀ e ∈ s.optimizer.queue, position (s.tracker.lug + 1) e.lug = position s.tracker.lug e.lug + 1 := fun e he => by
      obtain ⟨hslot, -, hlive, heq⟩ := h.queued_of_entry he
      exact position_next (heq ▸ (h.placed _ hslot hlive).2)
    rw [hqueue, hlug]
    refine h.aged.older.imp_of_mem fun he hf hlt => ?_
    rw [hnext _ he, hnext _ hf]
    omega

theorem guardStep_flags_length (ended : Lug) (s : State) : (guardStep ended s).lineGuard.flags.length = 6 := by
  simp only [guardStep]
  rw [foldl_keeps _ _ _ (fun s => s.lineGuard.flags.length) fun s i => by simp]
  simp

theorem guardStep_keeps (b : Nat) (ended : Lug) (s : State) : Keeps b s (guardStep ended s) := .of_within fun h =>
  keeps_of_eq (by simp [State.lengths, guardStep_flags_length, h.sized.flags]) (by simp) (by simp) (by simp)

theorem beforeTracker_flags {o : LugOrder} {s : State} (h : s.Sized) : (beforeTracker o s).lengths = s.lengths := by
  have hflags := h.flags
  simp only [beforeTracker]
  repeat' split
  all_goals simp [State.lengths, guardStep_flags_length, hflags, nextLug]

theorem retireUnsorted_keeps (b k : Nat) (s : State) : Keeps b s (retireUnsorted k s) := by
  simp only [retireUnsorted]
  exact keeps_retire k (by simp [State.lengths]) (by simp) (by simp) (by simp)

/-- R12: the record brought to position 31 is retired, so that every live record stands at a position up to 30 again. -/
theorem retireStep_within {s : State} (h : s.TableWithin 31) :
    (retireStep s).TableWithin 30 ∧ ∀ j, Follows (s.record j) ((retireStep s).record j) := by
  have hkeeps : Keeps 31 s (retireStep s) := by
    simp only [retireStep]
    split
    · exact retireUnsorted_keeps 31 _ s
    · exact .refl 31 s
  obtain ⟨ht, hfollows⟩ := hkeeps.within h
  refine ⟨⟨ht.sized, fun j hj hlive => ⟨(ht.placed j hj hlive).1, ?_⟩, ht.queue, ht.aged⟩, hfollows⟩
  obtain ⟨hslot, hposition⟩ := ht.placed j hj hlive
  refine Nat.le_of_lt_succ (Nat.lt_of_le_of_ne hposition fun hfar => ?_)
  have hlug : (retireStep s).tracker.lug = s.tracker.lug := by simp
  rw [hlug] at hfar
  rw [lug_of_position hfar] at hslot
  have hk : j < s.tracker.records.length := by rw [h.sized.records]; exact hj
  by_cases hretires : retiresAt s (slotOf (s.tracker.lug - 31#16)) = true
  · have hset : (retireStep s).record j = Record.blank := by
      rw [hslot] at hretires
      simp [retireStep, hslot, hretires, State.record, retireUnsorted_records, hk]
    rw [hset] at hlive
    cases hlive
  · have hsame : retireStep s = s := by simp [retireStep, hretires]
    rw [hsame] at hlive hfar
    exact hretires (by simp [retiresAt, hslot, hlive, hfar, Config.retirePosition])

theorem closeStep_keeps (b : Nat) (s : State) : Keeps b s (closeStep s) := by
  simp only [closeStep]
  split
  · next h =>
    refine keeps_unqueued (k := slotOf (s.tracker.lug - 1#16)) (r := { s.record (slotOf (s.tracker.lug - 1#16)) with state := .closing })
      (by simp [State.lengths, State.setRecord]) (by simp [State.setRecord]) (by simp [State.setRecord]) (by simp [State.setRecord])
      (by simp [h.1]) (by simp) (fun _ => ⟨by simp [Record.live, h.1], rfl⟩)
      (.of_open _ (by simp [Record.live, h.1]) (by simp [h.1]))
  · exact .refl b s

theorem commitAt_follows (r : Record) (c : Lug) (n : Nat) : Follows r (r.commitAt c n) := by
  unfold Record.commitAt
  split
  · exact
      { stands := fun _ hcommitted => .inr ⟨r.held, by rw [← hcommitted]⟩
        blank := fun hblank => by next h => subst hblank; cases h.1
        free := fun h => h }
  · exact .refl r

theorem commitAt_lug (r : Record) (c : Lug) (n : Nat) : (r.commitAt c n).lug = r.lug := by
  unfold Record.commitAt
  split <;> rfl

theorem commitStep_keeps (b : Nat) (s : State) : Keeps b s (commitStep s) :=
  keeps_map (fun r => r.commitAt s.tracker.lug (commitPosition s.shadow.words)) (by simp [State.lengths, commitStep]) (by simp) rfl
    (by simp) rfl fun r => ⟨commitAt_lug .., commitAt_state .., commitAt_follows ..⟩

/-- R120: a SCANNING record takes its pending overrides, and stays one. -/
theorem applyWaiting_keeps {b k : Nat} (ps : List PendingOverride) {s : State} (h : (s.record k).state = .scanning) :
    Keeps b s (applyWaiting k ps s) := by
  unfold applyWaiting
  induction ps generalizing s with
  | nil => exact .refl b s
  | cons p ps ih =>
    refine (applyPart_keeps p.kind p.arg p.addr p.tag (by simp [Record.live, h]) (by simp [h])).trans (ih ?_)
    rcases record_of_set (applyPart_records k p.kind p.arg p.addr p.tag s) k with heq | ⟨-, heq⟩ <;> rw [heq]
    · exact h
    · rwa [applyPart_state]

/-- A record of the current lug is created in its slot, where none stands. -/
theorem setCreated_within {s t : State} (h : s.TableWithin 30) (hfree : (s.record (slotOf s.tracker.lug)).live = false)
    (hl : t.lengths = s.lengths) (hlug : t.tracker.lug = s.tracker.lug)
    (hset : t.tracker.records = s.tracker.records.set (slotOf s.tracker.lug) (Record.created s.tracker.lug))
    (hqueue : t.optimizer.queue = s.optimizer.queue) : t.TableWithin 30 := by
  have hr : ∀ j, t.record j = if j = slotOf s.tracker.lug then Record.created s.tracker.lug else s.record j := fun j =>
    (record_of_records (s := s.setRecord _ _) hset j).trans
      (record_setRecord s _ j _ (by rw [h.sized.records]; exact slotOf_lt _))
  have hnot : ∀ e ∈ s.optimizer.queue, e.slot ≠ slotOf s.tracker.lug := fun e he heq => by
    have hlive := (h.queued_of_entry he).2.2.1
    rw [heq, hfree] at hlive
    cases hlive
  refine ⟨sized_of_lengths hl h.sized, fun k hk => ?_, ⟨hqueue ▸ h.queue.1, fun e he => ?_⟩,
    { lugs := fun e he => ?_, older := by rw [hqueue, hlug]; exact h.aged.older, named := fun k hk => ?_ }⟩
  · rw [hr, hlug]
    split
    · next hkk => exact fun _ => ⟨hkk.symm, by simp [Record.created, position]⟩
    · exact h.placed k hk
  · rw [hqueue] at he
    rw [hr, if_neg (hnot e he)]
    exact h.queue.2 e he
  · rw [hqueue] at he
    rw [hr, if_neg (hnot e he)]
    exact h.aged.lugs e he
  · rw [hr, hqueue]
    split
    · exact fun hqueued => by cases hqueued
    · exact h.aged.named k hk

theorem createStep_within {s : State} (h : s.TableWithin 30) (hfree : (s.record (slotOf s.tracker.lug)).live = false) :
    (createStep s).TableWithin 30 := by
  simp only [createStep]
  split
  · generalize hx : State.setRecord _ _ _ = x
    have hset : x.tracker.records = s.tracker.records.set (slotOf s.tracker.lug) (Record.created s.tracker.lug) := by
      rw [← hx]; rfl
    have hwithin : x.TableWithin 30 := setCreated_within h hfree (by simp [← hx, State.lengths, State.setRecord]) (by rw [← hx]; rfl)
      hset (by rw [← hx]; rfl)
    refine ((applyWaiting_keeps _ ?_).within hwithin).1
    have hk : slotOf s.tracker.lug < s.tracker.records.length := by rw [h.sized.records]; exact slotOf_lt _
    simp [State.record, hset, hk, Record.created]
  · exact ((keeps_of_eq (s := s) (t := { s with overrides := { s.overrides with
      waiting := s.overrides.waiting.filter fun p => p.lug != s.tracker.lug } }) (by simp [State.lengths]) rfl rfl rfl).within h).1

/-- R8, R120: only the slot of the new lug is written. -/
theorem createStep_record {s : State} {j : Nat} (hj : j ≠ slotOf s.tracker.lug) : (createStep s).record j = s.record j := by
  simp only [createStep]
  split
  · unfold applyWaiting
    refine (foldl_keeps _ _ _ (fun t => t.record j) fun t p => ?_).trans ?_
    · rcases record_of_set (applyPart_records (slotOf s.tracker.lug) p.kind p.arg p.addr p.tag t) j with h | ⟨h, -⟩
      · exact h
      · exact absurd h hj
    · rcases record_of_set (s := s) (k := slotOf s.tracker.lug) (r := Record.created s.tracker.lug)
        (t := State.setRecord _ _ _) rfl j with h | ⟨h, -⟩
      · exact h
      · exact absurd h hj
  · rfl

theorem afterTracker_keeps (b : Nat) (o : LugOrder) (ended : Lug) (s : State) : Keeps b s (afterTracker o ended s) := by
  have hpacing : ∀ s, Keeps b s (pacingStep s) := fun s => keeps_of_eq rfl rfl rfl rfl
  simp only [afterTracker]
  repeat' split
  · exact .refl b s
  · exact hpacing s
  · exact guardStep_keeps b ended s
  · exact (hpacing s).trans (guardStep_keeps b ended _)

/-- A lug event keeps the table: the record at position 31 goes, and the new one is created where none stands. -/
theorem lugBlocks_within (o : LugOrder) {s : State} (h : s.TableWithin 30) :
    (lugBlocks o s).TableWithin 30 ∧ ∀ j, (s.record j).live = true → Follows (s.record j) ((lugBlocks o s).record j) := by
  have hbefore : (beforeTracker o s).TableWithin 31 := tableWithin_next h (beforeTracker_flags h.sized) (by simp) (by simp) (by simp)
  have hrecord : ∀ j, (beforeTracker o s).record j = s.record j := record_of_records (by simp)
  obtain ⟨hretired, hfollows⟩ := retireStep_within hbefore
  obtain ⟨hcommitted, hfollows'⟩ := (closeStep_keeps 30 _).trans (commitStep_keeps 30 _) |>.within hretired
  have hslots : ∀ j, Follows (s.record j) ((commitStep (closeStep (retireStep (beforeTracker o s)))).record j) := fun j =>
    hrecord j ▸ (hfollows j).trans (hfollows' j)
  have hlug : (commitStep (closeStep (retireStep (beforeTracker o s)))).tracker.lug = s.tracker.lug + 1 := by simp
  have hnew := next_slot_not_live h.placed
  have hcreated := createStep_within hcommitted (by rw [hlug]; exact (hslots _).free hnew)
  obtain ⟨hafter, hfollows''⟩ := (afterTracker_keeps 30 o s.tracker.lug _).within hcreated
  refine ⟨hafter, fun j hlive => .trans ?_ (hfollows'' j)⟩
  rw [createStep_record]
  · exact hslots j
  · rw [hlug]
    intro hj
    rw [hj, hnew] at hlive
    cases hlive

theorem lugEvent_within (o : LugOrder) {s : State} (h : s.TableWithin 30) :
    (lugEvent o s).TableWithin 30 ∧ ∀ j, (s.record j).live = true → Follows (s.record j) ((lugEvent o s).record j) := by
  obtain ⟨hblocks, hfollows⟩ := lugBlocks_within o h
  have hkeeps : Keeps 30 (lugBlocks o s) (lugEvent o s) := by
    rw [lugEvent_eq]
    exact (settle_keeps 30 s _).trans (keeps_of_eq (by simp [State.lengths]) (by simp) (by simp) (by simp))
  obtain ⟨hevent, hfollows'⟩ := hkeeps.within hblocks
  exact ⟨hevent, fun j hlive => (hfollows j hlive).trans (hfollows' j)⟩

/-! ### Part states and the port -/

theorem beginMirror_lengths (k : Nat) (s : State) : (beginMirror k s).lengths = s.lengths := by
  unfold beginMirror
  split <;> simp [State.lengths, State.setArea]

theorem setArea_lengths (k : Nat) (a : Area) (s : State) : (s.setArea k a).lengths = s.lengths := by
  simp [State.lengths, State.setArea]

theorem finishReset_lengths (s : State) : (finishReset s).lengths = s.lengths := by
  unfold finishReset
  split
  · simp [State.lengths]
  · rw [← beginMirror_lengths Config.statusArea s]
    simp [State.lengths]
  · exact setArea_lengths ..

theorem drainStep_keeps (b : Nat) (s : State) : Keeps b s (drainStep s) := by
  refine keeps_of_eq ?_ (by simp) (by simp) (by simp)
  unfold drainStep
  split
  · exact finishReset_lengths s
  · rfl

/-- R190: every record slot is FREE and the queue empty. -/
theorem tableWithin_cleared {b : Nat} {t : State} (hs : t.Sized) (hrecords : ∀ j, t.record j = Record.blank)
    (hqueue : t.optimizer.queue = []) : t.TableWithin b where
  sized := hs
  placed k _ hlive := by rw [hrecords] at hlive; cases hlive
  queue := by simp [State.QueueAgrees, hqueue]
  aged :=
    { lugs := by simp [hqueue]
      older := by simp [hqueue]
      named := fun k _ hk => by rw [hrecords] at hk; cases hk }

theorem clearForReset_record (m : Master) (s : State) (j : Nat) : (clearForReset m s).record j = Record.blank := by
  simp only [clearForReset, State.record, List.getD_eq_getElem?_getD, List.getElem?_replicate]
  split <;> rfl

theorem clearForReset_keeps (b : Nat) (m : Master) (s : State) : Keeps b s (clearForReset m s) := .mk fun h => by
  refine ⟨tableWithin_cleared ?_ (clearForReset_record m s) rfl, fun j => clearForReset_record m s j ▸ .to_blank _⟩
  rw [sized_iff_lengths]
  simp [State.lengths, clearForReset, Overrides.powerOn, Dispatch.powerOn, LineGuard.powerOn, h.sized.areas, h.sized.words,
    h.sized.entries, Config.recordSlots, Config.heads]

theorem startLineReset_keeps (b : Nat) (m : Master) (s : State) : Keeps b s (startLineReset m s) := by
  simp only [startLineReset]
  refine (clearForReset_keeps b m s).trans ?_
  split
  · exact keeps_of_eq (finishReset_lengths _) (by simp) (by simp) (by simp)
  · exact (settle_keeps b s _).trans (drainStep_keeps b _)

theorem lineResetDone_keeps (b : Nat) (s : State) : Keeps b s (lineResetDone s) := by
  unfold lineResetDone
  split
  · exact startLineReset_keeps ..
  · exact .refl b s

theorem mirrorClosed_keeps (b k : Nat) (s : State) : Keeps b s (mirrorClosed k s) := by
  refine keeps_of_eq ?_ (by simp) (by simp) (by simp)
  have hagain : ∀ s : State, (beginMirror k s).lengths = s.lengths := fun s => beginMirror_lengths k s
  simp only [mirrorClosed]
  split
  · rfl
  · exact setArea_lengths ..
  · have hwritten := (hagain _).trans (setArea_lengths k { s.area k with pub := .idle } s)
    split
    · rw [← hwritten]
      simp [State.lengths]
    · exact hwritten

theorem chassisDone_keeps (b txn : Nat) (m : Master) (format : Bool) (reply : Reply) (s : State) :
    Keeps b s (chassisDone txn m format reply s) := by
  refine keeps_of_eq ?_ (by simp) (by simp) (by simp)
  simp only [chassisDone, formatWordWritten]
  repeat' split
  all_goals simp [State.lengths, publishArea_areas_length]

theorem releaseHeld_keeps (b : Nat) (hs : List HeldWrite) (s : State) : Keeps b s (releaseHeld hs s) := by
  unfold releaseHeld
  refine foldl_keeps_table (fun s h => ?_) hs s
  exact judge_keeps b h.txn (.write h.write) s

/-- The entry to RUNNING, before it is settled: tally, part state, slot tables and filter times (R186). -/
def entered (s : State) : State :=
  let t := tallyAtRunning s
  let ws := t.shadow.words
  { t with
    shadow := { t.shadow with part := .running, load := none, held := [] }
    intake := { t.intake with tables := (List.range Config.heads).map (freshTable t.shadow.entries) }
    inputs := { lug := { t.inputs.lug with time := filterTime ws .lug }
                eye := { t.inputs.eye with time := filterTime ws .eye }
                almin := { t.inputs.almin with time := filterTime ws .almin } }
    tracker := { t.tracker with everRan := true } }

theorem enterRunning_eq (ld : Load) (s : State) :
    enterRunning ld s = releaseHeld s.shadow.held (startEvents ld.cause (settle s (entered s))) := rfl

theorem entered_keeps (b : Nat) (s : State) : Keeps b s (entered s) := .of_within fun h =>
  keeps_of_eq (by simp [State.lengths, entered, h.sized.tables, Config.heads]) (by simp [entered]) (by simp [entered])
    (by simp [entered])

/-- R196: the notice of the line reset is taken. -/
def State.withoutReport (s : State) : State := { s with shadow := { s.shadow with report := none } }

theorem emit_withoutReport (e : Event) (s : State) : emit e s.withoutReport = (emit e s).withoutReport := by
  simp only [emit_eq]
  rfl

theorem withoutReport_of_none {s : State} (h : s.shadow.report = none) : s.withoutReport = s := by
  rw [State.withoutReport, ← h]

/-- R196: event LINE_RESET, when a line reset stands to be reported. -/
theorem emitLineReset_eq (s : State) : emitLineReset s = emitAll (s.shadow.report.toList.map fun r =>
    event .line 3 s.tracker.lug (single r.master.toNat) (pair r.posts r.pendings)) s.withoutReport := by
  unfold emitLineReset
  split
  · next r h => simp [h, emitAll_cons, emitAll_nil, emitNow, State.withoutReport]
  · next h => simp [h, emitAll_nil, withoutReport_of_none h]

/-- R186, R196: the events of the entry to RUNNING, in order. -/
theorem startEvents_eq (cause : StartCause) (s : State) : startEvents cause s =
    emitAll (entryEvents s.tracker.lug s.shadow.words s.shadow.entries cause s.shadow.report) s.withoutReport := by
  generalize he : event .line 2 s.tracker.lug (setupWord s.shadow.words 0) (single cause.code) = e
  have hfirst : emitNow .line 2 (setupWord s.shadow.words 0) (single cause.code) s = emit e s := by rw [← he]; rfl
  simp only [startEvents, hfirst, emitLineReset_eq, setupErrors_foldl, entryEvents, he, emitAll_cons, emit_withoutReport,
    List.append_assoc, emitAll_append, (emitAll_blocksKept _ _).tracker, (emitAll_blocksKept _ _).shadow]
  simp [State.withoutReport, setupErrors, emitAll_append, (emitAll_blocksKept _ _).shadow]

theorem startEvents_keeps (b : Nat) (cause : StartCause) (s : State) : Keeps b s (startEvents cause s) := by
  rw [startEvents_eq]
  exact .trans (t := s.withoutReport) (keeps_of_eq rfl rfl rfl rfl) (emitAll_keeps b _ _)

theorem enterRunning_keeps (b : Nat) (ld : Load) (s : State) : Keeps b s (enterRunning ld s) := by
  rw [enterRunning_eq]
  exact (entered_keeps b s).trans ((settle_keeps b s _).trans ((startEvents_keeps b _ _).trans (releaseHeld_keeps b _ _)))

theorem endLoad_keeps (b : Nat) (s : State) : Keeps b s (endLoad s) := by
  unfold endLoad
  repeat' split
  · exact .refl b s
  · exact enterRunning_keeps ..
  · exact .refl b s

theorem headerReturned_keeps (b : Nat) (tally : Bool) (s : State) : Keeps b s (headerReturned tally s) := by
  simp only [headerReturned]
  split
  · refine .trans ?_ (endLoad_keeps b _)
    exact keeps_of_eq rfl rfl rfl rfl
  · exact .refl b s

theorem setupRead_keeps (b : Nat) (ld : Load) (s : State) : Keeps b s (setupRead ld s) := by
  simp only [setupRead]
  refine .trans ?_ (endLoad_keeps b _)
  refine .of_within fun h => keeps_of_eq ?_ ?_ ?_ ?_
  all_goals
    repeat' split
    all_goals simp [State.lengths, shadowFromLoad, entriesFromWords, h.sized.words, h.sized.entries]

theorem loadSetupRead_keeps (b : Nat) (last : Bool) (words : List Word) (s : State) : Keeps b s (loadSetupRead last words s) := by
  simp only [loadSetupRead]
  split
  · next ld _ =>
    refine .trans (t := { s with shadow := { s.shadow with load := some { ld with words := ld.words ++ words } } })
      (keeps_of_eq rfl rfl rfl rfl) ?_
    split
    · exact setupRead_keeps ..
    · exact .refl b _
  · exact .refl b s

theorem eventHeaderRead_keeps (b : Nat) (prod cons : Word) (s : State) : Keeps b s (eventHeaderRead prod cons s) := by
  simp only [eventHeaderRead]
  refine .trans (t := takeEventHeader prod cons s) (keeps_of_eq (by simp [State.lengths]) (by simp) (by simp) (by simp)) ?_
  split
  · exact headerReturned_keeps ..
  · exact .refl b _

theorem tallyHeaderRead_keeps (b : Nat) (w : Word) (s : State) : Keeps b s (tallyHeaderRead w s) := by
  unfold tallyHeaderRead
  split
  · exact .trans (t := takeTallyHeader w s) (keeps_of_eq (by simp [State.lengths]) (by simp) (by simp) (by simp))
      (headerReturned_keeps ..)
  · exact .refl b s

theorem frameTrailerRead_keeps (b : Nat) (w : Word) (s : State) : Keeps b s (frameTrailerRead w s) := by
  simp only [frameTrailerRead]
  split
  · next e _ =>
    refine .trans (t := setEngine { e with trailer := w } s) (keeps_of_eq rfl rfl rfl rfl) ?_
    split
    · exact completeIntake_keeps ..
    · exact keeps_of_eq rfl rfl rfl rfl
  · exact .refl b s

theorem frameSlicesRead_keeps (b : Nat) (last : Bool) (words : List Word) (s : State) : Keeps b s (frameSlicesRead last words s) := by
  simp only [frameSlicesRead]
  split
  · next e _ =>
    refine .trans (t := setEngine { e with slices := e.slices ++ words } s) (keeps_of_eq rfl rfl rfl rfl) ?_
    split
    · exact completeIntake_keeps ..
    · exact .refl b _
  · exact .refl b s

theorem endSwapIfDone_keeps (b : Nat) (s : State) : Keeps b s (endSwapIfDone s) :=
  keeps_of_eq (by simp [State.lengths]) (by simp) (by simp) (by simp)

theorem tallyUpdateDone_keeps (b : Nat) (s : State) : Keeps b s (tallyUpdateDone s) := by
  simp only [tallyUpdateDone]
  split
  · next u rest _ _ =>
    refine .trans (t := { s with tally := { s.tally with engine := none, queue := rest, swap := countOldBank u s.tally } })
      (keeps_of_eq rfl rfl rfl rfl) ((endSwapIfDone_keeps b _).trans (.trans ?_ ((settle_keeps b s _).trans (drainStep_keeps b _))))
    split
    · exact judgeWaiting_keeps ..
    · exact .refl b _
  · exact .refl b s

theorem zeroingWritten_keeps (b i : Nat) (s : State) : Keeps b s (zeroingWritten i s) := by
  simp only [zeroingWritten]
  split
  · next w _ =>
    split
    · split
      · exact keeps_of_eq rfl rfl rfl rfl
      · refine .trans (t := { s with tally := { s.tally with swap := some { w with zeroing := .ended } } }) (keeps_of_eq rfl rfl rfl rfl) ?_
        exact (endSwapIfDone_keeps b _).trans ((settle_keeps b s _).trans (drainStep_keeps b _))
    · exact .refl b s
  · exact .refl b s

theorem formatWordRead_keeps (b : Nat) (w : Word) (s : State) : Keeps b s (formatWordRead w s) := by
  refine keeps_of_eq ?_ (by simp) (by simp) (by simp)
  simp only [formatWordRead]
  repeat' split
  all_goals simp [State.lengths]

theorem afterBurst_keeps (b : Nat) (x : Burst) (words : List Word) (s : State) : Keeps b s (afterBurst x words s) := by
  unfold afterBurst
  split
  · exact chassisDone_keeps ..
  · exact .refl b s
  · split
    · exact mirrorClosed_keeps ..
    · exact .refl b s
  · exact lineResetDone_keeps ..
  · exact formatWordRead_keeps ..
  · exact loadSetupRead_keeps ..
  · exact eventHeaderRead_keeps ..
  · exact tallyHeaderRead_keeps ..
  · exact keeps_of_eq (by simp [State.lengths]) (by simp) (by simp) (by simp)
  · exact frameTrailerRead_keeps ..
  · exact frameSlicesRead_keeps ..
  · exact completeReadback_keeps ..
  · exact keeps_of_eq (by simp [State.lengths]) (by simp) (by simp) (by simp)
  · split
    · exact tallyUpdateDone_keeps ..
    · exact .refl b s
  · exact zeroingWritten_keeps ..

/-! ### Every effect (O7, O60) -/

theorem setFilter_keeps (b : Nat) (p : Input) (f : Filter) (s : State) : Keeps b s (s.setFilter p f) := keeps_of_eq rfl rfl rfl rfl

theorem releaseReset_keeps (b : Nat) (s : State) : Keeps b s (releaseReset s) := by
  unfold releaseReset
  split
  · refine .mk fun _ => ⟨tableWithin_cleared (sized_of_lengths (s := State.reset) rfl reset_tableSound.sized) reset_record rfl,
      fun j => ?_⟩
    exact (reset_record j).symm ▸ .to_blank _
  · exact .refl b s

/-- Every effect keeps the record table sound, and what stands in a live slot follows from it. -/
theorem effect_within {s y : State} (h : s.TableWithin 30) (hy : Effect s y) :
    y.TableWithin 30 ∧ ∀ j, (s.record j).live = true → Follows (s.record j) (y.record j) := by
  have hkeeps : ∀ {y}, Keeps 30 s y → y.TableWithin 30 ∧ ∀ j, (s.record j).live = true → Follows (s.record j) (y.record j) := fun hk =>
    have ⟨ht, hfollows⟩ := hk.within h
    ⟨ht, fun j _ => hfollows j⟩
  cases hy with
  | idle => exact hkeeps (.refl 30 s)
  | rawLevel p l _ => exact hkeeps (setFilter_keeps 30 p _ s)
  | filter p f o =>
    unfold filterStep
    split
    · exact lugEvent_within o ((setFilter_keeps 30 p f s).within h).1
    · exact hkeeps ((setFilter_keeps 30 p f s).trans (settle_keeps 30 s (s.setFilter p f)))
  | assertReset => exact hkeeps (keeps_of_eq (by unfold assertReset; split <;> rfl) (by simp) (by simp) (by simp))
  | releaseReset => exact hkeeps (releaseReset_keeps 30 s)
  | arrive x _ => exact hkeeps (arrive_keeps 30 x s)
  | startIntake => exact hkeeps (keeps_of_eq (by simp [State.lengths]) (by simp) (by simp) (by simp))
  | startReadback =>
    refine hkeeps (keeps_of_eq ?_ (by simp) (by simp) (by simp))
    unfold startReadback
    repeat' split
    all_goals rfl
  | port b _ => exact hkeeps (.trans (t := landBurst b s) (keeps_of_eq rfl rfl rfl rfl) (afterBurst_keeps 30 b _ _))
  | close _ => exact hkeeps (completeClose_keeps 30 s)
  | run _ => exact hkeeps (completeRun_keeps 30 s)
  | hold _ x _ => exact hkeeps ((expireHold_keeps 30 x s).trans (settle_keeps 30 s _))
  | sawTest _ =>
    refine hkeeps (.trans (keeps_of_eq ?_ ?_ ?_ ?_) (settle_keeps 30 s _))
    all_goals simp [State.lengths]

theorem tableWithin_of_tracker {s t : State} (hl : t.lengths = s.lengths) (htracker : t.tracker = s.tracker)
    (hoptimizer : t.optimizer = s.optimizer) (h : s.TableWithin 30) : t.TableWithin 30 :=
  ((keeps_of_eq hl (by rw [htracker]) (by rw [htracker]) (by rw [hoptimizer])).within h).1

theorem finish_lengths (s : State) : (finish s).lengths = s.lengths := by
  simp [State.lengths]

/-- Settles O7. -/
theorem stepKeepsRecordTable : Obligations.StepKeepsRecordTable := by
  unfold Obligations.StepKeepsRecordTable
  simp only [tableSound_iff]
  intro s t hs h
  exact step_keeps (I := State.TableWithin 30) (fun s q h => tableWithin_of_tracker (s := s) rfl rfl rfl h)
    (fun s h => tableWithin_of_tracker (finish_lengths s) (by simp) (by simp) h) (fun s y h hy => (effect_within h hy).1) hs h

/-- Settles O60: the record stands or is freed at every effect, and a live slot is all that the statement speaks of. -/
theorem dispatchedDecisionsStand : Obligations.DispatchedDecisionsStand := by
  unfold Obligations.DispatchedDecisionsStand
  intro s t k hs h _ hstate hcommitted
  rcases step_effect h with rfl | ⟨q, y, hy, rfl⟩
  · exact .inr rfl
  · have hsound := tableWithin_of_tracker (s := s) (t := s.withPending q) rfl rfl rfl ((tableSound_iff s).1 hs)
    have hlive : (s.record k).live = true := by simp [Record.live, hstate]
    have hrecord : (finish y).record k = y.record k := record_of_records (by simp) k
    rw [hrecord]
    rcases ((effect_within hsound hy).2 k hlive).stands hstate hcommitted with hblank | ⟨held, heq⟩
    · exact .inl hblank
    · exact .inr (by rw [heq]; rfl)

end Sys2Proof.Machine
end

section
/-! What the work in time of the record blocks ends with: hold expiry (O55), the end of a close (O41), the end of a run (O42), and the
trim read, whose statement fails (O54). -/

namespace Sys2Proof.Machine

/-! ### A settled table -/

theorem State.TableWithin.settled {b : Nat} {x : State} (h : x.TableWithin b) (s0 : State) (k : Nat) :
    (settle s0 x).record k = x.record k ∨
      ((x.record k).state = .queued ∧ (settle s0 x).record k = { x.record k with state := .optimizing }) := by
  rw [settle_record]
  exact startOptimizer_record h.sized.records h.queue k

theorem State.TableWithin.settled_eq {b : Nat} {x : State} (h : x.TableWithin b) (s0 : State) {k : Nat}
    (hstate : (x.record k).state ≠ .queued) : (settle s0 x).record k = x.record k :=
  (h.settled s0 k).resolve_right fun hq => hstate hq.1

/-- A change that wrote record `k` only, settled. -/
theorem State.TableWithin.othersKept {b : Nat} {s x : State} (h : x.TableWithin b) (s0 : State) {k : Nat} {r : Record}
    (hset : x.tracker.records = s.tracker.records.set k r) : othersKept s (settle s0 x) k := fun j _ hjk hstate => by
  have hj : x.record j = s.record j := (record_of_set hset j).resolve_right fun hr => hjk hr.1
  rw [h.settled_eq s0 (hj ▸ hstate), hj]

/-- A change that wrote no record, settled. -/
theorem State.TableWithin.allKept {b : Nat} {s x : State} (h : x.TableWithin b) (s0 : State) (k : Nat)
    (hrecords : x.tracker.records = s.tracker.records) : Machine.othersKept s (settle s0 x) k := fun j _ _ hstate => by
  have hj := record_of_records hrecords j
  rw [h.settled_eq s0 (hj ▸ hstate), hj]

theorem record_set_self {s t : State} {k : Nat} {r : Record} (hs : s.tracker.records.length = 32) (hk : k < 32)
    (hset : t.tracker.records = s.tracker.records.set k r) : t.record k = r := by
  simp [State.record, hset, hs, hk]

theorem settle_events (s0 x : State) : (settle s0 x).events = x.events := by
  simp

theorem settle_queue_sub (s0 x : State) : ∀ e ∈ (settle s0 x).optimizer.queue, e ∈ x.optimizer.queue := by
  rw [settle_optimizer]
  exact startOptimizer_queue_sub x

/-- A report changes the line guard alone. -/
theorem report_eventsWritten {es : List Event} {s t : State} (g : GuardName) (h : EventsWritten es s t)
    (hwindow : t.window .event = s.window .event) : EventsWritten es s (report g t) :=
  h.before rfl hwindow (grows_of_eq rfl)

/-! ### Hold expiry (O55) -/

theorem undecided_iff (r : Record) : r.state.undecided = true ↔
    r.state = .scanning ∨ r.state = .closing ∨ r.state = .queued ∨ r.state = .optimizing := by
  cases r.state <;> simp [RecordState.undecided]

theorem expireHold_of_undecided {h : HeldRead} {s : State} (hlug : (s.record h.slot).lug = h.lug)
    (hstate : (s.record h.slot).state.undecided = true) :
    (expireHold h s).tracker.records = s.tracker.records.set h.slot ((s.record h.slot).fallBack (fallbackDecision s.shadow.words)) ∧
    (expireHold h s).optimizer.queue = s.optimizer.queue.filter (fun e => e.slot != h.slot) ∧
    (expireHold h s).measure = (endWork h.slot s).measure ∧
    (expireHold h s).dispatch.held = (s.dispatch.held.filter fun x => x.txn != h.txn).filter (fun x => x.slot != h.slot) ∧
    (expireHold h s).bus.answers = s.bus.answers ++
      (h :: (s.dispatch.held.filter fun x => x.txn != h.txn).filter (fun x => x.slot == h.slot)).map
        (fun x => { txn := x.txn, master := x.master,
                    reply := .data [trimWord (fallbackSaws s.shadow.words) .fallback (s.record h.slot).lug] }) := by
  have hcond : ((s.record h.slot).state.undecided && (s.record h.slot).lug == h.lug) = true := by simp [hstate, hlug]
  simp only [expireHold, hcond, if_true]
  simp [State.setRecord, endWork_queue, answerExpired, answerHeld, answer, decisionAnswer, fallbackDecision, Verdict.trimStatus]

/-- R96, R140: the events of an expiry: LATE for a record lost to the queue or to its run, then FALLBACK. -/
theorem expireHold_events {h : HeldRead} {s : State} (hlug : (s.record h.slot).lug = h.lug)
    (hstate : (s.record h.slot).state.undecided = true) :
    EventsWritten ((if (s.record h.slot).state = .queued ∨ (s.record h.slot).state = .optimizing then
        [event .decision 3 h.lug (single (s.record h.slot).state.code) (single (backlog s))] else []) ++
      [event .dispatch 2 h.lug (single (s.record h.slot).state.code) (single (fallbackPass s.shadow.words).toNat)]) s
      (expireHold h s) := by
  have hcond : ((s.record h.slot).state.undecided && (s.record h.slot).lug == h.lug) = true := by simp [hstate, hlug]
  simp only [expireHold, hcond, if_true]
  rw [hlug]
  generalize hx : answerExpired h _ _ = x
  have hevents : x.events = s.events := by simp [← hx, State.setRecord]
  have hshadow : x.shadow = s.shadow := by simp [← hx, State.setRecord]
  have hinternal : x.bus.internal = s.bus.internal := by simp [← hx, State.setRecord]
  have hwindow := window_of_shadow hshadow .event
  refine report_eventsWritten _ (.append ?_ ?_ (t := emitLate (s.record h.slot) (backlog s) x) ?_) ?_
  · simp only [emitLate, Record.inBacklog, Bool.or_eq_true, beq_iff_eq, hlug]
    split
    · exact (eventsWritten_emit _ x).after hevents hwindow (grows_of_eq hinternal)
    · exact eventsWritten_nil hevents (grows_of_eq hinternal)
  · simpa [hshadow] using eventsWritten_emit
      (event .dispatch 2 h.lug (single (s.record h.slot).state.code) (single (fallbackPass s.shadow.words).toNat)) _
  · simp [State.window, hshadow]
  · simp [State.window, hshadow]

theorem expireHold_of_other {h : HeldRead} {s : State}
    (hother : ¬ ((s.record h.slot).lug = h.lug ∧ (s.record h.slot).state.undecided = true)) : expireHold h s = s := by
  simp only [expireHold]
  rw [if_neg (by simpa [and_comm] using hother)]

theorem expireHold_notes {h : HeldRead} {s : State} (hs : s.lineGuard.flags.length = 6) (hlug : (s.record h.slot).lug = h.lug)
    (hstate : (s.record h.slot).state.undecided = true) : s.tracker.lug ∈ ((expireHold h s).flag 2).notes := by
  have hcond : ((s.record h.slot).state.undecided && (s.record h.slot).lug == h.lug) = true := by simp [hstate, hlug]
  simp only [expireHold, hcond, if_true]
  generalize hx : emit _ (emitLate _ _ _) = x
  have hx_lug : x.tracker.lug = s.tracker.lug := by simp [← hx, State.setRecord]
  have hx_flags : x.lineGuard.flags.length = 6 := by simpa [← hx, State.setRecord] using hs
  exact hx_lug ▸ report_notes .fallback x hx_flags

/-- Settles O55. -/
theorem holdExpiryFallsBack : Obligations.HoldExpiryFallsBack := by
  unfold Obligations.HoldExpiryFallsBack
  intro s i h d hs hrun hheld hd
  have hexec : exec (.holdExpiry i) s = .next (finish (settle s (expireHold h s))) := by
    simp [exec, execHoldExpiry, done, whenRunning, hrun, hheld]
  have htable : (expireHold h s).TableWithin 30 := ((expireHold_keeps 30 h s).within ((tableSound_iff s).1 hs)).1
  refine ⟨_, hexec, ?_, by simp, by simp, by simp, by simp, fun hlug hundecided => ?_, fun hother => ?_⟩
  · by_cases hexpires : (s.record h.slot).lug = h.lug ∧ (s.record h.slot).state.undecided = true
    · exact htable.othersKept s (expireHold_of_undecided hexpires.1 hexpires.2).1
    · rw [expireHold_of_other hexpires]
      exact State.TableWithin.allKept (b := 30) ((tableSound_iff s).1 hs) s _ rfl
  · have hstate := (undecided_iff _).2 hundecided
    obtain ⟨hset, hqueue, hmeasure, hreads, hanswers⟩ := expireHold_of_undecided hlug hstate
    have hk : h.slot < 32 := slot_of_not_free hs.sized fun hfree => by simp [hfree] at hundecided
    have hrecord := record_set_self hs.sized.records hk hset
    have hevents := (expireHold_events hlug hstate).settle s (by simp [State.window])
    have hsaws := fallbackSaws_values s.shadow.words
    refine ⟨?_, by simpa using hreads, ?_, ?_, ?_, hevents, fun e he => ?_, fun x hx => ?_⟩
    · rw [htable.settled_eq s (by simp [hrecord, Record.fallBack]), hrecord, hd]
      simp [Record.fallBack, fallbackDecision, hsaws]
    · simpa [hd, hsaws] using hanswers
    · simpa [State.flag] using expireHold_notes hs.sized.flags hlug hstate
    · exact (hevents.pending_iff (by decide)).2 (.inr ⟨_, List.mem_append_right _ (List.mem_singleton_self _), rfl⟩)
    · have hin := settle_queue_sub s _ e he
      rw [hqueue] at hin
      simpa using (List.mem_filter.1 hin).2
    · simp only [settle_frame, hmeasure, endWork_measure] at hx
      rcases List.mem_append.1 hx with hx | hx <;> simpa using (List.mem_filter.1 hx).2
  · have hnot : ¬ ((s.record h.slot).lug = h.lug ∧ (s.record h.slot).state.undecided = true) := by
      rw [undecided_iff]
      rintro ⟨hlug, hstate⟩
      rcases hother with h | h | h | h <;> simp_all
    rw [expireHold_of_other hnot]
    refine ⟨by simp, by simp, by simp, eventsWritten_nil (by simp) (settle_grows s s), fun hstate => ?_⟩
    exact State.TableWithin.settled_eq ((tableSound_iff s).1 hs) s hstate

/-! ### A decision and the held reads it answers (R139) -/

theorem held_of_not_hasHeld {s : State} {k : Nat} (h : hasHeld s k = false) :
    (s.dispatch.held.filter fun x => x.slot == k) = [] ∧ (s.dispatch.held.filter fun x => x.slot != k) = s.dispatch.held := by
  have hnone : ∀ x ∈ s.dispatch.held, x.slot ≠ k := by simpa [hasHeld] using h
  exact ⟨by simpa using hnone, by simpa using hnone⟩

/-- The record a decision makes, with or without held reads. -/
def Record.decideHeld (r : Record) (d : Decision) (segs : List Segment) (forced held : Bool) : Record :=
  if held then { r.decide d segs forced with state := .dispatched, committed := true } else r.decide d segs forced

theorem decideHeld_eq (r : Record) (d : Decision) (segs : List Segment) (forced held : Bool) : r.decideHeld d segs forced held =
    { r with
      decision := some d, segments := segs, forced := forced
      state := if held then .dispatched else .decided
      committed := r.committed || held } := by
  cases held <;> simp [Record.decideHeld, Record.decide]

theorem writeDecision_values (k : Nat) (d : Decision) (segs : List Segment) (forced : Bool) (s : State) :
    (writeDecision k d segs forced s).tracker.records =
      s.tracker.records.set k ((s.record k).decideHeld d segs forced (hasHeld s k)) ∧
    (writeDecision k d segs forced s).dispatch = { s.dispatch with held := s.dispatch.held.filter fun h => h.slot != k } ∧
    (writeDecision k d segs forced s).bus = { s.bus with
      answers := s.bus.answers ++ (s.dispatch.held.filter fun h => h.slot == k).map fun h =>
        { txn := h.txn, master := h.master, reply := .data [decisionAnswer d (s.record k).lug] } } := by
  refine ⟨by rw [writeDecision_records]; rfl, ?_⟩
  simp only [writeDecision]
  split
  · exact ⟨rfl, rfl⟩
  · next hheld =>
    obtain ⟨hnone, hall⟩ := held_of_not_hasHeld (Bool.eq_false_iff.2 hheld)
    simp [hnone, hall, State.setRecord]

@[simp] theorem emitAll_frame (es : List Event) (s : State) : (emitAll es s).inputs = s.inputs ∧
    (emitAll es s).resetAsserted = s.resetAsserted ∧ (emitAll es s).shadow = s.shadow ∧ (emitAll es s).tracker = s.tracker ∧
    (emitAll es s).intake = s.intake ∧ (emitAll es s).measure = s.measure ∧ (emitAll es s).optimizer = s.optimizer ∧
    (emitAll es s).skip = s.skip ∧ (emitAll es s).overrides = s.overrides ∧ (emitAll es s).dispatch = s.dispatch ∧
    (emitAll es s).tally = s.tally ∧ (emitAll es s).lineGuard = s.lineGuard ∧ (emitAll es s).bus.mem = s.bus.mem ∧
    (emitAll es s).bus.through = s.bus.through ∧ (emitAll es s).bus.port = s.bus.port ∧
    (emitAll es s).bus.answers = s.bus.answers ∧ (emitAll es s).bus.nextTxn = s.bus.nextTxn := by
  rw [emitAll_eq]
  simp

/-- R78: TRIM_RANGE is written for a forced trim beyond the board, and for no other record. -/
theorem trimRange_eq (r : Record) (s : State) :
    (if trimBeyond r then emitTrimRange r s else s) = emitAll (trimRangeEvents r) s := by
  unfold trimRangeEvents trimBeyond emitTrimRange
  cases r.forcedTrim with
  | none => rfl
  | some ab => by_cases hbeyond : r.present < ab.2 <;> simp [hbeyond, emitAll_cons, emitAll_nil]

/-! ### The end of a run (O42) -/

theorem emitDecided_eq (d : Decision) (lug : Lug) (s : State) : emitDecided d lug s = emitAll (if decisionEventEnable s.shadow.words then
    [event .decision 1 lug (triple d.verdict.code d.a d.b) (pair d.grade d.value)] else []) s := by
  unfold emitDecided
  split <;> rfl

/-- R84, R90: what the completion of the run `u` leaves, before it is settled. -/
def runCompleted (u : Run) (s : State) : State :=
  emitAll (trimRangeEvents u.record ++ if decisionEventEnable s.shadow.words then
      [event .decision 1 u.lug (triple u.decision.verdict.code u.decision.a u.decision.b) (pair u.decision.grade u.decision.value)] else [])
    (writeDecision u.slot u.decision (gradedSegments u.tables u.record) u.record.isForced
      { s with optimizer := { s.optimizer with run := none } })

theorem completeRun_of_optimizing {s : State} {u : Run} (hu : s.optimizer.run = some u) (hstate : (s.record u.slot).state = .optimizing)
    (hlug : (s.record u.slot).lug = u.lug) : completeRun s = settle s (runCompleted u s) := by
  simp only [completeRun, hu]
  rw [if_pos ⟨hstate, hlug⟩, trimRange_eq, emitDecided_eq, ← emitAll_append]
  simp [runCompleted]

theorem runCompleted_values {s : State} {u : Run} (hlug : (s.record u.slot).lug = u.lug) :
    (runCompleted u s).tracker.records = s.tracker.records.set u.slot ((s.record u.slot).decideHeld u.decision
      (gradedSegments u.tables u.record) u.record.isForced (hasHeld s u.slot)) ∧
    (runCompleted u s).dispatch = { s.dispatch with held := s.dispatch.held.filter fun h => h.slot != u.slot } ∧
    (runCompleted u s).bus.answers = s.bus.answers ++ (s.dispatch.held.filter fun h => h.slot == u.slot).map fun h =>
      { txn := h.txn, master := h.master, reply := .data [decisionAnswer u.decision u.lug] } := by
  obtain ⟨hset, hdispatch, hbus⟩ := writeDecision_values u.slot u.decision (gradedSegments u.tables u.record) u.record.isForced
    { s with optimizer := { s.optimizer with run := none } }
  simp only [runCompleted, emitAll_frame]
  exact ⟨hset, hdispatch, by rw [hbus, ← hlug]; rfl⟩

/-- Settles O42. -/
theorem optimizerCompleteDecides : Obligations.OptimizerCompleteDecides := by
  unfold Obligations.OptimizerCompleteDecides
  intro s u d hs hrun hu hstate hlug hd
  obtain rfl : u.decision = d := by rw [hd, Run.decision]
  have hcompletes := completeRun_of_optimizing hu hstate hlug
  have htable : (runCompleted u s).TableWithin 30 := by
    refine (Keeps.within ?_ ((tableSound_iff s).1 hs)).1
    refine .trans (t := { s with optimizer := { s.optimizer with run := none } }) (keeps_of_eq rfl rfl rfl rfl) ?_
    generalize hx : ({ s with optimizer := { s.optimizer with run := none } } : State) = x
    have hxstate : (x.record u.slot).state = .optimizing := by rw [← hx]; exact hstate
    rw [runCompleted, hx]
    exact (writeDecision_keeps _ _ _ (by simp [Record.live, hxstate]) (by simp [hxstate]) (by simp [hxstate])).trans
      (emitAll_keeps 30 _ _)
  obtain ⟨hset, hdispatch, hanswers⟩ := runCompleted_values hlug
  have hk : u.slot < 32 := slot_of_not_free hs.sized (by simp [hstate])
  have hrecord := record_set_self hs.sized.records hk hset
  refine ⟨settle s (runCompleted u s), ?_, ?_, by simpa using hanswers, by simpa using hdispatch, .settle s ?_ ?_, htable.othersKept s hset,
    ?_, ?_, ?_, ?_⟩
  · simp only [exec, execOptimizerComplete, done, whenRunning, hrun, if_true, hcompletes]
  · rw [htable.settled_eq s, hrecord, decideHeld_eq]
    rw [hrecord, decideHeld_eq]
    cases hasHeld s u.slot <;> simp
  · exact (eventsWritten_emitAll _ _).after (by simp) (by simp [State.window]) (grows_of_eq (by simp))
  all_goals simp [runCompleted, State.window]

/-! ### The end of a close (O41) -/

/-- The events and the note of a close that names silent heads (R57). -/
def silentEvents (r : Record) : List Event :=
  if r.silent = 0 then [] else [event .frame 9 r.lug (single r.silent.toNat) (single r.contributed.toNat)]

/-- What the close of `c`, at the head of the list, leaves, before it is settled. -/
def closeCompleted (c : Close) (rest : List Close) (s : State) : State :=
  let r := finalise s.shadow.words (s.record c.slot)
  let x := reportSilent r (State.setRecord { s with measure := { s.measure with finalising := rest } } c.slot r)
  if r.isForced then forceDecision c.slot false x else joinQueue c.slot x

theorem completeClose_of_closing {s : State} {c : Close} {rest : List Close} (hlist : s.measure.finalising = c :: rest)
    (hstate : (s.record c.slot).state = .closing) (hlug : (s.record c.slot).lug = c.lug) :
    completeClose s = settle s (closeCompleted c rest s) := by
  simp only [completeClose, hlist]
  rw [if_pos ⟨hstate, hlug⟩]
  rfl

/-- The state in which the results of the close stand in the record (R56, R57). -/
def closeWritten (c : Close) (rest : List Close) (s : State) : State :=
  reportSilent (finalise s.shadow.words (s.record c.slot))
    (State.setRecord { s with measure := { s.measure with finalising := rest } } c.slot (finalise s.shadow.words (s.record c.slot)))

theorem closeWritten_values (c : Close) (rest : List Close) (s : State) :
    (closeWritten c rest s).tracker.records = s.tracker.records.set c.slot (finalise s.shadow.words (s.record c.slot)) ∧
    (closeWritten c rest s).dispatch = s.dispatch ∧ (closeWritten c rest s).bus.answers = s.bus.answers ∧
    (closeWritten c rest s).shadow = s.shadow ∧ (closeWritten c rest s).measure = { s.measure with finalising := rest } ∧
    EventsWritten (silentEvents (finalise s.shadow.words (s.record c.slot))) s (closeWritten c rest s) := by
  refine ⟨by simp [closeWritten, State.setRecord], by simp [closeWritten, State.setRecord], by simp [closeWritten, State.setRecord],
    by simp [closeWritten, State.setRecord], by simp [closeWritten, State.setRecord], ?_⟩
  simp only [closeWritten, reportSilent, silentEvents]
  split
  · exact eventsWritten_nil rfl (grows_of_eq rfl)
  · refine report_eventsWritten _ ?_ (by simp [State.window, State.setRecord])
    exact (eventsWritten_emit _ _).after rfl rfl (grows_of_eq rfl)

theorem closeWritten_guard {c : Close} {rest : List Close} {s : State} (hflags : s.lineGuard.flags.length = 6) :
    ((finalise s.shadow.words (s.record c.slot)).silent = 0 → (closeWritten c rest s).lineGuard = s.lineGuard) ∧
    ((finalise s.shadow.words (s.record c.slot)).silent ≠ 0 → s.tracker.lug ∈ ((closeWritten c rest s).flag 0).notes) := by
  simp only [closeWritten, reportSilent]
  refine ⟨fun h => ?_, fun h => ?_⟩
  · rw [if_pos h]
    rfl
  · rw [if_neg h]
    generalize hx : emit _ _ = x
    have hlug : x.tracker.lug = s.tracker.lug := by simp [← hx, State.setRecord]
    exact hlug ▸ report_notes .silent x (by simpa [← hx, State.setRecord] using hflags)

theorem closeCompleted_keeps {b : Nat} {c : Close} {rest : List Close} {s : State} (hstate : (s.record c.slot).state = .closing) :
    Keeps b s (closeCompleted c rest s) := by
  obtain ⟨hkeeps, hclosing⟩ := writeClose_keeps (b := b) (s := { s with measure := { s.measure with finalising := rest } })
    (r := finalise s.shadow.words (s.record c.slot)) hstate rfl rfl
  refine .trans (t := { s with measure := { s.measure with finalising := rest } }) (keeps_of_eq rfl rfl rfl rfl) ?_
  exact hkeeps.trans (leaveClosing_keeps hclosing _)

/-- R75-R78: the forced decision of a record, with its held reads and its events. -/
theorem forceDecision_values (k : Nat) (s : State) :
    (forceDecision k false s).tracker.records = s.tracker.records.set k ((s.record k).decideHeld
      (forcedDecision s.shadow.words (s.record k)) (gradedSegments s.shadow.words (s.record k)) true (hasHeld s k)) ∧
    (forceDecision k false s).dispatch = { s.dispatch with held := s.dispatch.held.filter fun h => h.slot != k } ∧
    (forceDecision k false s).bus.answers = s.bus.answers ++ (s.dispatch.held.filter fun h => h.slot == k).map (fun h =>
      { txn := h.txn, master := h.master,
        reply := .data [decisionAnswer (forcedDecision s.shadow.words (s.record k)) (s.record k).lug] }) ∧
    EventsWritten (trimRangeEvents (s.record k)) s (forceDecision k false s) := by
  obtain ⟨hset, hdispatch, hbus⟩ := writeDecision_values k (forcedDecision s.shadow.words (s.record k))
    (gradedSegments s.shadow.words (s.record k)) true s
  have heq : forceDecision k false s = emitAll (trimRangeEvents (s.record k)) (writeDecision k (forcedDecision s.shadow.words (s.record k))
      (gradedSegments s.shadow.words (s.record k)) true s) := by
    rw [← trimRange_eq]
    simp [forceDecision]
  rw [heq]
  refine ⟨by simpa using hset, by simpa using hdispatch, by simp [hbus], ?_⟩
  exact (eventsWritten_emitAll _ _).after (by simp) (by simp [State.window]) (grows_of_eq (by simp))

theorem silentMask_bit (ws : List Word) (r : Record) {h : Nat} (hh : h < 6) : (silentMask ws r).getLsbD h =
    (decide (zoneStart ws h < r.length) && !r.contributed.getLsbD h) := by
  rw [silentMask, getLsbD_maskOf]
  simp [hh, headIsSilent]

theorem segment_map_range (f : Nat → Segment) {r : Record} (h : r.segments = (List.range 12).map f) {i : Nat} (hi : i < 12) :
    r.segment i = f i := by
  simp [Record.segment, h, hi]

theorem finalise_unseen (ws : List Word) (r : Record) {i : Nat} (hi : i < 12) : ((finalise ws r).segment i).unseen =
    (decide (i < r.length / 610) && (r.segment i).wood == 0) := by
  rw [segment_map_range (fun i => { r.segment i with unseen := decide (i < r.length / 610) && (r.segment i).wood == 0 }) rfl hi]

/-- What a close has measured of `r`, as `q` shows it once the record has its decision or stands in the queue. -/
structure Measured (ws : List Word) (r q : Record) : Prop where
  present : q.present = r.length / 610
  short : q.short = decide (r.length / 610 < minimumLength ws)
  silent : q.silent = silentMask ws r
  unseen : ∀ i, i < 12 → (q.segment i).unseen = (decide (i < r.length / 610) && (r.segment i).wood == 0)
  lug : q.lug = r.lug
  length : q.length = r.length
  marks : q.marks = r.marks
  held : q.held = r.held
  forcedGrade : q.forcedGrade = r.forcedGrade
  forcedTrim : q.forcedTrim = r.forcedTrim
  chip : q.chip = r.chip
  contributed : q.contributed = r.contributed

theorem measured_finalise (ws : List Word) (r : Record) (st : RecordState) (d : Option Decision) :
    Measured ws r { finalise ws r with state := st, decision := d } :=
  ⟨rfl, rfl, rfl, fun _ hi => finalise_unseen ws r hi, rfl, rfl, rfl, rfl, rfl, rfl, rfl, rfl⟩

theorem measured_decided (ws ws' : List Word) (r : Record) (d : Decision) (held : Bool) :
    Measured ws r ((finalise ws r).decideHeld d (gradedSegments ws' (finalise ws r)) true held) := by
  rw [decideHeld_eq]
  refine ⟨rfl, rfl, rfl, fun i hi => ?_, rfl, rfl, rfl, rfl, rfl, rfl, rfl, rfl⟩
  rw [segment_map_range (fun i => { (finalise ws r).segment i with grade := segmentGrade ws' (finalise ws r) i }) rfl hi]
  exact finalise_unseen ws r hi

theorem trimRangeEvents_congr {r q : Record} (htrim : q.forcedTrim = r.forcedTrim) (hpresent : q.present = r.present)
    (hlug : q.lug = r.lug) : trimRangeEvents q = trimRangeEvents r := by
  simp [trimRangeEvents, htrim, hpresent, hlug]

/-- What the close leaves for a record with chip or a forced trim: its forced decision. -/
theorem closeCompleted_forced {c : Close} {rest : List Close} {s : State} (hs : s.tracker.records.length = 32) (hk : c.slot < 32)
    (hforced : (s.record c.slot).isForced = true) :
    (closeCompleted c rest s).record c.slot = (finalise s.shadow.words (s.record c.slot)).decideHeld
      (forcedDecision s.shadow.words (finalise s.shadow.words (s.record c.slot)))
      (gradedSegments s.shadow.words (finalise s.shadow.words (s.record c.slot))) true (hasHeld s c.slot) ∧
    (closeCompleted c rest s).dispatch = { s.dispatch with held := s.dispatch.held.filter fun h => h.slot != c.slot } ∧
    (closeCompleted c rest s).bus.answers = s.bus.answers ++ (s.dispatch.held.filter fun h => h.slot == c.slot).map (fun h =>
      { txn := h.txn, master := h.master, reply := .data [decisionAnswer
        (forcedDecision s.shadow.words (finalise s.shadow.words (s.record c.slot))) (s.record c.slot).lug] }) ∧
    EventsWritten (silentEvents (finalise s.shadow.words (s.record c.slot)) ++
      trimRangeEvents (finalise s.shadow.words (s.record c.slot))) s (closeCompleted c rest s) := by
  obtain ⟨hset, hdispatch, hanswers, hshadow, -, hevents⟩ := closeWritten_values c rest s
  have hrecord := record_set_self hs hk hset
  have hheld : hasHeld (closeWritten c rest s) c.slot = hasHeld s c.slot := by simp [hasHeld, hdispatch]
  have hcase : closeCompleted c rest s = forceDecision c.slot false (closeWritten c rest s) := if_pos hforced
  obtain ⟨hset', hdispatch', hanswers', hevents'⟩ := forceDecision_values c.slot (closeWritten c rest s)
  rw [hrecord, hshadow, hheld, hset, List.set_set] at hset'
  rw [hrecord, hshadow] at hanswers'
  rw [hrecord] at hevents'
  rw [hcase]
  refine ⟨record_set_self hs hk hset', by rw [hdispatch', hdispatch], by rw [hanswers', hanswers, hdispatch]; rfl,
    hevents.append hevents' (window_of_shadow hshadow _)⟩

/-- What the close leaves for any other record: it is QUEUED. -/
theorem closeCompleted_queued {c : Close} {rest : List Close} {s : State} (hs : s.tracker.records.length = 32) (hk : c.slot < 32)
    (hforced : (s.record c.slot).isForced = false) :
    (closeCompleted c rest s).record c.slot = { finalise s.shadow.words (s.record c.slot) with state := .queued, decision := none } ∧
    (closeCompleted c rest s).dispatch = s.dispatch ∧ (closeCompleted c rest s).bus.answers = s.bus.answers ∧
    EventsWritten (silentEvents (finalise s.shadow.words (s.record c.slot))) s (closeCompleted c rest s) := by
  obtain ⟨hset, hdispatch, hanswers, hshadow, -, hevents⟩ := closeWritten_values c rest s
  have hrecord := record_set_self hs hk hset
  have hcase : closeCompleted c rest s = joinQueue c.slot (closeWritten c rest s) := if_neg fun h => Bool.noConfusion (hforced.symm.trans h)
  obtain ⟨hset', -⟩ := joinQueue_values c.slot (closeWritten c rest s)
  rw [hrecord, hset, List.set_set] at hset'
  rw [hcase]
  exact ⟨record_set_self hs hk hset', by simp [hdispatch], by simp [hanswers],
    hevents.before (by simp) (window_of_shadow hshadow _) (grows_of_eq (by simp))⟩

theorem closeCompleted_kept (c : Close) (rest : List Close) (s : State) :
    (closeCompleted c rest s).shadow = s.shadow ∧ (closeCompleted c rest s).bus.mem = s.bus.mem ∧
    (closeCompleted c rest s).measure = { s.measure with finalising := rest } ∧
    (closeCompleted c rest s).lineGuard = (closeWritten c rest s).lineGuard := by
  simp only [closeCompleted]
  split <;> simp [closeWritten, State.setRecord]

theorem closeCompleted_records (c : Close) (rest : List Close) (s : State) :
    ∃ r, (closeCompleted c rest s).tracker.records = s.tracker.records.set c.slot r := by
  obtain ⟨hset, -⟩ := closeWritten_values c rest s
  cases hforced : (s.record c.slot).isForced with
  | true =>
    have hcase : closeCompleted c rest s = forceDecision c.slot false (closeWritten c rest s) := if_pos hforced
    exact ⟨_, by rw [hcase, (forceDecision_values ..).1, hset, List.set_set]⟩
  | false =>
    have hcase : closeCompleted c rest s = joinQueue c.slot (closeWritten c rest s) :=
      if_neg fun h => Bool.noConfusion (hforced.symm.trans h)
    exact ⟨_, by rw [hcase, (joinQueue_values ..).1, hset, List.set_set]⟩

theorem isForced_iff (r : Record) : r.isForced = true ↔ r.chip = true ∨ r.forcedTrim ≠ none := by
  simp [Record.isForced, Option.isSome_iff_ne_none]

/-- Settles O41. -/
theorem closeCompleteFinalises : Obligations.CloseCompleteFinalises := by
  unfold Obligations.CloseCompleteFinalises
  intro s c rest hs hrun hlist hstate hlug
  have hcompletes := completeClose_of_closing hlist hstate hlug
  have htable : (closeCompleted c rest s).TableWithin 30 := ((closeCompleted_keeps hstate).within ((tableSound_iff s).1 hs)).1
  have hk : c.slot < 32 := slot_of_not_free hs.sized (by simp [hstate])
  obtain ⟨hshadow, hmem, hmeasure, hlineGuard⟩ := closeCompleted_kept c rest s
  obtain ⟨hguard, hnote⟩ := closeWritten_guard (c := c) (rest := rest) hs.sized.flags
  obtain ⟨r, hset⟩ := closeCompleted_records c rest s
  have hexec : exec .closeComplete s = .next (finish (settle s (closeCompleted c rest s))) := by
    simp only [exec, execCloseComplete, done, whenRunning, hrun, if_true, hcompletes]
  generalize hf : finalise s.shadow.words (s.record c.slot) = f at *
  have hflag : (settle s (closeCompleted c rest s)).flag 0 = (closeWritten c rest s).flag 0 := by simp [State.flag, hlineGuard]
  generalize hq : (settle s (closeCompleted c rest s)).record c.slot = q
  obtain ⟨hmeasured, hqueued, hdecided, hevents⟩ : Measured s.shadow.words (s.record c.slot) q ∧
      ((s.record c.slot).isForced = false → (q.state = .queued ∨ q.state = .optimizing) ∧ q.decision = none ∧
        (closeCompleted c rest s).dispatch = s.dispatch ∧ (closeCompleted c rest s).bus.answers = s.bus.answers) ∧
      ((s.record c.slot).isForced = true → q.decision = some (forcedDecision s.shadow.words f) ∧ q.forced = true ∧
        (hasHeld s c.slot = false → q.state = .decided) ∧ (hasHeld s c.slot = true → q.state = .dispatched ∧ q.committed = true) ∧
        (closeCompleted c rest s).bus.answers = s.bus.answers ++ (s.dispatch.held.filter fun h => h.slot == c.slot).map (fun h =>
          { txn := h.txn, master := h.master, reply := .data [decisionAnswer (forcedDecision s.shadow.words f) c.lug] }) ∧
        (closeCompleted c rest s).dispatch = { s.dispatch with held := s.dispatch.held.filter fun h => h.slot != c.slot }) ∧
      EventsWritten (silentEvents f ++ trimRangeEvents q) s (closeCompleted c rest s) := by
    cases hforced : (s.record c.slot).isForced with
    | true =>
      obtain ⟨hrecord, hdispatch, hanswers, hevents⟩ := closeCompleted_forced (rest := rest) hs.sized.records hk hforced
      rw [hf] at hrecord hanswers hevents
      have hqeq : q = f.decideHeld (forcedDecision s.shadow.words f) (gradedSegments s.shadow.words f) true (hasHeld s c.slot) := by
        rw [← hq, htable.settled_eq s, hrecord]
        rw [hrecord, decideHeld_eq]
        cases hasHeld s c.slot <;> simp
      refine ⟨by rw [hqeq, ← hf]; exact measured_decided .., nofun, fun _ => ?_, ?_⟩
      · rw [hqeq, decideHeld_eq]
        exact ⟨rfl, rfl, fun h => by simp [h], fun h => by simp [h], by rw [hanswers, hlug], hdispatch⟩
      · rwa [trimRangeEvents_congr (r := f)] <;> rw [hqeq, decideHeld_eq]
    | false =>
      obtain ⟨hrecord, hdispatch, hanswers, hevents⟩ := closeCompleted_queued (rest := rest) hs.sized.records hk hforced
      rw [hf] at hrecord hevents
      obtain ⟨st, hst, hqeq⟩ : ∃ st, (st = RecordState.queued ∨ st = .optimizing) ∧ q = { f with state := st, decision := none } := by
        rw [← hq]
        rcases htable.settled s c.slot with h | ⟨-, h⟩
        · exact ⟨.queued, .inl rfl, h.trans hrecord⟩
        · exact ⟨.optimizing, .inr rfl, by rw [h, hrecord]⟩
      have hnoTrim : f.forcedTrim = none := by
        have := hforced
        simp only [Record.isForced, Bool.or_eq_false_iff, Option.isSome_eq_false_iff, Option.isNone_iff_eq_none] at this
        rw [← hf]
        exact this.2
      refine ⟨by rw [hqeq, ← hf]; exact measured_finalise .., fun _ => ?_, nofun, ?_⟩
      · exact ⟨by rw [hqeq]; exact hst, by rw [hqeq], hdispatch, hanswers⟩
      · have hnone : trimRangeEvents q = [] := by simp [hqeq, trimRangeEvents, hnoTrim]
        rwa [hnone, List.append_nil]
  have hfsilent : f.silent = q.silent := by rw [hmeasured.silent, ← hf]; rfl
  have hsilent : silentEvents f = if q.silent = 0 then [] else
      [event .frame 9 c.lug (single q.silent.toNat) (single (s.record c.slot).contributed.toNat)] := by
    rw [silentEvents, hfsilent, ← hlug, ← hf]
    rfl
  rw [hsilent] at hevents
  have hevents := hevents.settle s (window_of_shadow hshadow _)
  refine ⟨_, hexec, by simp [hmeasure], ?_⟩
  rw [hq]
  refine ⟨hmeasured.present, hmeasured.short, fun h hh => by rw [hmeasured.silent, silentMask_bit _ _ hh], hmeasured.unseen, hmeasured.lug,
    hmeasured.length, hmeasured.marks, hmeasured.held, hmeasured.forcedGrade, hmeasured.forcedTrim, hmeasured.chip,
    hmeasured.contributed, fun hchip htrim => ?_, fun hne => ⟨?_, ?_⟩, fun heq => ?_, fun hor => ?_,
    hevents, htable.othersKept s hset, by simp [hmem]⟩
  · simpa using hqueued (by simp [Record.isForced, hchip, htrim])
  · refine (hevents.pending_iff (by decide)).2 (.inr
      ⟨event .frame 9 c.lug (single q.silent.toNat) (single (s.record c.slot).contributed.toNat), ?_, rfl⟩)
    rw [if_neg hne]
    exact List.mem_append_left _ (List.mem_singleton_self _)
  · rw [hflag]
    exact hnote (hfsilent ▸ hne)
  · simp [hlineGuard, hguard (hfsilent.trans heq)]
  · simpa using hdecided ((isForced_iff _).2 hor)

/-! ### The trim read of a DECIDED record without a decision (O54) -/

/-- A TRIM window of 128 bytes that every master may read, entry 0 of the window table. -/
def trimWindowEntries : List WindowEntry :=
  { base := 0x60000, limit := 0x6007C, control := 0x8000FF05 } :: List.replicate 15 { base := 0, limit := 0, control := 0 }

/-- A RUNNING part whose slot 0 holds a DECIDED record with no decision, with four trim reads held. -/
def decidedWithoutDecision : State :=
  State.setRecord { State.reset with
    shadow := { State.reset.shadow with part := .running, load := none, entries := trimWindowEntries }
    dispatch := { State.reset.dispatch with held := List.replicate 4 { txn := 0, master := 0, slot := 1, lug := 0, hold := 0 } } }
    0 { Record.blank with state := .decided }

theorem decidedWithoutDecision_sound : decidedWithoutDecision.TableSound := by
  rw [tableSound_iff]
  have hrecord : ∀ j, decidedWithoutDecision.record j = if j = 0 then { Record.blank with state := .decided } else Record.blank :=
    fun j => (record_setRecord _ 0 j _ (by decide)).trans (by split; rfl; exact reset_record j)
  refine ⟨?_, fun k _ hlive => ?_, ⟨.nil, nofun⟩, { lugs := nofun, older := .nil, named := fun k _ hqueued => ?_ }⟩
  · exact sized_of_lengths (s := State.reset) (by simp [State.lengths, decidedWithoutDecision, State.setRecord, trimWindowEntries,
      State.reset, Shadow.powerOn]) reset_tableSound.sized
  · rw [hrecord] at hlive ⊢
    split at hlive
    · next hk => simp [hk, Record.blank, slotOf, position, decidedWithoutDecision, State.setRecord, State.reset, Tracker.powerOn]
    · cases hlive
  · rw [hrecord] at hqueued
    split at hqueued <;> cases hqueued

theorem decidedWithoutDecision_reads : ReadsSlot decidedWithoutDecision (.trimRead 0 0x60000) .trim 0 0 0 where
  arrives := by decide
  admitted := ⟨rfl, rfl, by decide, by decide, by decide +kernel, by decide +kernel⟩
  isKind := by decide
  below := by decide

/-- R136: a permitted single-word read of slot `k` of the TRIM window in force is a trim read of that slot. -/
theorem handle_trimRead {s : State} {c : Instr} {j k : Nat} {m : Master} (h : ReadsSlot s c .trim j k m) :
    exec c s = .next (finish (settle s.numbered (trimReadSlot s.bus.nextTxn m k s.numbered))) := by
  obtain ⟨hexec, hoffset⟩ := reads_exec h
  have hk : 4 * k < 128 := by have : k < 32 := h.below; omega
  have hkind : (entryAt s.numbered.shadow.entries j).kind = .trim := h.isKind
  have hoffset' : offsetIn (entryAt s.numbered.shadow.entries j) (windowAddr (entryAt s.shadow.entries j) (4 * k)).toNat = 4 * k := hoffset
  rw [hexec]
  simp only [handle, hkind, hoffset', hk, and_self, if_true]
  rw [Nat.mul_div_cancel_left k (by decide)]

theorem events_of_finish_eq {x y : State} (h : finish x = finish y) : x.events = y.events := by
  simpa using congrArg State.events h

/-- Refutes O54: for a DECIDED record that holds no decision the read is not answered from the record, and with four reads held it is
refused with event HOLD_FULL, which the statement gives to the four undecided states only. -/
theorem not_trimReadAnswers : ¬ Obligations.TrimReadAnswers := by
  unfold Obligations.TrimReadAnswers
  intro h
  obtain ⟨y, hy, -, -, -, -, -, hevents, -⟩ := h.1 _ 0 0 0 _ decidedWithoutDecision_sound decidedWithoutDecision_reads
  have hstate : (decidedWithoutDecision.record 0).state = .decided := by decide
  simp only [hstate] at hevents
  rw [if_neg (by decide)] at hevents
  rw [handle_trimRead decidedWithoutDecision_reads] at hy
  have hsame := events_of_finish_eq (Host.Outcome.next.inj hy)
  have hpending : y.events.classes.getLsbD 3 = true := by
    have hrefused : trimReadSlot decidedWithoutDecision.bus.nextTxn 0 0 decidedWithoutDecision.numbered =
        emit (event .dispatch 1 0 (pair 0 5) (single 0))
          (answer decidedWithoutDecision.bus.nextTxn 0 .error decidedWithoutDecision.numbered) := rfl
    rw [← hsame, settle_events, hrefused]
    exact emit_pending _ _ 3 rfl (by decide)
  rcases (hevents.pending_iff (by decide)).1 hpending with hold | ⟨e, he, -⟩
  · revert hold; decide
  · cases he

end Sys2Proof.Machine
end

section
/-! The update of the tally (O57): the words it writes, and the flag of a counter that saturates. -/

namespace Sys2Proof.Machine

/-! ### The words of an update -/

theorem updateWords_eq (u : TallyUpdate) : updateWords u = countersRaised u := by
  unfold updateWords updateAccesses countersRaised
  cases u.key <;> cases u.forced <;> rfl

/-- The words a write of consecutive words carries. -/
theorem wordsWritten_bankWrite (base : Nat) (bank : Bool) (i : Nat) (ws : List Word) (p : Purpose) :
    wordsWritten (writeBurst (bankWordAddr base bank i) ws p) =
      ((List.range ws.length).map fun j => bankWordAddr base bank (i + j)).zip ws := by
  have haddr : ∀ j, bankWordAddr base bank i + BitVec.ofNat 32 (4 * j) = bankWordAddr base bank (i + j) := fun j => by
    rw [bankWordAddr, bankWordAddr, ← BitVec.ofNat_add]
    congr 1
    omega
  refine List.ext_getElem (by simp [wordsWritten, writeBurst]) fun j h1 h2 => ?_
  simp only [List.length_zip, List.length_map, List.length_range, min_self] at h2
  simp [wordsWritten, writeBurst, haddr, h2, Beat.full]

theorem zip_append_left {α β : Type} (l m : List α) (ys : List β) :
    (l ++ m).zip ys = l.zip (ys.take l.length) ++ m.zip (ys.drop l.length) := by
  induction l generalizing ys with
  | nil => simp
  | cons x l ih => cases ys <;> simp [ih]

/-- The accesses of an update write the new values word by word, whatever their purposes are. -/
theorem writes_words (base : Nat) (bank : Bool) (p : Nat → Purpose) (accs : List (Nat × List Nat)) (sums : List Word) :
    ((List.range accs.length).map fun j => writeBurst (bankWordAddr base bank (accs.getD j (0, [])).1)
      ((sums.drop ((accs.take j).map fun a => a.2.length).sum).take (accs.getD j (0, [])).2.length) (p j)).flatMap wordsWritten =
    ((accs.flatMap fun a => (List.range a.2.length).map fun j => bankWordAddr base bank (a.1 + j)).zip sums) := by
  induction accs generalizing sums p with
  | nil => simp
  | cons a accs ih =>
    have hrest := ih (fun j => p (j + 1)) (sums.drop a.2.length)
    have hfirst : ((List.range (sums.take a.2.length).length).map fun j => bankWordAddr base bank (a.1 + j)).zip (sums.take a.2.length) =
        ((List.range a.2.length).map fun j => bankWordAddr base bank (a.1 + j)).zip (sums.take a.2.length) :=
      List.ext_getElem (by simp) fun j _ _ => by simp
    simp only [List.drop_drop] at hrest
    simp only [List.length_cons, List.range_succ_eq_map, List.map_cons, List.map_map, List.flatMap_cons, wordsWritten_bankWrite,
      zip_append_left, List.length_map, List.length_range]
    rw [← hrest]
    simpa [Function.comp_def] using hfirst

/-- R158: the writes of an update, word by word. -/
theorem updateWrites_words (base : Nat) (u : TallyUpdate) (values : List Word) :
    (updateWrites base u (updateSums u values)).flatMap wordsWritten = ((countersRaised u).zip values).map fun p =>
      (bankWordAddr base u.bank p.1.1, BitVec.ofNat 32 (saturatingSum p.2.toNat p.1.2)) := by
  have haddrs : ((updateAccesses u).flatMap fun a => (List.range a.2.length).map fun j => bankWordAddr base u.bank (a.1 + j)) =
      (updateWords u).map fun p => bankWordAddr base u.bank p.1 := by
    simp [updateWords, List.map_flatMap, Function.comp_def]
  rw [updateWrites, writes_words, haddrs, updateSums, updateWords_eq]
  refine List.ext_getElem (by simp) fun j _ _ => by simp

theorem updateWrites_access (base : Nat) (u : TallyUpdate) (sums : List Word) : ∀ b ∈ updateWrites base u sums,
    (∃ last, b.purpose = .tallyWrite last) ∧ ∃ beats, b.access = .write beats ∧ ∀ x ∈ beats, Beat.isFull x = true := by
  intro b hb
  obtain ⟨j, -, rfl⟩ := List.mem_map.1 hb
  refine ⟨⟨_, rfl⟩, _, rfl, fun x hx => ?_⟩
  obtain ⟨w, -, rfl⟩ := List.mem_map.1 hx
  rfl

/-! ### Saturation -/

/-- The sum of this counter and its amount passes the largest value. -/
def passesMax (p : (Nat × Nat) × Word) : Bool := decide (4294967295 < p.2.toNat + p.1.2)

theorem firstSaturated_eq (u : TallyUpdate) (values : List Word) :
    firstSaturated u values = (((countersRaised u).zip values).find? passesMax).map fun p => p.1.1 := by
  rw [firstSaturated, updateWords_eq]
  induction (countersRaised u).zip values with
  | nil => rfl
  | cons p ps ih =>
    by_cases hp : 4294967295 < p.2.toNat + p.1.2 <;> simp [passesMax, Config.counterMax, hp, ih]

theorem firstSaturated_isSome (u : TallyUpdate) (values : List Word) : (firstSaturated u values).isSome = true ↔
    ∃ (i w amount : Nat) (v : Word), (countersRaised u)[i]? = some (w, amount) ∧ values[i]? = some v ∧
      4294967295 < v.toNat + amount := by
  rw [firstSaturated_eq, Option.isSome_map, List.find?_isSome]
  constructor
  · rintro ⟨p, hp, hpasses⟩
    obtain ⟨i, hi⟩ := List.mem_iff_getElem?.1 hp
    obtain ⟨h1, h2⟩ := List.getElem?_zip_eq_some.1 hi
    exact ⟨i, _, _, _, h1, h2, by simpa [passesMax] using hpasses⟩
  · rintro ⟨i, w, amount, v, h1, h2, hpasses⟩
    exact ⟨((w, amount), v), List.mem_iff_getElem?.2 ⟨i, List.getElem?_zip_eq_some.2 ⟨h1, h2⟩⟩, by simpa [passesMax] using hpasses⟩

/-- R159: the first counter that saturates, in the order of the reads. -/
theorem firstSaturated_of_first {u : TallyUpdate} {values : List Word} {i w amount : Nat} {v : Word}
    (hcounter : (countersRaised u)[i]? = some (w, amount)) (hvalue : values[i]? = some v) (hpasses : 4294967295 < v.toNat + amount)
    (hfirst : ∀ j, j < i → ∀ x a v', (countersRaised u)[j]? = some (x, a) → values[j]? = some v' → v'.toNat + a ≤ 4294967295) :
    firstSaturated u values = some w := by
  have hi : ((countersRaised u).zip values)[i]? = some ((w, amount), v) := List.getElem?_zip_eq_some.2 ⟨hcounter, hvalue⟩
  have hsome : ((countersRaised u).zip values).find? passesMax = some ((w, amount), v) := by
    refine List.find?_eq_some_iff_getElem.2 ⟨by simpa [passesMax] using hpasses, i, (List.getElem?_eq_some_iff.1 hi).1,
      (List.getElem?_eq_some_iff.1 hi).2, fun j hj => ?_⟩
    have hj' : j < ((countersRaised u).zip values).length := hj.trans (List.getElem?_eq_some_iff.1 hi).1
    obtain ⟨h1, h2⟩ := List.getElem?_zip_eq_some.1 (List.getElem?_eq_getElem hj')
    have hbelow := hfirst j hj _ _ _ h1 h2
    simpa [passesMax] using hbelow
  rw [firstSaturated_eq, hsome]
  rfl

theorem setSaturated_values (t : Tally) (bank v : Bool) : (t.setSaturated bank v).saturated bank = v ∧
    (t.setSaturated bank v).saturated (!bank) = t.saturated (!bank) ∧ (t.setSaturated bank v).queue = t.queue ∧
    (t.setSaturated bank v).bank = t.bank ∧ (t.setSaturated bank v).swap = t.swap := by
  cases bank <;> simp [Tally.setSaturated, Tally.saturated]

/-- R154: the accesses of a header write. -/
def headerWrites (t : Tally) (w : Option WindowEntry) : List Burst := match w with
  | some e => [writeBurst (windowAddr e 0) [tallyHeaderWord t] .plain]
  | none => []

theorem writeTallyHeader_internal (s : State) :
    (writeTallyHeader s).bus.internal = s.bus.internal ++ headerWrites s.tally (s.window .tally) := by
  unfold writeTallyHeader headerWrites
  cases s.window .tally <;> simp [issue]

theorem writerStep_plain (w : Option WindowEntry) (x : EventWriter) (e : Event) : ∀ b ∈ (writerStep w x e).2, b.purpose = .plain := by
  simp only [writerStep]
  repeat' split
  all_goals simp [writeBurst]

/-- R159: nothing saturates anew. -/
theorem markSaturated_of_none {u : TallyUpdate} {values : List Word} {s : State}
    (h : s.tally.saturated u.bank = true ∨ firstSaturated u values = none) : markSaturated u values s = s := by
  unfold markSaturated
  split
  · next w hw =>
    rcases h with h | h
    · rw [if_pos h]
    · rw [hw] at h; cases h
  · rfl

/-- R159: the first counter that saturates sets the flag, and header and event are written. -/
theorem markSaturated_of_some {u : TallyUpdate} {values : List Word} {s : State} {w : Nat} (hclear : s.tally.saturated u.bank = false)
    (hw : firstSaturated u values = some w) : markSaturated u values s =
      emit (event .tally 1 u.lug (single u.bank.toNat) (single w))
        (writeTallyHeader { s with tally := s.tally.setSaturated u.bank true }) := by
  simp [markSaturated, hw, hclear]

/-- What the last read of an update makes of its values: the writes (R158). -/
def updateRead (r : TallyRun) (u : TallyUpdate) (vs : List Word) (s : State) : State :=
  issueAll (updateWrites r.base u (updateSums u vs)) { s with tally := { s.tally with engine := some { r with values := vs } } }

theorem tallyRead_last {s : State} {r : TallyRun} {u : TallyUpdate} {rest : List TallyUpdate} (words : List Word)
    (hengine : s.tally.engine = some r) (hqueue : s.tally.queue = u :: rest) :
    tallyRead true words s = markSaturated u (r.values ++ words) (updateRead r u (r.values ++ words) s) := by
  simp only [tallyRead, hengine, if_true, tallyReadsDone]
  split
  · next r' u' rest' hr hu =>
    obtain rfl := Option.some.inj hr
    obtain rfl : u = u' := (List.cons.inj (hqueue.symm.trans hu)).1
    rfl
  · next h => exact absurd hqueue (h _ _ _ rfl)

theorem exec_tallyReadsDone {s : State} {addr : Word} {n : Nat} {r : TallyRun} {u : TallyUpdate} {rest : List TallyUpdate}
    {b : Burst} (hb : b = { addr := addr, access := .read n, purpose := .tallyRead true }) (hport : s.bus.port = some b)
    (hengine : s.tally.engine = some r) (hqueue : s.tally.queue = u :: rest) {vs : List Word}
    (hvs : vs = r.values ++ Memory.readWords s.bus.mem addr.toNat n) :
    exec .tallyReadsDone s = .next (finish (markSaturated u vs (updateRead r u vs (landBurst b s)))) := by
  subst hb hvs
  show done _ = _
  rw [completeIf_of_port hport (by simp)]
  have hlast := tallyRead_last (s := landBurst { addr := addr, access := .read n, purpose := .tallyRead true } s)
    (Memory.readWords s.bus.mem addr.toNat n) hengine hqueue
  simp only [afterBurst, perform_read, hlast, done]

/-- What the counters of a bank are called by their word and address. -/
theorem bankWordAddr_eq (base : Nat) (bank : Bool) (i : Nat) :
    bankWordAddr base bank i = BitVec.ofNat 32 (base + 256 + 1024 * bank.toNat + 4 * i) := by
  simp only [bankWordAddr, bankOffset, Nat.add_assoc]

/-- R159: the two outcomes of the counters' sums: nothing saturates anew, or the first counter that does sets the flag. -/
theorem markSaturated_cases (u : TallyUpdate) (vs : List Word) (s : State) :
    ((s.tally.saturated u.bank = true ∨ firstSaturated u vs = none) ∧ markSaturated u vs s = s) ∨
      (s.tally.saturated u.bank = false ∧ ∃ w, firstSaturated u vs = some w ∧ markSaturated u vs s =
        emit (event .tally 1 u.lug (single u.bank.toNat) (single w))
          (writeTallyHeader { s with tally := s.tally.setSaturated u.bank true })) := by
  cases hflag : s.tally.saturated u.bank with
  | true => exact .inl ⟨.inl rfl, markSaturated_of_none (.inl hflag)⟩
  | false =>
    cases hfirst : firstSaturated u vs with
    | none => exact .inl ⟨.inr rfl, markSaturated_of_none (.inr hfirst)⟩
    | some w => exact .inr ⟨rfl, w, rfl, markSaturated_of_some hflag hfirst⟩

/-- Settles O57. -/
theorem tallyReadsDoneFormsSums : Obligations.TallyReadsDoneFormsSums := by
  unfold Obligations.TallyReadsDoneFormsSums
  intro s addr n r u rest vs hport hengine hqueue hvs
  rw [exec_tallyReadsDone rfl hport hengine hqueue hvs]
  generalize hx : updateRead r u vs (landBurst _ s) = x
  generalize hwrites : updateWrites r.base u (updateSums u vs) = writes
  have hinternal : x.bus.internal = s.bus.internal ++ writes := by simp [← hx, ← hwrites, updateRead, landBurst, issueAll]
  have hmem : x.bus.mem = s.bus.mem := by simp [← hx, updateRead, landBurst]
  obtain ⟨htally, hevents, hshadow, htracker⟩ : x.tally = { s.tally with engine := some { r with values := vs } } ∧
    x.events = s.events ∧ x.shadow = s.shadow ∧ x.tracker = s.tracker := by rw [← hx]; exact ⟨rfl, rfl, rfl, rfl⟩
  have hflag : ∀ bank, x.tally.saturated bank = s.tally.saturated bank := fun bank => by rw [htally]; rfl
  have hwords : writes.flatMap wordsWritten = ((countersRaised u).zip vs).map fun p =>
      (BitVec.ofNat 32 (r.base + 256 + 1024 * u.bank.toNat + 4 * p.1.1), BitVec.ofNat 32 (min (p.2.toNat + p.1.2) 4294967295)) := by
    simp only [← hwrites, updateWrites_words, bankWordAddr_eq]
    rfl
  have haccess := hwrites ▸ updateWrites_access r.base u (updateSums u vs)
  rcases markSaturated_cases u vs x with ⟨hnone, heq⟩ | ⟨hclear, w, hfirst, heq⟩
  · have hsame : (x.tally.saturated u.bank = true ↔ s.tally.saturated u.bank = true ∨ (firstSaturated u vs).isSome = true) := by
      rw [hflag] at hnone ⊢
      rcases hnone with h | h <;> simp [h]
    have hsilent : EventsWritten [] s x := eventsWritten_nil hevents ⟨writes, hinternal⟩
    rw [heq]
    refine ⟨x, writes, [], rfl, by rw [hinternal, List.append_nil], by simp, hwords, haccess, hsame.trans (or_congr_right
      (firstSaturated_isSome u vs)), fun i w amount v hclear hcounter hvalue hpasses hearlier => ?_, fun _ => ⟨hsilent, rfl⟩, hflag _,
      by rw [htally], by rw [htally], by rw [htally], htracker, hshadow, hmem⟩
    have hfirst := firstSaturated_of_first hcounter hvalue hpasses hearlier
    rw [hflag, hclear, hfirst] at hnone
    simp at hnone
  · obtain ⟨hset, hother, hqueue', hbank, hswap⟩ := setSaturated_values x.tally u.bank true
    generalize ht : x.tally.setSaturated u.bank true = t at hset hother hqueue' hbank hswap heq
    generalize hy : writeTallyHeader { x with tally := t } = y at heq
    have hytally : y.tally = t := by simp [← hy]
    have hyinternal : y.bus.internal = s.bus.internal ++ writes ++ headerWrites t (s.window .tally) := by
      rw [← hy, writeTallyHeader_internal, window_of_shadow (s := s) (t := { x with tally := t }) hshadow]
      simp [hinternal]
    have hyevents : y.events = s.events := by simp [← hy, hevents]
    have hyshadow : y.shadow = s.shadow := by simp [← hy, hshadow]
    have hywindow := window_of_shadow hyshadow .event
    have hgrows : Grows s y := ⟨writes ++ headerWrites t (s.window .tally), by rw [hyinternal, List.append_assoc]⟩
    generalize he : event .tally 1 u.lug (single u.bank.toNat) (single w) = e at heq
    have hwritten : EventsWritten [e] s (emit e y) := (eventsWritten_emit e y).after hyevents hywindow hgrows
    have hflagged : (emit e y).tally.saturated u.bank = true := by simpa [hytally] using hset
    rw [heq]
    refine ⟨emit e y, writes, headerWrites t (s.window .tally) ++ (writerStep (y.window .event) y.events e).2, rfl, ?_, fun b hb => ?_,
      hwords, haccess, ⟨fun _ => .inr ((firstSaturated_isSome u vs).1 (by rw [hfirst]; rfl)), fun _ => hflagged⟩,
      fun i w' amount v _ hcounter hvalue hpasses hearlier => ⟨?_, fun e' he' => ?_⟩, fun hsame => ?_, ?_, ?_, ?_, ?_, ?_, ?_, ?_⟩
    · rw [emit_eq, ← List.append_assoc, ← hyinternal]
    · rcases List.mem_append.1 hb with hb | hb
      · cases hw' : s.window .tally with
        | none => simp [hw', headerWrites] at hb
        | some w' =>
          rw [hw', headerWrites, List.mem_singleton] at hb
          rw [hb]
          rfl
      · exact writerStep_plain _ _ _ b hb
    · have hw' := firstSaturated_of_first hcounter hvalue hpasses hearlier
      rw [hfirst] at hw'
      cases hw'
      rwa [he]
    · refine List.mem_append_left _ ?_
      simp [headerWrites, he', hytally]
    · rw [hflagged, ← hflag, hclear] at hsame
      cases hsame
    · simpa [hytally] using hother.trans (hflag _)
    · simpa [hytally] using hqueue'.trans (by rw [htally])
    · simpa [hytally] using hbank.trans (by rw [htally])
    · simpa [hytally] using hswap.trans (by rw [htally])
    · simp [← hy, htracker]
    · simp [hyshadow]
    · simp [← hy, hmem]

end Sys2Proof.Machine
end

section
/-! The read-back of a post (Chapter 6): into what it runs, and what a judgement that touches no board does (O49, O50, O52, O53, O51). -/

namespace Sys2Proof.Machine

/-! ### The end of a read-back -/

/-- The port has completed the read-back of the post `p`, and `p` has left the FIFO (R109). -/
def State.returned (s : State) (p : Post) (rest : List Post) : State :=
  { landBurst (readBurst p.addr 3 .overrideRead) s with overrides := { s.overrides with fifo := rest, readback := .idle } }

/-- The judgement `j` of post `p` is settled, and its result word issued (R111). -/
def State.answered (s : State) (p : Post) (j : State × ResultCode) : State :=
  issue (resultBurst p.addr p.tag j.2 (resultPurpose j.1)) (settle (landBurst (readBurst p.addr 3 .overrideRead) s) j.1)

theorem completeReadback_of_reading {s : State} {p : Post} {rest : List Post} (hreading : s.overrides.readback = .reading)
    (hhead : s.overrides.fifo = p :: rest) (w0 w1 w2 : Word) : completeReadback w0 w1 w2 s =
      (let j := judgeEntry p w0 w1 w2 { s with overrides := { s.overrides with fifo := rest, readback := .idle } }
       issue (resultBurst p.addr p.tag j.2 (resultPurpose j.1)) (settle s j.1)) := by
  simp only [completeReadback, hreading, hhead]

/-- A row of a read-back, named by the kind code in the entry. -/
theorem exec_endsReadback {s : State} {p : Post} {rest : List Post} {w0 w1 w2 : Word} {code : Nat → Bool}
    (h : ReadbackReturns s p rest w0 w1 w2) (hcode : code (entryKindCode w0) = true) :
    completeIf (endsReadback code) s = s.answered p (judgeEntry p w0 w1 w2 (s.returned p rest)) := by
  have hends : endsReadback code s (readBurst p.addr 3 .overrideRead) = true := by
    simp [endsReadback, readBurst, h.reading, returnedWord, h.words, hcode]
  rw [completeIf_of_port h.port hends]
  have hreturned := completeReadback_of_reading (s := landBurst (readBurst p.addr 3 .overrideRead) s) h.reading h.head w0 w1 w2
  have hburst : afterBurst (readBurst p.addr 3 .overrideRead) (Burst.perform s.bus.mem (readBurst p.addr 3 .overrideRead)).2
      (landBurst (readBurst p.addr 3 .overrideRead) s) =
      completeReadback w0 w1 w2 (landBurst (readBurst p.addr 3 .overrideRead) s) := by
    simp [afterBurst, readBurst, h.words]
  rw [hburst, hreturned]
  rfl

theorem exec_kind {s : State} {p : Post} {rest : List Post} {w0 w1 w2 : Word} {kind : OverrideKind}
    (h : ReadbackReturns s p rest w0 w1 w2) (hkind : kindOfCode (entryKindCode w0) = some kind) :
    exec (commandOf kind) s = .next (finish (s.answered p (judgeEntry p w0 w1 w2 (s.returned p rest)))) := by
  have hcode : (kindOfCode (entryKindCode w0) == some kind) = true := by simp [hkind]
  have hrow : exec (commandOf kind) s = done (completeIf (readsKind kind) s) := by cases kind <;> rfl
  rw [hrow]
  exact congrArg done (exec_endsReadback (code := fun c => kindOfCode c == some kind) h hcode)

theorem exec_noKind {s : State} {p : Post} {rest : List Post} {w0 w1 w2 : Word}
    (h : ReadbackReturns s p rest w0 w1 w2) (hkind : kindOfCode (entryKindCode w0) = none) :
    exec .kindCodeOutOfRange s = .next (finish (s.answered p (judgeEntry p w0 w1 w2 (s.returned p rest)))) :=
  congrArg done (exec_endsReadback (code := fun c => kindOfCode c == none) h (by simp [hkind]))

/-- The judgement of an entry that stands, kind by kind. -/
def judgeKind (p : Post) (kind : OverrideKind) (w0 w1 : Word) (s : State) : State × ResultCode := match kind with
  | .binEmpty => (emptyBin (entryKey w0) s, .done)
  | .shift => judgeShift s
  | .ack => (acknowledgeFlags (ackArg w1) s, .done)
  | .alarmTest => (setForce (w1 == 1) s, .done)
  | .sawTest => judgeSawTest (sawArg w1) s
  | .lineReset => judgeLineReset p.master s
  | .grade | .trim | .chip | .mark | .clear | .rescan => judgeBoard kind (lugTag w0) w1 p.addr p.tag s

theorem judgeEntry_of_kind {p : Post} {w0 w1 w2 : Word} {kind : OverrideKind} (s : State) (hmarker : postMarker w2 = true)
    (htag : postTag w2 = p.tag) (hkind : kindOfCode (entryKindCode w0) = some kind)
    (hrange : argOutOfRange kind (entryKey w0) w1 = false) : judgeEntry p w0 w1 w2 s = judgeKind p kind w0 w1 s := by
  simp only [judgeEntry, hmarker, htag, and_self, if_true, hkind, hrange, Bool.false_eq_true, if_false]
  cases kind <;> rfl

/-- Into what the read-back of an entry that stands runs. -/
theorem exec_stands {s : State} {p : Post} {rest : List Post} {w0 w1 w2 : Word} {kind : OverrideKind}
    (h : EntryStands s p rest w0 w1 w2 kind) :
    exec (commandOf kind) s = .next (finish (s.answered p (judgeKind p kind w0 w1 (s.returned p rest)))) := by
  rw [exec_kind h.returns h.isKind, judgeEntry_of_kind _ h.marker h.tag h.isKind h.inRange]

/-! ### What the answer leaves -/

@[simp] theorem answered_frame (s : State) (p : Post) (j : State × ResultCode) :
    (s.answered p j).inputs = j.1.inputs ∧ (s.answered p j).resetAsserted = j.1.resetAsserted ∧
    (s.answered p j).shadow = j.1.shadow ∧ (s.answered p j).tracker.lug = j.1.tracker.lug ∧
    (s.answered p j).tracker.everRan = j.1.tracker.everRan ∧ (s.answered p j).intake = j.1.intake ∧
    (s.answered p j).measure = j.1.measure ∧ (s.answered p j).skip = j.1.skip ∧ (s.answered p j).overrides = j.1.overrides ∧
    (s.answered p j).dispatch = j.1.dispatch ∧ (s.answered p j).tally.queue = j.1.tally.queue ∧
    (s.answered p j).tally.bank = j.1.tally.bank ∧ (s.answered p j).tally.swap = j.1.tally.swap ∧
    (s.answered p j).tally.saturated0 = j.1.tally.saturated0 ∧ (s.answered p j).tally.saturated1 = j.1.tally.saturated1 ∧
    (s.answered p j).lineGuard = j.1.lineGuard ∧ (s.answered p j).events = j.1.events ∧ (s.answered p j).bus.mem = j.1.bus.mem ∧
    (s.answered p j).bus.through = j.1.bus.through ∧ (s.answered p j).bus.answers = j.1.bus.answers := by
  simp [State.answered]

theorem answered_record (s : State) (p : Post) (j : State × ResultCode) (k : Nat) : (s.answered p j).record k =
    (settle (landBurst (readBurst p.addr 3 .overrideRead) s) j.1).record k :=
  record_of_records (by simp [State.answered]) k

theorem answered_optimizer (s : State) (p : Post) (j : State × ResultCode) :
    (s.answered p j).optimizer = (startOptimizer j.1).optimizer := by
  rw [← settle_optimizer (landBurst (readBurst p.addr 3 .overrideRead) s)]
  simp [State.answered]

@[simp] theorem returned_frame (s : State) (p : Post) (rest : List Post) :
    (s.returned p rest).inputs = s.inputs ∧ (s.returned p rest).resetAsserted = s.resetAsserted ∧
    (s.returned p rest).shadow = s.shadow ∧ (s.returned p rest).tracker = s.tracker ∧ (s.returned p rest).intake = s.intake ∧
    (s.returned p rest).measure = s.measure ∧ (s.returned p rest).optimizer = s.optimizer ∧ (s.returned p rest).skip = s.skip ∧
    (s.returned p rest).overrides = { s.overrides with fifo := rest, readback := .idle } ∧
    (s.returned p rest).dispatch = s.dispatch ∧ (s.returned p rest).tally = s.tally ∧ (s.returned p rest).lineGuard = s.lineGuard ∧
    (s.returned p rest).events = s.events ∧ (s.returned p rest).bus.mem = s.bus.mem ∧
    (s.returned p rest).bus.through = s.bus.through ∧ (s.returned p rest).bus.internal = s.bus.internal ∧
    (s.returned p rest).bus.answers = s.bus.answers := by
  simp [State.returned, landBurst, readBurst, Burst.perform]

theorem returned_record (s : State) (p : Post) (rest : List Post) (k : Nat) : (s.returned p rest).record k = s.record k := rfl

theorem returned_tableWithin {s : State} (hs : s.TableSound) (p : Post) (rest : List Post) : (s.returned p rest).TableWithin 30 :=
  ((keeps_of_eq (s := s) (by simp [State.lengths]) (by simp) (by simp) (by simp)).within ((tableSound_iff s).1 hs)).1

theorem resultIssued_answered (s : State) (p : Post) (j : State × ResultCode) : resultIssued (s.answered p j) p j.2 :=
  ⟨_, by simp [State.answered, issue]; rfl⟩

theorem answered_internal (s : State) (p : Post) (j : State × ResultCode) : ∃ more, (∀ b ∈ more, EngineAccess b) ∧
    (s.answered p j).bus.internal = j.1.bus.internal ++ more ++ [resultBurst p.addr p.tag j.2 (resultPurpose j.1)] := by
  obtain ⟨more, hmore, hengine⟩ := settle_engineGrows (landBurst (readBurst p.addr 3 .overrideRead) s) j.1
  exact ⟨more, hengine, by simp [State.answered, issue, hmore]⟩

/-- A judgement that hands no event in and issues nothing itself. -/
theorem noEvent_answered {s : State} {p : Post} {j : State × ResultCode} (hevents : j.1.events = s.events)
    (hinternal : j.1.bus.internal = s.bus.internal) : NoEvent s (s.answered p j) := by
  obtain ⟨more, hengine, hmore⟩ := answered_internal s p j
  exact ⟨by simp [hevents], more, _, by rw [hmore, hinternal], hengine⟩

theorem answered_tally (s : State) (p : Post) (j : State × ResultCode) :
    (s.answered p j).tally = { j.1.tally with engine := (s.answered p j).tally.engine } := by
  have htally := settle_tally (landBurst (readBurst p.addr 3 .overrideRead) s) j.1
  simpa [State.answered] using htally

/-- Records that the judgement has not written. -/
theorem othersKept_answered {s : State} {p : Post} {j : State × ResultCode} {k : Nat} {r : Record} (h : j.1.TableWithin 30)
    (hset : j.1.tracker.records = s.tracker.records.set k r) : othersKept s (s.answered p j) k := fun i hi hik hstate =>
  (answered_record s p j i).trans (h.othersKept _ hset i hi hik hstate)

theorem allKept_answered {s : State} {p : Post} {j : State × ResultCode} (k : Nat) (h : j.1.TableWithin 30)
    (hrecords : j.1.tracker.records = s.tracker.records) : othersKept s (s.answered p j) k := fun i hi hik hstate =>
  (answered_record s p j i).trans (h.allKept _ k hrecords i hi hik hstate)

/-- A judgement that changes nothing is only answered; `s'` is the state before but for the pending-override list. -/
theorem onlyAnswered_of {s s' : State} {p : Post} {j : State × ResultCode} (h : j.1.TableWithin 30)
    (hinputs : j.1.inputs = s'.inputs) (hreset : j.1.resetAsserted = s'.resetAsserted) (htracker : j.1.tracker = s'.tracker)
    (hshadow : j.1.shadow = s'.shadow) (hintake : j.1.intake = s'.intake) (hmeasure : j.1.measure = s'.measure)
    (hoptimizer : j.1.optimizer = s'.optimizer) (hskip : j.1.skip = s'.skip) (hwaiting : j.1.overrides.waiting = s'.overrides.waiting)
    (htrims : j.1.overrides.trimEntries = s'.overrides.trimEntries)
    (hsaws : j.1.overrides.sawMask = s'.overrides.sawMask ∧ j.1.overrides.sawTimer = s'.overrides.sawTimer)
    (hdispatch : j.1.dispatch = s'.dispatch) (htally : j.1.tally = s'.tally) (hguard : j.1.lineGuard = s'.lineGuard)
    (hmem : j.1.bus.mem = s'.bus.mem) (hthrough : j.1.bus.through = s'.bus.through) (hanswers : j.1.bus.answers = s'.bus.answers) :
    OnlyAnswered s' (s.answered p j) where
  inputs := by simp [hinputs]
  released := by simp [hreset]
  lug := by simp [htracker]
  ever := by simp [htracker]
  records i _ hstate := by
    have hrecord := record_of_records (s := s') (t := j.1) (by rw [htracker]) i
    rw [answered_record, h.settled_eq _ (hrecord ▸ hstate), hrecord]
  shadow := by simp [hshadow]
  intake := by simp [hintake]
  measure := by simp [hmeasure]
  optimizer := by
    have htakes := settle_optimizerTakes (landBurst (readBurst p.addr 3 .overrideRead) s) j.1
    rw [OptimizerTakes, settle_optimizer, ← answered_optimizer s p j] at htakes
    exact optimizerTakes_congr htakes hoptimizer (by rw [htracker]) hshadow
  skip := by simp [hskip]
  waiting := by simp [hwaiting]
  trims := by simp [htrims]
  saws := by simp [hsaws]
  dispatch := by simp [hdispatch]
  tally := by rw [answered_tally, htally]
  lineGuard := by simp [hguard]
  mem := by simp [hmem]
  through := by simp [hthrough]
  answers := by simp [hanswers]

/-- The judgement has left the state as the read-back returned it. -/
theorem onlyAnswered_returned {s : State} (hs : s.TableSound) (p : Post) (rest : List Post) (c : ResultCode) :
    OnlyAnswered s (s.answered p (s.returned p rest, c)) :=
  onlyAnswered_of (returned_tableWithin hs p rest) (by simp) (by simp) (by simp) (by simp) (by simp) (by simp) (by simp) (by simp)
    (by simp) (by simp) (by simp) (by simp) (by simp) (by simp) (by simp) (by simp) (by simp)

theorem noEvent_returned (s : State) (p : Post) (rest : List Post) (c : ResultCode) :
    NoEvent s (s.answered p (s.returned p rest, c)) := noEvent_answered (by simp) (by simp)

end Sys2Proof.Machine
end

section
/-! The judgements that touch no record: entries that fail a check (O49), board kinds that reach no record (O50), the saw test (O52),
LINERESET (O53) and the other requests without a board (O51). -/

namespace Sys2Proof.Machine

theorem judgeKind_within {s : State} {p : Post} {rest : List Post} {w0 w1 w2 : Word} {kind : OverrideKind} (hs : s.TableSound)
    (h : EntryStands s p rest w0 w1 w2 kind) : (judgeKind p kind w0 w1 (s.returned p rest)).1.TableWithin 30 := by
  rw [← judgeEntry_of_kind (w2 := w2) _ h.marker h.tag h.isKind h.inRange]
  exact ((judgeEntry_keeps 30 p w0 w1 w2 _).within (returned_tableWithin hs p rest)).1

/-! ### Entries that fail a check (O49) -/

theorem judgeEntry_of_noKind {p : Post} {w0 w1 w2 : Word} (s : State) (hmarker : postMarker w2 = true) (htag : postTag w2 = p.tag)
    (hkind : kindOfCode (entryKindCode w0) = none) : judgeEntry p w0 w1 w2 s = (s, .outOfRange) := by
  simp only [judgeEntry, hmarker, htag, and_self, if_true, hkind]

theorem judgeEntry_of_outOfRange {p : Post} {w0 w1 w2 : Word} {kind : OverrideKind} (s : State) (hmarker : postMarker w2 = true)
    (htag : postTag w2 = p.tag) (hkind : kindOfCode (entryKindCode w0) = some kind) (hrange : argOutOfRange kind (entryKey w0) w1 = true) :
    judgeEntry p w0 w1 w2 s = (s, .outOfRange) := by
  simp only [judgeEntry, hmarker, htag, and_self, if_true, hkind, hrange]

theorem judgeEntry_of_changed {p : Post} {w0 w1 w2 : Word} (s : State) (h : postMarker w2 = false ∨ postTag w2 ≠ p.tag) :
    judgeEntry p w0 w1 w2 s = (emit (event .override 3 s.tracker.lug (single p.index) w2) s, .refused) := by
  unfold judgeEntry
  rw [if_neg]
  · rfl
  · rintro ⟨hmarker, htag⟩
    rcases h with h | h
    · rw [h] at hmarker; cases hmarker
    · exact h htag

theorem toNat_bits_ofNat (w : Word) {n k : Nat} (hk : k ≤ n) : (BitVec.ofNat n (bits w 0 k)).toNat = w.toNat % 2 ^ k := by
  have hlt : w.toNat % 2 ^ k < 2 ^ n := (Nat.mod_lt _ (Nat.two_pow_pos k)).trans_le (Nat.pow_le_pow_right (by decide) hk)
  rw [BitVec.toNat_ofNat, bits, Nat.pow_zero, Nat.div_one, Nat.mod_eq_of_lt hlt]

theorem bits_ofNat_eq_zero (w : Word) (n : Nat) : BitVec.ofNat n (bits w 0 n) = 0 ↔ w.toNat % 2 ^ n = 0 := by
  rw [← BitVec.toNat_inj, toNat_bits_ofNat w le_rfl]
  simp

theorem argOutOfRange_iff (kind : OverrideKind) (key : Nat) (arg : Word) : argOutOfRange kind key arg = true ↔
    (kind = .grade ∧ 7 < arg.toNat) ∨ (kind = .trim ∧ (arg.toNat / 65536 ≤ arg.toNat % 65536 ∨ 12 < arg.toNat / 65536)) ∨
    (kind = .mark ∧ arg.toNat % 4096 = 0) ∨ (kind = .binEmpty ∧ 15 < key) ∨ (kind = .ack ∧ arg.toNat % 64 = 0) ∨
    (kind = .alarmTest ∧ 1 < arg.toNat) := by
  have hmark := bits_ofNat_eq_zero arg 12
  have hack := bits_ofNat_eq_zero arg 6
  have hhalf : arg.toNat / 65536 % 65536 = arg.toNat / 65536 := Nat.mod_eq_of_lt (by have := arg.isLt; omega)
  cases kind with
  | trim => simp [argOutOfRange, trimArg, bits, hhalf]
  | mark => simpa [argOutOfRange, markArg] using hmark
  | ack => simpa [argOutOfRange, ackArg] using hack
  | grade | binEmpty | alarmTest | chip | clear | rescan | shift | sawTest | lineReset => simp [argOutOfRange]

theorem toNat_resultWord (c : ResultCode) (tag : BitVec 15) : (resultWord c tag).toNat = tag.toNat + 2 ^ 16 * c.code := by
  have htag := tag.isLt
  have hcode : c.code < 2 ^ 4 := by cases c <;> decide
  have hsum : [place tag.toNat 0 15, place c.code 16 4].sum = tag.toNat + 2 ^ 16 * c.code := by
    simp only [place_eq, List.sum_cons, List.sum_nil, Nat.mod_eq_of_lt htag, Nat.mod_eq_of_lt hcode]
    omega
  rw [resultWord, toNat_wordOf (by omega), hsum]

theorem entryLayout : EntryLayout where
  key _ := by simp [entryKey, bits]
  code _ := rfl
  marker _ := rfl
  tag w := toNat_bits_ofNat w le_rfl
  kinds := by decide
  outOfRange := argOutOfRange_iff
  result := toNat_resultWord
  results := rfl

/-- The judgement `j` has written the event `e` and changed nothing else. -/
theorem onlyAnswered_emit {s : State} (hs : s.TableSound) (p : Post) (rest : List Post) (e : Event) (c : ResultCode) :
    OnlyAnswered s (s.answered p (emit e (s.returned p rest), c)) :=
  onlyAnswered_of (((emitAll_keeps 30 [e] (s.returned p rest)).within (returned_tableWithin hs p rest)).1) (by simp) (by simp) (by simp)
    (by simp) (by simp) (by simp) (by simp) (by simp) (by simp) (by simp) (by simp) (by simp) (by simp) (by simp) (by simp) (by simp)
    (by simp)

/-- Settles O49. -/
theorem failedEntriesHaveNoEffect : Obligations.FailedEntriesHaveNoEffect := by
  unfold Obligations.FailedEntriesHaveNoEffect
  refine ⟨fun s p rest w0 w1 w2 hs h => ⟨fun hmarker htag hkind => ?_, fun kind hmarker htag hkind hrange => ?_,
    fun c hc hchanged => ?_⟩, entryLayout⟩
  · rw [exec_noKind h hkind, judgeEntry_of_noKind _ hmarker htag hkind]
    exact ⟨_, rfl, onlyAnswered_returned hs p rest _, noEvent_returned s p rest _, by simp, by simp, resultIssued_answered ..⟩
  · rw [exec_kind h hkind, judgeEntry_of_outOfRange _ hmarker htag hkind hrange]
    exact ⟨_, rfl, onlyAnswered_returned hs p rest _, noEvent_returned s p rest _, by simp, by simp, resultIssued_answered ..⟩
  · have hrun : exec c s = .next (finish (s.answered p (judgeEntry p w0 w1 w2 (s.returned p rest)))) := by
      rcases hc with ⟨hkind, rfl⟩ | ⟨kind, hkind, rfl⟩
      · exact exec_noKind h hkind
      · exact exec_kind h hkind
    rw [hrun, judgeEntry_of_changed _ hchanged]
    refine ⟨_, rfl, onlyAnswered_emit hs p rest _ _, by simp, by simp, ?_, ?_, resultIssued_answered ..⟩
    · simp [emit_classes, event, EventClass.code]
    · rw [(answered_frame ..).2.2.2.2.2.2.2.2.2.2.2.2.2.2.2.2.1]
      exact emit_events_congr _ rfl rfl

/-! ### Board kinds that reach no record (O50) -/

/-- R112, by its cases, when the override is not judged against an uncommitted live record. -/
theorem lugJudgement_cases (s : State) (lug : Lug)
    (h : ¬ (position s.tracker.lug lug < commitPosition s.shadow.words ∧ (s.record (slotOf lug)).live = true ∧
      (s.record (slotOf lug)).lug = lug ∧ (s.record (slotOf lug)).committed = false)) :
    lugJudgement s lug = some (if position s.tracker.lug lug < commitPosition s.shadow.words then
        (if (s.record (slotOf lug)).live = true ∧ (s.record (slotOf lug)).lug = lug then .tooLate else .noBoard)
      else if position s.tracker.lug lug ≤ 31 then .tooLate
      else if 1 ≤ position lug s.tracker.lug ∧ position lug s.tracker.lug ≤ 8 then
        (if s.overrides.waiting.length < 8 then .pending else .pendingFull)
      else .outOfRange) := by
  simp only [lugJudgement]
  by_cases hnear : position s.tracker.lug lug < commitPosition s.shadow.words
  · rw [if_pos hnear, if_pos hnear]
    by_cases hboard : (s.record (slotOf lug)).live = true ∧ (s.record (slotOf lug)).lug = lug
    · have hcommitted : (s.record (slotOf lug)).committed = true := by
        cases hc : (s.record (slotOf lug)).committed with
        | true => rfl
        | false => exact absurd ⟨hnear, hboard.1, hboard.2, hc⟩ h
      simp [hboard, hcommitted]
    · simp only [hboard, if_false]
      have : (!(s.record (slotOf lug)).live || (s.record (slotOf lug)).lug != lug) = true := by
        simpa [imp_iff_not_or] using hboard
      simp [this]
  · simp only [hnear, if_false]
    split <;> rename_i hfar
    · rfl
    · split <;> rename_i hahead
      · split <;> rfl
      · rfl

theorem judgeBoard_of_some {kind : OverrideKind} {lug : Lug} {arg addr : Word} {tag : BitVec 15} {s : State} {c : ResultCode}
    (h : lugJudgement s lug = some c) : judgeBoard kind lug arg addr tag s =
      (if c = .pending then joinWaiting { lug := lug, kind := kind, arg := arg, addr := addr, tag := tag } s else s, c) := by
  rw [judgeBoard, h]
  cases c <;> rfl

theorem judgeKind_board {p : Post} {kind : OverrideKind} {w0 w1 : Word} {s : State}
    (hkind : kind = .grade ∨ kind = .trim ∨ kind = .chip ∨ kind = .mark ∨ kind = .clear ∨ kind = .rescan) :
    judgeKind p kind w0 w1 s = judgeBoard kind (lugTag w0) w1 p.addr p.tag s := by
  rcases hkind with rfl | rfl | rfl | rfl | rfl | rfl <;> rfl

/-- Settles O50. -/
theorem boardKindsJudgedByDistance : Obligations.BoardKindsJudgedByDistance := by
  unfold Obligations.BoardKindsJudgedByDistance
  intro s p rest w0 w1 w2 kind d ahead C hs hkind h hd hahead hC hnone
  subst hd hahead hC
  have hwithin := judgeKind_within hs h
  have hjudged := lugJudgement_cases (s.returned p rest) (lugTag w0) hnone
  rw [exec_stands h]
  rw [judgeKind_board hkind, judgeBoard_of_some hjudged] at hwithin ⊢
  generalize hcode : (if position (s.returned p rest).tracker.lug (lugTag w0) < commitPosition (s.returned p rest).shadow.words then
      _ else _ : ResultCode) = code at hwithin ⊢
  refine ⟨_, code, rfl, ?_, resultIssued_answered .., allKept_answered 32 hwithin ?_, fun hne => ?_, hcode.symm, ?_, ?_, fun heq => ?_⟩
  · split <;> simp [joinWaiting]
  · split <;> simp [joinWaiting]
  · rw [if_neg hne]
    exact onlyAnswered_returned hs p rest _
  · refine noEvent_answered ?_ ?_ <;> split <;> simp [joinWaiting]
  · split <;> simp [joinWaiting]
  · rw [if_pos heq] at hwithin ⊢
    exact onlyAnswered_of hwithin (by simp [joinWaiting]) (by simp [joinWaiting]) (by simp [joinWaiting]) (by simp [joinWaiting])
      (by simp [joinWaiting]) (by simp [joinWaiting]) (by simp [joinWaiting]) (by simp [joinWaiting]) (by simp [joinWaiting])
      (by simp [joinWaiting]) (by simp [joinWaiting]) (by simp [joinWaiting]) (by simp [joinWaiting]) (by simp [joinWaiting])
      (by simp [joinWaiting]) (by simp [joinWaiting]) (by simp [joinWaiting])

/-! ### The saw test (O52) -/

theorem toNat_sawArg (w : Word) : (sawArg w) = BitVec.ofNat 13 (w.toNat % 8192) := by
  simp [sawArg, bits]

theorem sawArg_eq_zero (w : Word) : sawArg w = 0 ↔ w.toNat % 8192 = 0 := bits_ofNat_eq_zero w 13

theorem expireSawTest_within {s : State} (hs : s.TableSound) : (expireSawTest s).TableWithin 30 := by
  have hkeeps : Keeps 30 s (expireSawTest s) := by
    unfold expireSawTest
    split
    · exact keeps_of_eq (by simp [State.lengths]) (by simp) (by simp) (by simp)
    · exact .refl _ _
  exact (hkeeps.within ((tableSound_iff s).1 hs)).1

/-- Settles O52. -/
theorem sawTestSetsAndExpires : Obligations.SawTestSetsAndExpires := by
  unfold Obligations.SawTestSetsAndExpires
  refine ⟨fun s p rest w0 w1 w2 hs h => ?_, fun s n hs hrunning htimer => ?_, fun s htimer => ?_⟩
  · have hwithin := judgeKind_within hs h
    refine ⟨_, exec_stands h, ?_⟩
    by_cases hsafety : safetyTime s.shadow.words = 0
    · have hjudged : judgeKind p .sawTest w0 w1 (s.returned p rest) = (s.returned p rest, .refused) := if_pos hsafety
      rw [hjudged] at hwithin ⊢
      exact ⟨noEvent_returned .., by simp, allKept_answered 32 hwithin (by simp),
        fun _ => ⟨resultIssued_answered .., onlyAnswered_returned hs p rest _⟩, fun hpos => absurd hsafety hpos.ne', by simp, by simp,
        by simp, by simp⟩
    · have hzero : sawArg w1 = 0#13 ↔ w1.toNat % 8192 = 0 := sawArg_eq_zero w1
      have hjudged : judgeKind p .sawTest w0 w1 (s.returned p rest) = _ := if_neg hsafety
      rw [hjudged] at hwithin ⊢
      exact ⟨noEvent_answered (by simp) (by simp), by simp, allKept_answered 32 hwithin (by simp), fun hzero => absurd hzero hsafety,
        fun _ => ⟨resultIssued_answered .., by simp [toNat_sawArg], by simp [hzero]⟩, by simp, by simp, by simp, by simp⟩
  · have hexec : exec .sawTestExpiry s = .next (finish (settle s (expireSawTest s))) := congrArg done (if_pos hrunning)
    have hexpire : expireSawTest s = emit (event .override 4 s.tracker.lug (single s.overrides.sawMask.toNat) (single n))
        { s with overrides := { s.overrides with sawMask := 0, sawTimer := none } } := by
      simp only [expireSawTest, htimer]
      rfl
    have hwithin := expireSawTest_within hs
    rw [hexpire] at hexec hwithin
    have hevents : EventsWritten _ s _ := (eventsWritten_emit (event .override 4 s.tracker.lug (single s.overrides.sawMask.toNat)
      (single n)) { s with overrides := { s.overrides with sawMask := 0, sawTimer := none } }).after (s := s) rfl rfl (grows_of_eq rfl)
    refine ⟨_, hexec, by simp, ?_, hevents.settle s (by simp [State.window]), hwithin.allKept s 32 (by simp), by simp, by simp, by simp⟩
    simp [emit_classes, event, EventClass.code]
  · have hsame : whenRunning (fun s => settle s (expireSawTest s)) s = whenRunning (fun s => settle s s) s := by
      simp [whenRunning, expireSawTest, htimer]
    refine ⟨_, congrArg done hsame, ?_, ?_⟩ <;> unfold whenRunning <;> split <;> simp

/-! ### LINERESET (O53) -/

theorem writerMask_bit (ws : List Word) (m : Master) : (writerMask ws).getLsbD m.toNat = (setupWord ws 1).getLsbD m.toNat := by
  have hm : m.toNat < 8 := m.isLt
  rw [writerMask, getLsbD_ofNat_bits]
  simp [hm]

/-- Settles O53. -/
theorem lineResetNeedsASetupWriter : Obligations.LineResetNeedsASetupWriter := by
  unfold Obligations.LineResetNeedsASetupWriter
  intro s p rest w0 w1 w2 hs h
  have hwithin := judgeKind_within hs h
  refine ⟨_, exec_stands h, ?_⟩
  cases hwriter : (setupWord s.shadow.words 1).getLsbD p.master.toNat with
  | true =>
    have hjudged : judgeKind p .lineReset w0 w1 (s.returned p rest) =
        ({ s.returned p rest with shadow := { s.shadow with phase := .accepted p.master } }, .done) :=
      if_pos ((writerMask_bit ..).trans hwriter)
    rw [hjudged] at hwithin ⊢
    refine ⟨noEvent_answered (by simp) (by simp), by simp, allKept_answered 32 hwithin (by simp), by simp, by simp, by simp, by simp,
      fun _ => ⟨by simp, ?_⟩, by simp⟩
    simp [State.answered, issue, resultPurpose]
  | false =>
    have hjudged : judgeKind p .lineReset w0 w1 (s.returned p rest) = (s.returned p rest, .refused) :=
      if_neg (by simpa using (writerMask_bit ..).trans hwriter)
    rw [hjudged] at hwithin ⊢
    exact ⟨noEvent_returned .., by simp, allKept_answered 32 hwithin (by simp), by simp, by simp, by simp, by simp, by simp,
      fun _ => ⟨resultIssued_answered .., onlyAnswered_returned hs p rest _⟩⟩

/-! ### Requests without a board (O51) -/

/-- R163, R164: the tally unit taken up in TALLY window `w`. -/
def Tally.takenUp (t : Tally) (w : Option WindowEntry) : Tally := { t with swap := t.swap.map (resumed w) }

/-- The header is written, and a zeroing not ended begins from its first burst, if a TALLY window is in force. -/
theorem beginZeroing_header (x : State) :
    (beginZeroing (writeTallyHeader x)).tally = x.tally.takenUp (x.window .tally) ∧
    (beginZeroing (writeTallyHeader x)).bus.internal =
      x.bus.internal ++ tallyWrites (x.tally.takenUp (x.window .tally)) (x.window .tally) := by
  have hheader := writeTallyHeader_internal x
  have hwindow : (writeTallyHeader x).window .tally = x.window .tally := by simp [State.window]
  simp only [beginZeroing, writeTallyHeader_frame, hwindow, Tally.takenUp]
  cases hswap : x.tally.swap with
  | none =>
    have hsame : ({ x.tally with swap := none } : Tally) = x.tally := by rw [← hswap]
    cases hw : x.window .tally <;> simp [hw, hheader, headerWrites, tallyWrites, hsame]
  | some y =>
    by_cases hended : y.zeroing = .ended
    · have hsame : ({ x.tally with swap := some y } : Tally) = x.tally := by rw [← hswap]
      cases hw : x.window .tally <;> simp [hw, hheader, headerWrites, tallyWrites, resumed, hended, hsame]
    · cases hw : x.window .tally with
      | none => simp [hw, hheader, headerWrites, tallyWrites, resumed, hended]
      | some e =>
        simp [hw, hheader, headerWrites, tallyWrites, tallyHeaderWord, hswap, resumed, hended, issue, zeroBurst, bankWordAddr,
          bankOffset, Nat.add_assoc]

/-- R161: the tally unit as a swap begins. -/
def Tally.swapBegun (t : Tally) : Tally :=
  { t.setSaturated (!t.bank) false with bank := !t.bank, swap := some { done := 0, zeroing := .waiting } }

theorem swapBegun_saturated (t : Tally) : t.swapBegun.saturated (!t.bank) = false ∧
    t.swapBegun.saturated t.bank = t.saturated t.bank ∧ t.swapBegun.queue = t.queue := by
  cases hbank : t.bank <;> simp [Tally.swapBegun, Tally.setSaturated, Tally.saturated, hbank]

theorem beginSwap_values (s : State) : (beginSwap s).tally = s.tally.swapBegun.takenUp (s.window .tally) ∧
    (beginSwap s).bus.internal = s.bus.internal ++ tallyWrites (s.tally.swapBegun.takenUp (s.window .tally)) (s.window .tally) :=
  beginZeroing_header { s with tally := s.tally.swapBegun }

/-- Settles O51. -/
theorem requestsWithoutABoard : Obligations.RequestsWithoutABoard := by
  unfold Obligations.RequestsWithoutABoard
  intro s p rest w0 w1 w2 hs
  refine ⟨fun h => ?_, fun h => ?_, fun h => ?_, fun h => ?_⟩ <;>
  have hwithin := judgeKind_within hs h <;> refine ⟨_, exec_stands h, ?_⟩
  · have hkey : entryKey w0 ≤ 15 := by simpa [argOutOfRange] using h.inRange
    simp only [judgeKind, emptyBin] at hwithin ⊢
    exact ⟨noEvent_answered (by simp) (by simp), by simp, allKept_answered 32 hwithin (by simp), resultIssued_answered .., hkey,
      by simp, by simp, by simp, by simp⟩
  · cases hswap : s.tally.swap with
    | none =>
      have hjudged : judgeKind p .shift w0 w1 (s.returned p rest) = (beginSwap (s.returned p rest), .done) := by
        simp [judgeKind, judgeShift, hswap]
      rw [hjudged] at hwithin ⊢
      obtain ⟨htally, hinternal⟩ := beginSwap_values (s.returned p rest)
      obtain ⟨more, hengine, hmore⟩ := answered_internal s p (beginSwap (s.returned p rest), .done)
      have hy := (answered_tally s p (beginSwap (s.returned p rest), .done)).trans (by rw [htally])
      obtain ⟨hclear, hother, hqueue⟩ := swapBegun_saturated s.tally
      refine ⟨by simp, allKept_answered 32 hwithin (by simp), ?_, by simp, by simp, by simp, by simp,
        fun _ => ⟨?_, ?_, ?_, ?_, by simp, more, resultPurpose (beginSwap (s.returned p rest)), hengine, ?_⟩, by simp⟩
      · rw [hy]; exact hqueue
      · rw [hy]; rfl
      · rw [hy]; rfl
      · rw [hy]; exact hclear
      · rw [hy]; exact hother
      · rw [hmore, hinternal, hy]
        rfl
    | some x =>
      have hjudged : judgeKind p .shift w0 w1 (s.returned p rest) = (s.returned p rest, .busy) := by
        simp [judgeKind, judgeShift, hswap]
      rw [hjudged] at hwithin ⊢
      exact ⟨by simp, allKept_answered 32 hwithin (by simp), by simp, by simp, by simp, by simp, by simp, fun hnone => by simp at hnone,
        fun _ => ⟨resultIssued_answered .., onlyAnswered_returned hs p rest _, noEvent_returned ..⟩⟩
  · simp only [judgeKind, acknowledgeFlags] at hwithin ⊢
    refine ⟨noEvent_answered (by simp) (by simp), by simp, allKept_answered 32 hwithin (by simp), resultIssued_answered ..,
      by simp, by simp, by simp, by simp, fun i hi => ?_⟩
    have hbit : (ackArg w1).getLsbD i = w1.getLsbD i := by
      rw [ackArg, getLsbD_ofNat_bits]
      simp [hi]
    simp [State.flag, List.getElem?_map, List.getElem?_range hi, hbit, GuardFlag.acknowledge]
  · have hw1 : w1 = 1 ∨ w1 = 0 := by
      have hle : w1.toNat ≤ 1 := by simpa [argOutOfRange] using h.inRange
      rcases Nat.le_one_iff_eq_zero_or_eq_one.1 hle with h | h
      · exact .inr (BitVec.eq_of_toNat_eq h)
      · exact .inl (BitVec.eq_of_toNat_eq h)
    simp only [judgeKind, setForce] at hwithin ⊢
    refine ⟨noEvent_answered (by simp) (by simp), by simp, allKept_answered 32 hwithin (by simp), resultIssued_answered ..,
      hw1, by simp [beq_eq_decide], fun hone => ?_, by simp, by simp, by simp⟩
    refine ((almoutLevel_iff _).2 (.inr (.inr (.inl ?_))) : almoutLevel (finish _) = true)
    simp [hone]

end Sys2Proof.Machine
end

section
/-! Board kinds judged against an uncommitted live record (R112 to R116, R39): its parts are stored (O45), it is sent back (O46), decided
at once (O47) or reopened (O48). -/

namespace Sys2Proof.Machine

/-! ### Into what such a judgement runs -/

theorem lugJudgement_of_judged {s : State} {w0 : Word} {k : Nat} (h : Judged s w0 k) : lugJudgement s (lugTag w0) = none := by
  simp only [lugJudgement, h.slot]
  simp [h.near, h.live, h.lug, h.uncommitted]

theorem exec_board {s : State} {p : Post} {rest : List Post} {w0 w1 w2 : Word} {kind : OverrideKind} {k : Nat}
    (hkind : kind = .grade ∨ kind = .trim ∨ kind = .chip ∨ kind = .mark ∨ kind = .clear ∨ kind = .rescan)
    (h : EntryStands s p rest w0 w1 w2 kind) (hj : Judged s w0 k) :
    exec (commandOf kind) s = .next (finish (s.answered p (applyOverride kind k w1 p.addr p.tag (s.returned p rest)))) := by
  rw [exec_stands h, judgeKind_board hkind, judgeBoard, lugJudgement_of_judged (s := s.returned p rest) ⟨hj.slot, hj.near, hj.live,
    hj.lug, hj.uncommitted⟩, hj.slot]

theorem board_within {s : State} (hs : s.TableSound) (p : Post) (rest : List Post) {w0 : Word} {k : Nat} (hj : Judged s w0 k)
    (kind : OverrideKind) (w1 : Word) : (applyOverride kind k w1 p.addr p.tag (s.returned p rest)).1.TableWithin 30 :=
  ((applyOverride_keeps (s := s.returned p rest) kind w1 p.addr p.tag hj.live fun _ => hj.uncommitted).within
    (returned_tableWithin hs p rest)).1

theorem slot_of_judged {s : State} (hs : s.TableSound) {w0 : Word} {k : Nat} (hj : Judged s w0 k) : k < 32 :=
  slot_of_not_free hs.sized fun hfree => by
    have := hj.live
    simp [hfree, Record.live] at this

/-! ### The parts of an override (R114 to R116) -/

theorem applyPart_parts (r : Record) {kind : OverrideKind} (arg : Word)
    (hkind : kind = .grade ∨ kind = .trim ∨ kind = .chip ∨ kind = .mark ∨ kind = .clear) : r.applyPart kind arg = { r with
      forcedGrade := if kind = .grade then some arg.toNat else if kind = .clear then none else r.forcedGrade
      forcedTrim := if kind = .trim then some (arg.toNat % 65536, arg.toNat / 65536)
        else if kind = .chip ∨ kind = .clear then none else r.forcedTrim
      chip := decide (kind = .chip) || (r.chip && decide (kind = .grade ∨ kind = .mark))
      marks := if kind = .mark then r.marks ||| BitVec.ofNat 12 (arg.toNat % 4096)
        else if kind = .clear then 0 else r.marks } := by
  have hhalf : arg.toNat / 65536 % 65536 = arg.toNat / 65536 := Nat.mod_eq_of_lt (by have := arg.isLt; omega)
  rcases hkind with rfl | rfl | rfl | rfl | rfl <;> simp [Record.applyPart, trimArg, markArg, bits, hhalf]

theorem applyPart_trims (k : Nat) (kind : OverrideKind) (arg addr : Word) (tag : BitVec 15) (s : State) :
    (applyPart k kind arg addr tag s).overrides.trimEntries =
      if kind = .trim then s.overrides.trimEntries.set k (some { addr := addr, tag := tag })
      else if kind = .chip ∨ kind = .clear then s.overrides.trimEntries.set k none else s.overrides.trimEntries := by
  cases kind <;> rfl

/-! ### A record still being measured (O45) -/

theorem open_iff (st : RecordState) : st.open_ = true ↔ st = .scanning ∨ st = .closing := by
  cases st <;> simp [RecordState.open_]

theorem applyOverride_of_open {kind : OverrideKind} {k : Nat} {arg addr : Word} {tag : BitVec 15} {s : State}
    (hopen : (s.record k).state = .scanning ∨ (s.record k).state = .closing) : applyOverride kind k arg addr tag s =
      if kind = .rescan then (s, .busy) else (applyPart k kind arg addr tag s, .done) := by
  simp only [applyOverride]
  rw [if_pos ((open_iff _).2 hopen)]

/-- Settles O45. -/
theorem openRecordStoresOverride : Obligations.OpenRecordStoresOverride := by
  unfold Obligations.OpenRecordStoresOverride
  intro s p rest w0 w1 w2 kind k hs hkind h hj hopen
  have hboard : kind = .grade ∨ kind = .trim ∨ kind = .chip ∨ kind = .mark ∨ kind = .clear ∨ kind = .rescan := by tauto
  have hrescan : kind ≠ .rescan := by rintro rfl; simp at hkind
  have hwithin := board_within hs p rest hj kind w1
  rw [exec_board hboard h hj]
  rw [applyOverride_of_open (s := s.returned p rest) hopen, if_neg hrescan] at hwithin ⊢
  have hset := applyPart_records k kind w1 p.addr p.tag (s.returned p rest)
  have hk := slot_of_judged hs hj
  have hrecord := record_set_self (s := s.returned p rest) hs.sized.records hk hset
  rw [applyPart_parts _ _ hkind] at hrecord
  refine ⟨_, rfl, noEvent_answered (by simp) (by simp), ?_, ?_, resultIssued_answered .., by simp, by simp,
    othersKept_answered hwithin hset, by simp, by simp, by simp, by simp, by simp, by simp⟩
  · rw [answered_record, hwithin.settled_eq _ (by rw [hrecord]; rcases hopen with ho | ho <;> simp [returned_record, ho]), hrecord]
    rfl
  · rw [(answered_frame ..).2.2.2.2.2.2.2.2.1, applyPart_trims]
    rfl

/-! ### A record taken in again (O48) -/

theorem applyOverride_rescan {k : Nat} {arg addr : Word} {tag : BitVec 15} {s : State}
    (hmeasured : (s.record k).state.open_ = false) : applyOverride .rescan k arg addr tag s = (acceptRescan k s, .done) := by
  simp [applyOverride, hmeasured]

theorem acceptRescan_values (k : Nat) (s : State) :
    (acceptRescan k s).tracker.records = s.tracker.records.set k (s.record k).reopen ∧
    (acceptRescan k s).optimizer.queue = s.optimizer.queue.filter (fun e => e.slot != k) ∧
    (acceptRescan k s).intake = { s.intake with queue := s.intake.queue ++ (s.record k).held.map fun q =>
      { head := q.1, slot := q.2, kind := .readBack (s.record k).lug, awaiting := none } } ∧
    (acceptRescan k s).measure = (beginClose k (s.record k).lug true (s.record k).held.getLast? s).measure := by
  refine ⟨by simp [acceptRescan, State.setRecord], by simp [acceptRescan, State.setRecord, leaveDecisionQueue], ?_, ?_⟩
  · simp [acceptRescan, State.setRecord]
  · simp only [acceptRescan, beginClose]
    split <;> simp [State.setRecord]

/-- Settles O48. -/
theorem rescanReopensRecord : Obligations.RescanReopensRecord := by
  unfold Obligations.RescanReopensRecord
  intro s p rest w0 w1 w2 k hs h hj
  have hwithin := board_within hs p rest hj .rescan w1
  rw [show (Instr.rescan : Instr) = commandOf .rescan from rfl, exec_board (by simp) h hj]
  cases hopen : (s.record k).state.open_ with
  | true =>
    have hstate := (open_iff _).1 hopen
    rw [applyOverride_of_open (s := s.returned p rest) hstate, if_pos rfl] at hwithin ⊢
    refine ⟨_, rfl, noEvent_returned .., by simp, by simp, by simp, by simp, allKept_answered k hwithin (by simp), fun hmeasured => ?_,
      fun _ => ⟨resultIssued_answered .., ?_, by simp, by simp⟩⟩
    · rcases hstate with hs' | hs' <;> simp [hs'] at hmeasured
    · rw [answered_record, hwithin.settled_eq]
      · rfl
      · rcases hstate with hs' | hs' <;> simp [returned_record, hs']
  | false =>
    rw [applyOverride_rescan (s := s.returned p rest) hopen] at hwithin ⊢
    obtain ⟨hset, hqueue, hintake, hmeasure⟩ := acceptRescan_values k (s.returned p rest)
    have hrecord := record_set_self (s := s.returned p rest) hs.sized.records (slot_of_judged hs hj) hset
    refine ⟨_, rfl, noEvent_answered (by simp) (by simp), by simp, by simp, by simp, by simp, othersKept_answered hwithin hset,
      fun _ => ⟨resultIssued_answered .., ?_, ?_, fun hheld => ?_, fun hheld => ?_, fun e he => ?_⟩, fun hstate => ?_⟩
    · rw [answered_record, hwithin.settled_eq _ (by rw [hrecord]; nofun), hrecord]
      rfl
    · simpa [returned_record] using hintake
    · simp [returned_record, hmeasure, beginClose, List.getLast?_eq_some_getLast hheld]
    · simp [returned_record, hmeasure, beginClose, hheld]
    · rw [answered_optimizer] at he
      have hin := startOptimizer_queue_sub _ e he
      rw [hqueue] at hin
      simpa using (List.mem_filter.1 hin).2
    · rw [(open_iff _).2 hstate] at hopen
      cases hopen

/-! ### A measured record decided at once (O47) -/

theorem chipOrTrim_board {kind : OverrideKind} (hkind : kind = .trim ∨ kind = .chip) :
    kind = .grade ∨ kind = .trim ∨ kind = .chip ∨ kind = .mark ∨ kind = .clear ∨ kind = .rescan := by tauto

/-- The work of the slot has ended: neither the queue nor a run names it. -/
def State.workless (k : Nat) (s : State) : State := abandonRun k (leaveDecisionQueue k s)

@[simp] theorem workless_frame (k : Nat) (s : State) : (s.workless k).inputs = s.inputs ∧
    (s.workless k).resetAsserted = s.resetAsserted ∧ (s.workless k).shadow = s.shadow ∧ (s.workless k).tracker = s.tracker ∧
    (s.workless k).intake = s.intake ∧ (s.workless k).measure = s.measure ∧
    (s.workless k).optimizer.queue = s.optimizer.queue.filter (fun e => e.slot != k) ∧ (s.workless k).skip = s.skip ∧
    (s.workless k).overrides = s.overrides ∧ (s.workless k).dispatch = s.dispatch ∧ (s.workless k).tally = s.tally ∧
    (s.workless k).lineGuard = s.lineGuard ∧ (s.workless k).events = s.events ∧ (s.workless k).bus = s.bus := by
  simp [State.workless, leaveDecisionQueue]

theorem workless_run {k : Nat} {s : State} {u : Run} (h : (s.workless k).optimizer.run = some u) : u.slot ≠ k := by
  unfold State.workless abandonRun at h
  split at h
  · next r hr =>
    split at h
    · cases h
    · next hne =>
      rw [hr] at h
      cases h
      exact hne
  · next hr =>
    rw [hr] at h
    cases h

/-- A forced decision in the own judgement of its override writes no event (R78). -/
theorem forceDecision_own (k : Nat) (s : State) : forceDecision k true s =
    writeDecision k (forcedDecision s.shadow.words (s.record k)) (gradedSegments s.shadow.words (s.record k)) true s := by
  simp [forceDecision]

theorem applyOverride_forced {kind : OverrideKind} {k : Nat} {arg addr : Word} {tag : BitVec 15} {s : State}
    (hkind : kind = .trim ∨ kind = .chip) (hmeasured : (s.record k).state.open_ = false) : applyOverride kind k arg addr tag s =
      (forceDecision k true ((applyPart k kind arg addr tag s).workless k),
        if trimBeyond ((applyPart k kind arg addr tag s).record k) then .outOfRange else .done) := by
  simp only [applyOverride, hmeasured, Bool.false_eq_true, if_false]
  rcases hkind with rfl | rfl <;> rfl

/-- R76: a chip, and a forced trim beyond the board. -/
theorem forcedDecision_reject {ws : List Word} {r : Record} (h : r.forcedTrim = none ∨ ∃ a b, r.forcedTrim = some (a, b) ∧ r.present < b) :
    forcedDecision ws r = rejectDecision r := by
  rcases h with h | ⟨a, b, h, hbeyond⟩
  · simp [forcedDecision, h]
  · simp [forcedDecision, h, hbeyond]

/-- R75, R77: a forced trim within the board. -/
theorem forcedDecision_piece {ws : List Word} {r : Record} {a b : Nat} (h : r.forcedTrim = some (a, b)) (hwithin : b ≤ r.present) :
    forcedDecision ws r = {
      verdict := .piece, a := a, b := b, grade := trimGrade ws r a b
      value := gradeValue ws (trimGrade ws r a b) (b - a), saws := pieceSaws r.length a b } := by
  simp [forcedDecision, h, Nat.not_lt.2 hwithin]

/-- No run of the slot is in flight once its entries have left the queue. -/
theorem startOptimizer_run_ne {s : State} {k : Nat} (hqueue : ∀ e ∈ s.optimizer.queue, e.slot ≠ k)
    (hrun : ∀ u, s.optimizer.run = some u → u.slot ≠ k) : ∀ u, (startOptimizer s).optimizer.run = some u → u.slot ≠ k := by
  intro u hu
  rcases startOptimizer_optimizer s with hsame | ⟨e, rest, -, hhead, hnew⟩
  · exact hrun u (hsame ▸ hu)
  · rw [hnew] at hu
    cases hu
    exact hqueue e (hhead ▸ List.mem_cons_self)

/-- Settles O47. -/
theorem forcedTrimDecidesAtOnce : Obligations.ForcedTrimDecidesAtOnce := by
  unfold Obligations.ForcedTrimDecidesAtOnce
  intro s p rest w0 w1 w2 kind k a b r hs hkind h hj hstate ha hb hr
  have hmeasured : (s.record k).state.open_ = false := by rcases hstate with h | h | h <;> rw [h] <;> rfl
  have hk := slot_of_judged hs hj
  have hwithin := board_within hs p rest hj kind w1
  rw [exec_board (chipOrTrim_board hkind) h hj]
  rw [applyOverride_forced (s := s.returned p rest) hkind hmeasured, forceDecision_own] at hwithin ⊢
  have hpart : ((applyPart k kind w1 p.addr p.tag (s.returned p rest)).record k) = r := by
    rw [record_set_self (s := s.returned p rest) hs.sized.records hk (applyPart_records ..), applyPart_parts _ _ (by tauto), hr, ha, hb]
    rcases hkind with rfl | rfl <;> simp [returned_record]
  have htrims := applyPart_trims k kind w1 p.addr p.tag (s.returned p rest)
  generalize hx : applyPart k kind w1 p.addr p.tag (s.returned p rest) = x at hwithin hpart htrims ⊢
  have hrecords : x.tracker.records = s.tracker.records.set k ((s.record k).applyPart kind w1) := by rw [← hx, applyPart_records]; rfl
  have hxwords : x.shadow = s.shadow := by simp [← hx]
  have hxr : (x.workless k).record k = r := (record_of_records (by simp) k).trans hpart
  have hheld : hasHeld (x.workless k) k = hasHeld s k := by simp [hasHeld, ← hx]
  obtain ⟨hset, hdispatch, hbus⟩ := writeDecision_values k (forcedDecision x.shadow.words r) (gradedSegments x.shadow.words r) true
    (x.workless k)
  rw [hxr] at hwithin ⊢ hset hbus
  rw [(workless_frame k x).2.2.1] at hwithin ⊢
  rw [hheld, decideHeld_eq] at hset
  generalize hd : forcedDecision x.shadow.words r = d at hwithin hset hbus hdispatch ⊢
  rw [hxwords] at hd hset hbus hdispatch hwithin ⊢
  generalize hy : writeDecision k d (gradedSegments s.shadow.words r) true (x.workless k) = y at hwithin hset hbus hdispatch ⊢
  obtain ⟨hyevents, hyinternal, hyoverrides, hyshadow, hymeasure, hyintake, hymem, hyoptimizer⟩ : y.events = s.events ∧
      y.bus.internal = s.bus.internal ∧ y.overrides = x.overrides ∧ y.shadow = s.shadow ∧ y.measure = s.measure ∧
      y.intake = s.intake ∧ y.bus.mem = s.bus.mem ∧ y.optimizer = (x.workless k).optimizer := by
    rw [← hy]
    simp [← hx]
  have hyset : y.tracker.records = s.tracker.records.set k _ := hset.trans (by rw [(workless_frame k x).2.2.2.1, hrecords, List.set_set])
  have hyrecord := record_set_self (s := s) hs.sized.records hk hyset
  have hycommitted : r.committed = false := by rw [hr]; exact hj.uncommitted
  have hqueue : ∀ e ∈ y.optimizer.queue, e.slot ≠ k := fun e he => by
    rw [hyoptimizer, (workless_frame k x).2.2.2.2.2.2.1] at he
    simpa using (List.mem_filter.1 he).2
  have hrun : ∀ u, y.optimizer.run = some u → u.slot ≠ k := fun u hu => workless_run (hyoptimizer ▸ hu)
  have hbeyond : trimBeyond r = decide (kind = .trim ∧ r.present < b) := by
    rcases hkind with rfl | rfl <;> simp [hr, trimBeyond]
  refine ⟨_, d, rfl, noEvent_answered hyevents hyinternal, ?_, ?_, hd.symm, ?_, fun hreject => ?_, fun htrim hboard => ?_, ?_, ?_, ?_,
    fun e he => ?_, ?_, ?_, othersKept_answered hwithin hyset, ?_, ?_, ?_, ?_⟩
  · rw [(answered_frame ..).2.2.2.2.2.2.2.2.1, hyoverrides, htrims]
    rcases hkind with rfl | rfl <;> simp
  · simp [hyoverrides, ← hx]
  · rw [answered_record, hwithin.settled_eq _ (by rw [hyrecord]; dsimp only; split <;> nofun), hyrecord]
    simp [hycommitted]
  · have hd : d = rejectDecision r := by
      rw [← hd, forcedDecision_reject]
      rcases hreject with rfl | hpresent
      · exact .inl (by simp [hr])
      · rcases hkind with rfl | rfl
        · exact .inr ⟨a, b, by simp [hr], hpresent⟩
        · exact .inl (by simp [hr])
    rw [hd]
    exact ⟨rfl, rfl, rfl, rfl, rfl, fun i hi => getLsbD_rejectSaws r.length hi⟩
  · have hd : d = _ := hd.symm.trans (forcedDecision_piece (a := a) (b := b) (by simp [hr, htrim]) hboard)
    rw [hd]
    refine ⟨rfl, rfl, rfl, ?_, rfl, fun i hi => getLsbD_pieceSaws r.length a b hi⟩
    simp only [trimGrade]
    cases r.forcedGrade <;> cases candidate s.shadow.words r a b <;> rfl
  · rw [(answered_frame ..).2.2.2.2.2.2.2.2.2.2.2.2.2.2.2.2.2.2.2, hbus]
    simp [decisionAnswer, ← hx]
  · rw [(answered_frame ..).2.2.2.2.2.2.2.2.2.1, hdispatch]
    simp [← hx]
  · have hcode : (if trimBeyond (x.record k) = true then ResultCode.outOfRange else .done) =
        if kind = .trim ∧ r.present < b then ResultCode.outOfRange else .done := by
      rw [hpart]
      exact if_congr (by rw [hbeyond, decide_eq_true_eq]) rfl rfl
    rw [← hcode]
    exact resultIssued_answered ..
  · rw [answered_optimizer] at he
    exact hqueue e (startOptimizer_queue_sub _ e he)
  · rw [answered_optimizer]
    exact startOptimizer_run_ne hqueue hrun
  · simp [hyoverrides, ← hx]
  · simp [hyshadow]
  · simp [hymeasure]
  · simp [hyintake]
  · simp [hymem]

/-! ### A measured record sent back (O46) -/

/-- Where a record that is not QUEUED joins the queue (R87). -/
theorem insertByAge_split {c : Lug} {e : QueueEntry} {q : List QueueEntry} (hnew : ∀ x ∈ q, x.lug ≠ e.lug)
    (h : q.Pairwise fun e f => position c f.lug < position c e.lug) : ∃ pre post, q = pre ++ post ∧
      insertByAge c e q = pre ++ e :: post ∧ (∀ x ∈ pre, position c e.lug < position c x.lug) ∧
      ∀ x ∈ post, position c x.lug < position c e.lug := by
  induction q with
  | nil => exact ⟨[], [], rfl, rfl, nofun, nofun⟩
  | cons y q ih =>
    obtain ⟨hy, hq⟩ := List.pairwise_cons.1 h
    unfold insertByAge
    split
    · next hlt =>
      refine ⟨[], y :: q, rfl, rfl, nofun, fun x hx => ?_⟩
      rcases List.mem_cons.1 hx with rfl | hx
      · exact hlt
      · exact (hy x hx).trans hlt
    · next hge =>
      obtain ⟨pre, post, hsplit, hinsert, hpre, hpost⟩ := ih (fun x hx => hnew x (List.mem_cons_of_mem _ hx)) hq
      refine ⟨y :: pre, post, by rw [hsplit, List.cons_append], by rw [hinsert, List.cons_append], fun x hx => ?_, hpost⟩
      rcases List.mem_cons.1 hx with rfl | hx
      · have hne : position c x.lug ≠ position c e.lug := fun heq => hnew x List.mem_cons_self (position_inj heq)
        omega
      · exact hpre x hx

/-- In a sound table no entry of the queue has the lug of a live record that is not QUEUED. -/
theorem State.TableWithin.lug_new {b : Nat} {s : State} (h : s.TableWithin b) {k : Nat} (hlive : (s.record k).live = true)
    (hstate : (s.record k).state ≠ .queued) : ∀ e ∈ s.optimizer.queue, e.lug ≠ (s.record k).lug := fun e he heq => by
  obtain ⟨hslot, hqueued, helive, helug⟩ := h.queued_of_entry he
  have hplaced := (h.placed _ hslot helive).1
  rw [← helug, heq] at hplaced
  have hsame : e.slot = k := hplaced.symm.trans (h.placed k (h.slot_of_live hlive) hlive).1
  exact hstate (hsame ▸ hqueued)

theorem startOptimizer_of_run {s : State} {u : Run} (h : s.optimizer.run = some u) : startOptimizer s = s := by
  simp [startOptimizer, h]

/-- R89: what the idle optimizer takes while the part is RUNNING. -/
theorem startOptimizer_head {s : State} {e : QueueEntry} {rest : List QueueEntry} (hpart : s.shadow.part = .running)
    (hidle : s.optimizer.run = none) (hqueue : s.optimizer.queue = e :: rest) : startOptimizer s =
      { s.setRecord e.slot { s.record e.slot with state := .optimizing } with optimizer := { queue := rest, run := some {
        slot := e.slot, lug := e.lug, record := s.record e.slot, tables := s.shadow.words } } } := by
  simp [startOptimizer, hpart, hidle, hqueue, State.setRecord]

theorem applyOverride_requeue {kind : OverrideKind} {k : Nat} {arg addr : Word} {tag : BitVec 15} {s : State}
    (hkind : kind = .grade ∨ kind = .mark ∨ kind = .clear) (hmeasured : (s.record k).state.open_ = false) :
    applyOverride kind k arg addr tag s = (requeue k (applyPart k kind arg addr tag s), .done) := by
  simp only [applyOverride, hmeasured, Bool.false_eq_true, if_false]
  rcases hkind with rfl | rfl | rfl <;> rfl

theorem requeue_of_queued {k : Nat} {s : State} (h : (s.record k).state = .queued) : requeue k s = s := by
  unfold requeue
  rw [h]

/-- R92: an OPTIMIZING or DECIDED record goes back. -/
theorem requeue_values {k : Nat} {s : State} (h : (s.record k).state = .optimizing ∨ (s.record k).state = .decided) :
    (requeue k s).tracker.records = s.tracker.records.set k { s.record k with state := .queued, decision := none } ∧
    (requeue k s).optimizer = {
      queue := insertByAge s.tracker.lug { slot := k, lug := (s.record k).lug } s.optimizer.queue
      run := if (s.record k).state = .optimizing then (abandonRun k s).optimizer.run else s.optimizer.run } := by
  have hrecord : (abandonRun k s).record k = s.record k := record_of_records (by simp) k
  unfold requeue
  rcases h with h | h <;> rw [h]
  · simp [joinQueue, State.setRecord, hrecord]
  · simp [joinQueue, State.setRecord]

theorem abandonRun_none {k : Nat} {s : State} (h : s.optimizer.run = none ∨ ∃ u, s.optimizer.run = some u ∧ u.slot = k) :
    (abandonRun k s).optimizer.run = none := by
  rcases h with h | ⟨u, h, hslot⟩ <;> simp [abandonRun, *]

theorem abandonRun_other {k : Nat} {s : State} {u : Run} (h : s.optimizer.run = some u) (hslot : u.slot ≠ k) :
    (abandonRun k s).optimizer.run = some u := by
  simp [abandonRun, h, hslot]

theorem records_set_self (s : State) (k : Nat) : s.tracker.records.set k (s.record k) = s.tracker.records := by
  refine List.ext_getElem? fun i => ?_
  rw [List.getElem?_set]
  split
  · next hik =>
    subst hik
    split
    · next hlt => simp [State.record, List.getElem?_eq_getElem hlt]
    · next hge => simp [List.getElem?_eq_none (Nat.not_lt.1 hge)]
  · rfl

/-- R87, R91, R92: a measured record after it is sent back: its place in the queue, the run, and the record. -/
theorem requeue_result {k : Nat} {s : State} (h : s.TableWithin 30) (hlive : (s.record k).live = true)
    (hstate : (s.record k).state = .queued ∨ (s.record k).state = .optimizing ∨ (s.record k).state = .decided) :
    ∃ q pre post, (q = if (s.record k).state = .queued then s.optimizer.queue else pre ++ { slot := k, lug := (s.record k).lug } :: post) ∧
      ((s.record k).state ≠ .queued → s.optimizer.queue = pre ++ post ∧
        (∀ e ∈ pre, position s.tracker.lug (s.record k).lug < position s.tracker.lug e.lug) ∧
        ∀ e ∈ post, position s.tracker.lug e.lug < position s.tracker.lug (s.record k).lug) ∧
      (requeue k s).optimizer.queue = q ∧
      (∀ u, s.optimizer.run = some u → u.slot ≠ k → (requeue k s).optimizer.run = some u) ∧
      ((s.optimizer.run = none ∨ ∃ u, s.optimizer.run = some u ∧ u.slot = k ∧ (s.record k).state = .optimizing) →
        (requeue k s).optimizer.run = none) ∧
      (requeue k s).tracker.records = s.tracker.records.set k { s.record k with
        state := .queued, decision := if (s.record k).state = .queued then (s.record k).decision else none } := by
  by_cases hqueued : (s.record k).state = .queued
  · rw [requeue_of_queued hqueued]
    refine ⟨_, [], [], (if_pos hqueued).symm, fun hne => absurd hqueued hne, rfl, fun u hu _ => hu, fun hidle => ?_, ?_⟩
    · rcases hidle with hidle | ⟨u, -, -, hopt⟩
      · exact hidle
      · rw [hqueued] at hopt
        cases hopt
    · have hsame : { s.record k with state := .queued, decision := (s.record k).decision } = s.record k := by rw [← hqueued]
      rw [if_pos hqueued, hsame, records_set_self]
  · have hback := hstate.resolve_left hqueued
    obtain ⟨hset, hoptimizer⟩ := requeue_values hback
    obtain ⟨pre, post, hsplit, hinsert, hpre, hpost⟩ := insertByAge_split (e := { slot := k, lug := (s.record k).lug })
      (h.lug_new hlive hqueued) h.aged.older
    refine ⟨_, pre, post, (if_neg hqueued).symm, fun _ => ⟨hsplit, hpre, hpost⟩, by rw [hoptimizer, hinsert], fun u hu hslot => ?_,
      fun hidle => ?_, by rw [hset, if_neg hqueued]⟩
    · simp only [hoptimizer, hu, abandonRun_other hu hslot, ite_self]
    · rw [hoptimizer]
      rcases hidle with hidle | ⟨u, hu, hslot, hopt⟩
      · simp only [abandonRun_none (.inl hidle), hidle, ite_self]
      · simp only [abandonRun_none (.inr ⟨u, hu, hslot⟩), hopt, if_true]

/-- Settles O46. -/
theorem measuredRecordIsRequeued : Obligations.MeasuredRecordIsRequeued := by
  unfold Obligations.MeasuredRecordIsRequeued
  intro s p rest w0 w1 w2 kind k hs hkind h hj hstate
  have hmeasured : (s.record k).state.open_ = false := by rcases hstate with h | h | h <;> rw [h] <;> rfl
  have hk := slot_of_judged hs hj
  have hwithin := board_within hs p rest hj kind w1
  rw [exec_board (by tauto) h hj]
  rw [applyOverride_requeue (s := s.returned p rest) hkind hmeasured] at hwithin ⊢
  have htrims := applyPart_trims k kind w1 p.addr p.tag (s.returned p rest)
  have hpart := record_set_self (s := s.returned p rest) hs.sized.records hk (applyPart_records k kind w1 p.addr p.tag _)
  rw [applyPart_parts _ _ (by tauto)] at hpart
  have hxwithin : (applyPart k kind w1 p.addr p.tag (s.returned p rest)).TableWithin 30 :=
    ((applyPart_keeps (s := s.returned p rest) kind w1 p.addr p.tag hj.live fun _ => hj.uncommitted).within
      (returned_tableWithin hs p rest)).1
  have hrecords := applyPart_records k kind w1 p.addr p.tag (s.returned p rest)
  generalize hx : applyPart k kind w1 p.addr p.tag (s.returned p rest) = x at hwithin hpart htrims hxwithin hrecords ⊢
  obtain ⟨hxstate, hxlug, hxlive⟩ : (x.record k).state = (s.record k).state ∧ (x.record k).lug = (s.record k).lug ∧
      (x.record k).live = true := by
    rw [hpart]
    exact ⟨rfl, rfl, hj.live⟩
  obtain ⟨hxoptimizer, hxc⟩ : x.optimizer = s.optimizer ∧ x.tracker.lug = s.tracker.lug := by simp [← hx]
  obtain ⟨q, pre, post, hq, hplace, hqueue, hother, hidle, hset⟩ := requeue_result hxwithin hxlive (hxstate ▸ hstate)
  rw [hxstate, hxlug, hxoptimizer] at hq hplace
  rw [hxc] at hplace
  rw [hxoptimizer] at hother hidle
  rw [hxstate] at hidle hset
  rw [hrecords, List.set_set] at hset
  generalize hy : requeue k x = y at hwithin hqueue hother hidle hset ⊢
  obtain ⟨hyevents, hyinternal, hyoverrides, hyshadow, hydispatch, hymeasure, hyintake, hymem⟩ : y.events = s.events ∧
      y.bus.internal = s.bus.internal ∧ y.overrides = x.overrides ∧ y.shadow = s.shadow ∧ y.dispatch = s.dispatch ∧
      y.measure = s.measure ∧ y.intake = s.intake ∧ y.bus.mem = s.bus.mem := by
    rw [← hy]
    simp [← hx]
  have hyrecord := record_set_self (s := s) hs.sized.records hk hset
  have hsettled : ∃ st, (st = .queued ∨ st = .optimizing) ∧
      (s.answered p (y, .done)).record k = { y.record k with state := st } := by
    rw [answered_record]
    rcases hwithin.settled (landBurst (readBurst p.addr 3 .overrideRead) s) k with hsame | ⟨-, htaken⟩
    · exact ⟨.queued, .inl rfl, by rw [hsame, hyrecord]⟩
    · exact ⟨.optimizing, .inr rfl, htaken⟩
  obtain ⟨st, hst, hrecord⟩ := hsettled
  refine ⟨_, st, q, pre, post, rfl, noEvent_answered hyevents hyinternal, ?_, ?_, hq, hplace, fun u hu hslot => ?_,
    fun hnone hpart e rest hhead => ?_, hst, ?_, resultIssued_answered .., ?_, ?_, othersKept_answered hwithin hset, ?_, ?_, ?_, ?_, ?_⟩
  · rw [(answered_frame ..).2.2.2.2.2.2.2.2.1, hyoverrides, htrims]
    rcases hkind with rfl | rfl | rfl <;> simp
  · simp [hyoverrides, ← hx]
  · have hrun := hother u hu hslot
    rw [answered_optimizer, startOptimizer_of_run hrun, ← hqueue, ← hrun]
  · have hstart := startOptimizer_head (s := y) (by rw [hyshadow]; exact hpart) (hidle hnone) (hqueue.trans hhead)
    have hin : e ∈ y.optimizer.queue := by rw [hqueue, hhead]; exact List.mem_cons_self
    obtain ⟨hslot, hqueued, -, -⟩ := hwithin.queued_of_entry hin
    refine ⟨y.record e.slot, hqueued, ?_, ?_⟩
    · rw [answered_optimizer, hstart, hyshadow]
    · rw [answered_record, settle_record, hstart]
      exact (record_setRecord y e.slot e.slot _ (by rw [hwithin.sized.records]; exact hslot)).trans (if_pos rfl)
  · rw [hrecord, hyrecord, hpart]
    rcases hkind with rfl | rfl | rfl <;> simp [returned_record]
  · simp [hyoverrides, ← hx]
  · simp [hyoverrides, ← hx]
  · simp [hyshadow]
  · simp [hydispatch]
  · simp [hymeasure]
  · simp [hyintake]
  · simp [hymem]

end Sys2Proof.Machine
end

section
/-! The limits of the part's lists and the indices of the event ring through every step (O6). -/

namespace Sys2Proof.Machine

/-! ### What keeps the limits -/

/-- A change keeps the limits. -/
structure Bounded (s t : State) : Prop where
  limits : s.WithinLimits → t.WithinLimits

theorem Bounded.refl (s : State) : Bounded s s := ⟨id⟩

theorem Bounded.trans {s t u : State} (hst : Bounded s t) (htu : Bounded t u) : Bounded s u := ⟨fun h => htu.limits (hst.limits h)⟩

/-- No list grows. -/
@[simp] def NoLonger (s t : State) : Prop :=
  t.overrides.fifo.length ≤ s.overrides.fifo.length ∧ t.overrides.waiting.length ≤ s.overrides.waiting.length ∧
  t.dispatch.held.length ≤ s.dispatch.held.length ∧ t.dispatch.waiting.length ≤ s.dispatch.waiting.length ∧
  t.tally.queue.length ≤ s.tally.queue.length ∧
  (t.intake.queue.countP fun e => e.kind == .fresh) ≤ s.intake.queue.countP fun e => e.kind == .fresh

theorem NoLonger.limits {s t : State} (hlists : NoLonger s t) (h : s.WithinLimits)
    (hring : ∀ r, t.events.ring = some r →
      ∃ w, t.window .event = some w ∧ r.producer < ringCapacity w ∧ r.consumer < ringCapacity w) :
    t.WithinLimits := by
  obtain ⟨hposts, hpendings, hheld, hsort, hupdates, hfresh⟩ := hlists
  exact ⟨hposts.trans h.posts, hpendings.trans h.pendings, hheld.trans h.heldReads, hsort.trans h.sortReads,
    hupdates.trans h.updates, hfresh.trans h.fresh, hring⟩

/-- Event writer and windows stay. -/
theorem Bounded.of_le {s t : State} (hlists : NoLonger s t)
    (hwriter : t.events = s.events ∧ t.shadow.entries = s.shadow.entries) : Bounded s t := .mk fun h =>
  hlists.limits h (by simpa only [hwriter.1, State.window, hwriter.2] using h.ring)

theorem bounded_foldl {α : Type} {f : State → α → State} (h : ∀ s x, Bounded s (f s x)) (l : List α) (s : State) :
    Bounded s (l.foldl f s) :=
  foldl_invariant f l s (Bounded s) (fun t x ht => ht.trans (h t x)) (.refl s)

/-- R191, R192: the producer index advances within the ring. -/
theorem emit_bounded (e : Event) (s : State) : Bounded s (emit e s) := .mk fun h =>
  { posts := by simpa using h.posts
    pendings := by simpa using h.pendings
    heldReads := by simpa using h.heldReads
    sortReads := by simpa using h.sortReads
    updates := by simpa using h.updates
    fresh := by simpa [freshCount] using h.fresh
    ring := fun r hr => by
      have hwindow : (emit e s).window .event = s.window .event := by simp [State.window]
      rw [hwindow]
      rw [emit_eq] at hr
      simp only [writerStep] at hr
      split at hr
      · next q w hring hw =>
        obtain ⟨w', hw', hp, hc⟩ := h.ring q hring
        have hcap : 0 < ringCapacity w := by
          rw [hw] at hw'
          cases hw'
          omega
        split at hr
        · cases hr
          rw [hw] at hw'
          cases hw'
          exact ⟨w, hw, Nat.mod_lt _ hcap, hc⟩
        · split at hr <;> exact h.ring r hr
      · exact h.ring r hr }

theorem emitAll_bounded (es : List Event) (s : State) : Bounded s (emitAll es s) := bounded_foldl (fun s e => emit_bounded e s) es s

theorem settle_bounded (s0 s : State) : Bounded s (settle s0 s) := .of_le (by simp) (by simp)

/-! ### Frame intake -/

theorem freshCount_leave (gone : IntakeEntry → Bool) (s : State) :
    ((leaveIntakeQueue gone s).intake.queue.countP fun e => e.kind == .fresh) ≤ s.intake.queue.countP fun e => e.kind == .fresh :=
  (List.filter_sublist).countP_le

theorem leaveIntakeQueue_bounded (gone : IntakeEntry → Bool) (s : State) : Bounded s (leaveIntakeQueue gone s) :=
  .of_le (by simp [freshCount_leave]) (by simp)

theorem dropEngine_bounded (gone : IntakeRun → Bool) (s : State) : Bounded s (dropEngine gone s) := .of_le (by simp) (by simp)

theorem report_bounded (g : GuardName) (s : State) : Bounded s (report g s) := .of_le (by simp) (by simp)

theorem releaseHeldSlots_bounded (ps : List (Nat × Nat)) (s : State) : Bounded s (releaseHeldSlots ps s) := by
  simp only [releaseHeldSlots]
  split
  · exact .refl s
  · refine .trans ?_ (dropEngine_bounded ..)
    refine .trans ?_ (leaveIntakeQueue_bounded ..)
    exact bounded_foldl (fun s p => .of_le (by simp) (by simp)) ps s

theorem freeRecord_bounded (k : Nat) (s : State) : Bounded s (freeRecord k s) := by
  simp only [freeRecord]
  refine .trans (t := releaseHeldSlots (s.record k).held (endWork k s)) (.trans ?_ (releaseHeldSlots_bounded ..)) ?_
  all_goals exact .of_le (by simp) (by simp)

theorem leaveByJudgement_bounded (e : IntakeRun) (s : State) : Bounded s (leaveByJudgement e s) := leaveIntakeQueue_bounded ..

theorem mergeFresh_bounded (e : IntakeRun) (lug : Lug) (s : State) : Bounded s (mergeFresh e lug s) := .of_le (by simp) (by simp)

theorem emitTruncated_bounded (e : IntakeRun) (lug : Lug) (s : State) : Bounded s (emitTruncated e lug s) := by
  unfold emitTruncated
  split
  · exact emit_bounded ..
  · exact .refl s

theorem discardFresh_bounded (e : IntakeRun) (lug : Lug) (s : State) : Bounded s (discardFresh e lug s) := by
  simp only [discardFresh]
  refine .trans (t := setFrameSlot e.head e.slot .free s) (.of_le (by simp) (by simp)) (.trans ?_ (report_bounded ..))
  split <;> exact emit_bounded ..

theorem judgeFresh_bounded (e : IntakeRun) (s : State) : Bounded s (judgeFresh e s) := by
  simp only [judgeFresh]
  repeat' split
  · refine .trans ?_ ((leaveByJudgement_bounded ..).trans (emit_bounded ..))
    exact .of_le (by simp) (by simp)
  · exact (mergeFresh_bounded ..).trans ((emitTruncated_bounded ..).trans (leaveByJudgement_bounded ..))
  · exact (discardFresh_bounded ..).trans (leaveByJudgement_bounded ..)

theorem judgeReadBack_bounded (e : IntakeRun) (lug : Lug) (s : State) : Bounded s (judgeReadBack e lug s) := by
  simp only [judgeReadBack]
  repeat' split
  · refine .trans ?_ ((emitTruncated_bounded ..).trans (leaveByJudgement_bounded ..))
    exact .of_le (by simp) (by simp)
  · refine .trans ?_ ((emit_bounded ..).trans (leaveByJudgement_bounded ..))
    exact .of_le (by simp) (by simp)
  · exact leaveByJudgement_bounded ..

theorem completeIntake_bounded (s : State) : Bounded s (completeIntake s) := by
  simp only [completeIntake]
  split
  · exact .refl s
  · next e _ =>
    refine .trans (t := { s with intake := { s.intake with engine := none } }) (.of_le (by simp) (by simp)) ?_
    split
    · exact .refl _
    · refine .trans ?_ (settle_bounded s _)
      split
      · exact judgeFresh_bounded ..
      · exact judgeReadBack_bounded ..

/-! ### Decisions, held reads and sort reads -/

theorem answerHeld_bounded (k : Nat) (word : Word) (s : State) : Bounded s (answerHeld k word s) :=
  .of_le (by simp [answerHeld, List.length_filter_le]) (by simp)

theorem writeDecision_bounded (k : Nat) (d : Decision) (segs : List Segment) (forced : Bool) (s : State) :
    Bounded s (writeDecision k d segs forced s) := by
  have hheld : (writeDecision k d segs forced s).dispatch.held.length ≤ s.dispatch.held.length := by
    rw [(writeDecision_values k d segs forced s).2.1]
    exact List.length_filter_le ..
  exact .of_le (by simpa using hheld) (by simp)

theorem emitTrimRange_bounded (r : Record) (s : State) : Bounded s (emitTrimRange r s) := by
  unfold emitTrimRange
  split
  · exact emit_bounded ..
  · exact .refl s

theorem forceDecision_bounded (k : Nat) (own : Bool) (s : State) : Bounded s (forceDecision k own s) := by
  simp only [forceDecision]
  split
  · exact (writeDecision_bounded ..).trans (emitTrimRange_bounded ..)
  · exact writeDecision_bounded ..

theorem fallbackAtRetire_bounded (k : Nat) (s : State) : Bounded s (fallbackAtRetire k s) := by
  simp only [fallbackAtRetire]
  split
  · exact (answerHeld_bounded ..).trans ((emit_bounded ..).trans (report_bounded ..))
  · exact .refl s

theorem answerExpired_bounded (h : HeldRead) (word : Word) (s : State) : Bounded s (answerExpired h word s) := by
  simp only [answerExpired]
  refine .trans ?_ (answerHeld_bounded ..)
  exact .of_le (by simp [List.length_filter_le]) (by simp)

theorem expireHold_bounded (h : HeldRead) (s : State) : Bounded s (expireHold h s) := by
  simp only [expireHold]
  split
  · refine .trans ?_ ((emit_bounded ..).trans (report_bounded ..))
    have hanswered : Bounded s (answerExpired h (decisionAnswer (fallbackDecision s.shadow.words) (s.record h.slot).lug)
        ((endWork h.slot s).setRecord h.slot ((s.record h.slot).fallBack (fallbackDecision s.shadow.words)))) :=
      .trans (t := (endWork h.slot s).setRecord h.slot ((s.record h.slot).fallBack (fallbackDecision s.shadow.words)))
        (.of_le (by simp) (by simp))
        (answerExpired_bounded ..)
    unfold emitLate
    split
    · exact hanswered.trans (emit_bounded ..)
    · exact hanswered
  · exact .refl s

theorem holdRead_bounded (txn : Nat) (m : Master) (k : Nat) (s : State) : Bounded s (holdRead txn m k s) := by
  simp only [holdRead]
  split
  · next hroom =>
    refine .mk fun h => { h with heldReads := ?_ }
    simpa using Nat.succ_le_of_lt hroom
  · exact .trans (t := answer txn m .error s) (.of_le (by simp) (by simp)) (emit_bounded ..)

theorem trimReadSlot_bounded (txn : Nat) (m : Master) (k : Nat) (s : State) : Bounded s (trimReadSlot txn m k s) := by
  simp only [trimReadSlot]
  repeat' split
  · exact .of_le (by simp) (by simp)
  · exact .of_le (by simp) (by simp)
  · exact .of_le (by simp) (by simp)
  · exact holdRead_bounded ..

/-- R155: an update handed in while the queue has room for it. -/
theorem joinTally_bounded {u : TallyUpdate} {s : State} (hroom : s.tally.queue.length < Config.tallyQueueLimit) :
    Bounded s (joinTally u s) := .mk fun h => { h with updates := by simpa [joinTally] using Nat.succ_le_of_lt hroom }

/-- What a sort answer does before its update joins the queue. -/
theorem sortEvents_bounded (c : Nat × SortStatus × Bool) (r : Record) (s : State) : Bounded s
    (let s := if c.2.2 then emitNoBin r s else s
     let s := raiseBin c.1 s
     let s := if c.2.1 = .sorted then emitBinFull c.1 r.lug s else s
     if r.state = .dispatched then s else emitUntrimmed r s) := by
  have hnobin : Bounded s (if c.2.2 then emitNoBin r s else s) := by
    unfold emitNoBin
    repeat' split
    · exact emit_bounded ..
    all_goals exact .refl s
  have hfull : ∀ s, Bounded s (if c.2.1 = .sorted then emitBinFull c.1 r.lug s else s) := fun s => by
    unfold emitBinFull
    repeat' split
    · exact emit_bounded ..
    all_goals exact .refl s
  dsimp only
  refine hnobin.trans (.trans (t := raiseBin c.1 (if c.2.2 then emitNoBin r s else s)) (.of_le (by simp) (by simp)) (.trans (hfull _) ?_))
  by_cases hdispatched : r.state = .dispatched
  · rw [if_pos hdispatched]
    exact .refl _
  · rw [if_neg hdispatched]
    exact emit_bounded ..

theorem judgeSort_bounded (txn : Nat) (m : Master) (k : Nat) {s : State} (hready : sortReady s k = true) :
    Bounded s (judgeSort txn m k s) := by
  simp only [judgeSort]
  split
  · exact .of_le (by simp) (by simp)
  · next hlive =>
    have hroom : s.tally.queue.length < Config.tallySortLimit := by
      simpa [sortReady, Record.live, hlive] using hready
    refine .trans ?_ ((fallbackAtRetire_bounded ..).trans (freeRecord_bounded ..))
    refine .trans ?_ (joinTally_bounded ?_)
    · exact .trans (t := answer _ _ _ s) (.of_le (by simp) (by simp)) (sortEvents_bounded ..)
    · refine lt_of_eq_of_lt ?_ (hroom.trans (by decide))
      repeat' split
      all_goals simp

theorem sortReadSlot_bounded (txn : Nat) (m : Master) (k : Nat) (s : State) : Bounded s (sortReadSlot txn m k s) := by
  simp only [sortReadSlot]
  split
  · next hready => exact judgeSort_bounded txn m k (Bool.and_eq_true_iff.1 hready).2
  · split
    · next hroom =>
      refine .mk fun h => { h with sortReads := ?_ }
      simpa using Nat.succ_le_of_lt hroom
    · exact .trans (t := answer txn m .error s) (.of_le (by simp) (by simp)) (emit_bounded ..)

theorem judgeWaiting_bounded (fuel : Nat) (s : State) : Bounded s (judgeWaiting fuel s) := by
  induction fuel generalizing s with
  | zero => exact .refl s
  | succ fuel ih =>
    unfold judgeWaiting
    split
    · exact .refl s
    · next w rest hwaiting =>
      split
      · next hready =>
        refine .trans (t := { s with dispatch := { s.dispatch with waiting := rest } }) (.of_le (by simp [hwaiting]) (by simp)) ?_
        exact (judgeSort_bounded w.txn w.master w.slot (s := { s with dispatch := { s.dispatch with waiting := rest } }) hready).trans
          (ih _)
      · exact .refl s

/-! ### The tally unit -/

theorem handUnsorted_bounded (lug : Lug) (s : State) : Bounded s (handUnsorted lug s) := by
  unfold handUnsorted
  split
  · next hroom => exact joinTally_bounded hroom
  · exact emit_bounded ..

theorem endSwapIfDone_bounded (s : State) : Bounded s (endSwapIfDone s) := by
  simp only [endSwapIfDone]
  repeat' split
  · exact .trans (.of_le (by simp) (by simp)) (emit_bounded _ (writeTallyHeader { s with tally := { s.tally with swap := none } }))
  all_goals exact .refl s

theorem setSaturated_queue (t : Tally) (bank v : Bool) : (t.setSaturated bank v).queue = t.queue :=
  (setSaturated_values t bank v).2.2.1

theorem markSaturated_bounded (u : TallyUpdate) (values : List Word) (s : State) : Bounded s (markSaturated u values s) := by
  rcases markSaturated_cases u values s with ⟨-, heq⟩ | ⟨-, w, -, heq⟩ <;> rw [heq]
  · exact .refl s
  · exact .trans (.of_le (by simp [setSaturated_queue]) (by simp)) (emit_bounded ..)

theorem tallyRead_bounded (last : Bool) (words : List Word) (s : State) : Bounded s (tallyRead last words s) := by
  simp only [tallyRead]
  split
  · next r _ =>
    refine .trans (t := { s with tally := { s.tally with engine := some { r with values := r.values ++ words } } })
      (.of_le (by simp) (by simp)) ?_
    split
    · simp only [tallyReadsDone]
      split
      · exact .trans (.of_le (by simp) (by simp)) (markSaturated_bounded _ _ (issueAll _ _))
      · exact .refl _
    · exact .refl _
  · exact .refl s

/-! ### A lug event -/

theorem retireStep_bounded (s : State) : Bounded s (retireStep s) := by
  simp only [retireStep]
  split
  · simp only [retireUnsorted]
    exact (handUnsorted_bounded ..).trans ((emit_bounded ..).trans ((report_bounded ..).trans ((fallbackAtRetire_bounded ..).trans
      (freeRecord_bounded ..))))
  · exact .refl s

theorem createStep_bounded (s : State) : Bounded s (createStep s) :=
  have hwaiting : (createStep s).overrides.waiting.length ≤ s.overrides.waiting.length := by
    simp only [createStep]
    split <;> simp [List.length_filter_le]
  .of_le (by simpa using hwaiting) (by simp)

theorem guardStep_bounded (ended : Lug) (s : State) : Bounded s (guardStep ended s) := by
  simp only [guardStep]
  refine .trans ?_ (bounded_foldl (f := fun s i => emitLatched i s) (fun s i => emit_bounded ..) _ _)
  exact .of_le (by simp) (by simp)

theorem lugEvent_bounded (o : LugOrder) (s : State) : Bounded s (lugEvent o s) := by
  have hguard : ∀ (p : Bool) (s' : State), Bounded s' (if p then guardStep s.tracker.lug s' else s') := fun p s' => by
    split
    · exact guardStep_bounded ..
    · exact .refl s'
  have hpacing : ∀ (p : Bool) (s' : State), Bounded s' (if p then pacingStep s' else s') := fun p s' => by
    split
    · exact .of_le (by simp) (by simp)
    · exact .refl s'
  have htracker : ∀ s', Bounded s' (trackerStep s') := fun s' =>
    (retireStep_bounded s').trans (.trans (t := commitStep (closeStep (retireStep s'))) (.of_le (by simp) (by simp)) (createStep_bounded _))
  have hbefore : Bounded s (beforeTracker o s) :=
    .trans (t := { s with tracker := { s.tracker with lug := s.tracker.lug + 1 } }) (.of_le (by simp) (by simp))
      ((hpacing o.pacingFirst _).trans (hguard o.guardFirst _))
  have hafter : ∀ s', Bounded s' (afterTracker o s.tracker.lug s') := fun s' => by
    simp only [afterTracker]
    repeat' split
    · exact .refl s'
    · exact .of_le (by simp) (by simp)
    · exact guardStep_bounded ..
    · exact .trans (t := pacingStep s') (.of_le (by simp) (by simp)) (guardStep_bounded ..)
  have hblocks : Bounded s (lugBlocks o s) := hbefore.trans ((htracker _).trans (hafter _))
  rw [lugEvent_eq]
  refine hblocks.trans ((settle_bounded s (lugBlocks o s)).trans ?_)
  exact .of_le (by simp) (by simp)

/-! ### Overrides -/

theorem acceptRescan_bounded (k : Nat) (s : State) : Bounded s (acceptRescan k s) := by
  have hfresh : freshCount (acceptRescan k s) ≤ freshCount s := by
    rw [freshCount, (acceptRescan_values k s).2.2.1]
    simp [freshCount, List.countP_append, List.countP_map, Function.comp_def]
  exact .of_le (by simpa [freshCount] using hfresh) (by simp)

theorem applyOverride_bounded (kind : OverrideKind) (k : Nat) (arg addr : Word) (tag : BitVec 15) (s : State) :
    Bounded s (applyOverride kind k arg addr tag s).1 := by
  have hforced : Bounded s (forceDecision k true (abandonRun k (leaveDecisionQueue k (applyPart k kind arg addr tag s)))) :=
    .trans (.of_le (by simp) (by simp))
      (forceDecision_bounded k true (abandonRun k (leaveDecisionQueue k (applyPart k kind arg addr tag s))))
  cases hopen : (s.record k).state.open_ with
  | true =>
    rw [applyOverride_of_open ((open_iff _).1 hopen)]
    split
    · exact .refl s
    · exact .of_le (by simp) (by simp)
  | false =>
    by_cases hkind : kind = .trim ∨ kind = .chip
    · rw [applyOverride_forced hkind hopen]
      exact hforced
    · by_cases hrescan : kind = .rescan
      · subst hrescan
        rw [applyOverride_rescan hopen]
        exact acceptRescan_bounded ..
      · rw [not_or] at hkind
        have hback : applyOverride kind k arg addr tag s = (requeue k (applyPart k kind arg addr tag s), .done) := by
          simp only [applyOverride, hopen, Bool.false_eq_true, if_false]
          cases kind <;> simp_all
        rw [hback]
        exact .of_le (by simp) (by simp)

theorem lugJudgement_pending {s : State} {lug : Lug} (h : lugJudgement s lug = some .pending) :
    s.overrides.waiting.length < Config.maxPendingOverrides := by
  simp only [lugJudgement] at h
  repeat' split at h
  all_goals first | assumption | cases h

theorem judgeBoard_bounded (kind : OverrideKind) (lug : Lug) (arg addr : Word) (tag : BitVec 15) (s : State) :
    Bounded s (judgeBoard kind lug arg addr tag s).1 := by
  unfold judgeBoard
  split
  · exact applyOverride_bounded ..
  · next hpending =>
    refine .mk fun h => { h with pendings := ?_ }
    simpa [joinWaiting] using Nat.succ_le_of_lt (lugJudgement_pending hpending)
  · exact .refl s

theorem judgeKind_bounded (p : Post) (kind : OverrideKind) (w0 w1 : Word) (s : State) : Bounded s (judgeKind p kind w0 w1 s).1 := by
  cases kind with
  | grade | trim | chip | mark | clear | rescan => exact judgeBoard_bounded ..
  | binEmpty => exact .of_le (t := emptyBin (entryKey w0) s) (by simp) (by simp)
  | ack => exact .of_le (t := acknowledgeFlags (ackArg w1) s) (by simp) (by simp)
  | alarmTest => exact .of_le (t := setForce (w1 == 1) s) (by simp) (by simp)
  | shift =>
    simp only [judgeKind, judgeShift]
    split
    · exact .refl s
    · exact .of_le (by simp [(beginSwap_values s).1, Tally.takenUp, (swapBegun_saturated s.tally).2.2]) (by simp)
  | sawTest =>
    simp only [judgeKind, judgeSawTest]
    split
    · exact .refl s
    · exact .of_le (by simp) (by simp)
  | lineReset =>
    simp only [judgeKind, judgeLineReset]
    split
    · exact .of_le (by simp) (by simp)
    · exact .refl s

theorem judgeEntry_bounded (p : Post) (w0 w1 w2 : Word) (s : State) : Bounded s (judgeEntry p w0 w1 w2 s).1 := by
  by_cases hentry : postMarker w2 = true ∧ postTag w2 = p.tag
  · obtain ⟨hmarker, htag⟩ := hentry
    cases hkind : kindOfCode (entryKindCode w0) with
    | none => rw [judgeEntry_of_noKind s hmarker htag hkind]; exact .refl s
    | some kind =>
      cases hrange : argOutOfRange kind (entryKey w0) w1 with
      | true => rw [judgeEntry_of_outOfRange s hmarker htag hkind hrange]; exact .refl s
      | false => rw [judgeEntry_of_kind s hmarker htag hkind hrange]; exact judgeKind_bounded ..
  · rw [judgeEntry_of_changed s (by simpa [imp_iff_not_or] using hentry)]
    exact emit_bounded ..

theorem completeReadback_bounded (w0 w1 w2 : Word) (s : State) : Bounded s (completeReadback w0 w1 w2 s) := by
  simp only [completeReadback]
  split
  · next p rest _ hhead =>
    refine .trans (t := { s with overrides := { s.overrides with fifo := rest, readback := .idle } })
      (.of_le (by simp [hhead]) (by simp)) ((judgeEntry_bounded p w0 w1 w2 _).trans ((settle_bounded s _).trans ?_))
    exact .of_le (by simp) (by simp)
  · exact .of_le (by simp) (by simp)

/-! ### The bus path -/

theorem freshCount_moveSlot (h txn : Nat) (b : SlotBeat) (s : State) :
    freshCount (moveSlot h txn b s) ≤ freshCount s + if b.isTrailer then 1 else 0 := by
  simp only [moveSlot]
  repeat' split
  all_goals simp_all [freshCount, List.countP_append]

theorem moveSlot_foldl_fresh (h txn : Nat) (bs : List SlotBeat) (s : State) :
    freshCount (bs.foldl (fun s b => moveSlot h txn b s) s) ≤ freshCount s + bs.countP SlotBeat.isTrailer := by
  induction bs generalizing s with
  | nil => simp
  | cons b bs ih =>
    refine (ih _).trans ?_
    rw [List.countP_cons]
    have hone := freshCount_moveSlot h txn b s
    dsimp only
    omega

theorem moveSlots_bounded (h txn : Nat) (bs : List SlotBeat) (s : State)
    (hroom : freshCount s + bs.countP SlotBeat.isTrailer ≤ Config.maxFresh ∨ bs.countP SlotBeat.isTrailer = 0) :
    Bounded s (bs.foldl (fun s b => moveSlot h txn b s) s) := .mk fun hs => by
  have hfresh := moveSlot_foldl_fresh h txn bs s
  refine ⟨by simpa using hs.posts, by simpa using hs.pendings, by simpa using hs.heldReads, by simpa using hs.sortReads,
    by simpa using hs.updates, ?_, by simpa [State.window] using hs.ring⟩
  rcases hroom with hroom | hnone
  · exact hfresh.trans hroom
  · exact hfresh.trans (by rw [hnone]; exact hs.fresh)

theorem frameWrite_bounded (txn : Nat) (e : WindowEntry) (h : Nat) (w : BusWrite) (s : State) : Bounded s (frameWrite txn e h w s) := by
  have hrefuse : ∀ n a b, Bounded s (emitNow .frame n a b (refuse txn (.write w) s)) := fun n a b =>
    .trans (t := refuse txn (.write w) s) (.of_le (by simp) (by simp)) (emit_bounded ..)
  have hmove : (freshCount s + (slotBeats e w).countP SlotBeat.isTrailer ≤ Config.maxFresh ∨
      (slotBeats e w).countP SlotBeat.isTrailer = 0) →
      Bounded s ((slotBeats e w).foldl (fun s b => moveSlot h txn b s) (pass txn (.write w) false s)) := fun hroom =>
    .trans (t := pass txn (.write w) false s) (.of_le (by simp) (by simp)) (moveSlots_bounded h txn _ _ (by simpa [freshCount] using hroom))
  simp only [frameWrite]
  repeat' split
  · exact hrefuse ..
  · next hroom => exact hmove (.inl hroom)
  · exact hrefuse ..
  · next hnone => exact hmove (.inr (List.countP_eq_zero.2 fun b hb => by simpa using List.find?_eq_none.1 hnone b hb))

theorem overrideWrite_bounded (txn : Nat) (e : WindowEntry) (w : BusWrite) (s : State) : Bounded s (overrideWrite txn e w s) := by
  have hrefuse : ∀ n a b, Bounded s (emitNow .override n a b (refuse txn (.write w) s)) := fun n a b =>
    .trans (t := refuse txn (.write w) s) (.of_le (by simp) (by simp)) (emit_bounded ..)
  simp only [overrideWrite]
  repeat' split
  · exact hrefuse ..
  · next hroom => exact .mk fun h => { h with posts := by simpa using hroom }
  · exact hrefuse ..

/-! ### The event ring (R191, R195) -/

/-- R177: a window in force of a kind other than FRAME is the one of its kind. -/
theorem windowIndex_of_inForce {es : List WindowEntry} {i : Nat} (hi : i < 16) (hforce : isInForce es i = true)
    (hframe : (entryAt es i).kind ≠ .frame) : windowIndex es (entryAt es i).kind = some i := by
  refine List.find?_range_eq_some.2 ⟨by simp [hforce], List.mem_range.2 hi, fun j hj => ?_⟩
  have hlower := ((isInForce_iff es i).1 hforce).2 j hj
  simp only [Bool.not_eq_true', Bool.and_eq_false_imp, beq_eq_false_iff_ne]
  exact fun hjforce hkind => hlower ((isInForce_iff es j).1 hjforce).1 ⟨hkind, fun h => absurd h hframe⟩

theorem window_of_inForce {s : State} {i : Nat} (hi : i < 16) (hforce : isInForce s.shadow.entries i = true)
    (hframe : (entryAt s.shadow.entries i).kind ≠ .frame) :
    s.window (entryAt s.shadow.entries i).kind = some (entryAt s.shadow.entries i) := by
  rw [State.window, windowOf, windowIndex_of_inForce hi hforce hframe]
  rfl

theorem inForce_of_window {s : State} {k : WindowKind} {w : WindowEntry} (h : s.window k = some w) :
    ∃ i, i < 16 ∧ isInForce s.shadow.entries i = true ∧ w = entryAt s.shadow.entries i ∧ w.kind = k := by
  obtain ⟨i, hindex, rfl⟩ := Option.map_eq_some_iff.1 h
  obtain ⟨hprop, hi, -⟩ := List.find?_range_eq_some.1 hindex
  obtain ⟨hforce, hkind⟩ := Bool.and_eq_true_iff.1 hprop
  exact ⟨i, List.mem_range.1 hi, hforce, rfl, beq_iff_eq.1 hkind⟩

/-- R177: the EVENT window in force has room for at least 16 entries. -/
theorem ringCapacity_pos {s : State} {w : WindowEntry} (h : s.window .event = some w) : 0 < ringCapacity w := by
  obtain ⟨i, -, hforce, rfl, hkind⟩ := inForce_of_window h
  obtain ⟨-, -, -, hsize⟩ := ((isInForce_iff _ i).1 hforce).1
  rw [hkind] at hsize
  unfold ringCapacity WindowEntry.size
  dsimp only at hsize
  omega

theorem takeConsumer_ring {e : WindowEntry} {c : Nat} {s : State} {r : Ring} (h : (takeConsumer e c s).events.ring = some r) :
    ∃ q, s.events.ring = some q ∧ r.producer = q.producer ∧ r.consumer = c := by
  unfold takeConsumer at h
  split at h
  · next q hq =>
    refine ⟨q, hq, ?_⟩
    repeat' split at h
    all_goals
      simp only [issue_frame] at h
      cases h
      exact ⟨rfl, rfl⟩
  · next hnone =>
    rw [hnone] at h
    cases h

/-- What a permitted write carries to the consumer word lies below the capacity. -/
theorem eventWrite_bounded (txn : Nat) {w : BusWrite} {i : Nat} {s : State} (hi : i < 16)
    (hforce : isInForce s.shadow.entries i = true) (hkind : (entryAt s.shadow.entries i).kind = .event)
    (hpermitted : consumerBeyond s.shadow (.window i) (.write w) = false) :
    Bounded s (eventWrite txn (entryAt s.shadow.entries i) w s) := by
  have hwindow := window_of_inForce hi hforce (by rw [hkind]; nofun)
  rw [hkind] at hwindow
  simp only [eventWrite]
  refine .trans (t := pass txn (.write w) false s) (.of_le (by simp) (by simp)) ?_
  split
  · next c hfind =>
    obtain ⟨hc, hmem⟩ : _ ∧ _ := ⟨List.find?_some hfind, List.mem_of_find?_eq_some hfind⟩
    have hbelow : c.2.data.toNat < ringCapacity (entryAt s.shadow.entries i) := by
      simp only [consumerBeyond, hkind, beq_self_eq_true, Bool.true_and, List.any_eq_false] at hpermitted
      have := hpermitted c hmem
      rw [hc] at this
      simpa using this
    refine .mk fun h => ?_
    have hring : ∀ r, s.events.ring = some r → r.producer < ringCapacity (entryAt s.shadow.entries i) := fun r hr => by
      obtain ⟨v, hv, hp, -⟩ := h.ring r hr
      rw [show (pass txn (.write w) false s).window .event = s.window .event from rfl, hwindow] at hv
      cases hv
      exact hp
    refine ⟨by simpa using h.posts, by simpa using h.pendings, by simpa using h.heldReads, by simpa using h.sortReads,
      by simpa using h.updates, by simpa [freshCount] using h.fresh, fun r hr => ?_⟩
    have hwin : (takeConsumer (entryAt s.shadow.entries i) c.2.data.toNat (pass txn (.write w) false s)).window .event =
        s.window .event := by simp [State.window]
    rw [hwin]
    obtain ⟨q, hq, hp, hcons⟩ := takeConsumer_ring hr
    exact ⟨_, hwindow, hp ▸ hring q hq, hcons ▸ hbelow⟩
  · exact .refl _

theorem ring_none_bounded {s t : State} (hlists : NoLonger s t) (hring : t.events.ring = none) : Bounded s t := .mk fun h =>
  hlists.limits h fun r hr => by
    rw [hring] at hr
    cases hr

/-- R195: the indices the event writer takes from a header read. -/
def ringRead (cap : Nat) (prod cons : Word) : Ring :=
  let c := if cons.toNat < cap then cons.toNat else if bits prod 0 16 < cap then bits prod 0 16 else 0
  { producer := if bits prod 0 16 < cap then bits prod 0 16 else c, consumer := c }

theorem takeEventHeader_ring (prod cons : Word) (s : State) : (takeEventHeader prod cons s).events.ring =
    match s.window .event with
    | some w => some (ringRead (ringCapacity w) prod cons)
    | none => s.events.ring := by
  unfold takeEventHeader
  cases s.window .event with
  | none => rfl
  | some w => exact (apply_ite (fun t : State => t.events.ring) _ _ _).trans (ite_self _)

theorem ringRead_lt {cap : Nat} (prod cons : Word) (hcap : 0 < cap) :
    (ringRead cap prod cons).producer < cap ∧ (ringRead cap prod cons).consumer < cap := by
  dsimp only [ringRead]
  repeat' split
  all_goals omega

theorem takeEventHeader_bounded (prod cons : Word) (s : State) : Bounded s (takeEventHeader prod cons s) := .mk fun h => by
  refine ⟨by simpa using h.posts, by simpa using h.pendings, by simpa using h.heldReads, by simpa using h.sortReads,
    by simpa using h.updates, by simpa [freshCount] using h.fresh, fun r hr => ?_⟩
  have hwindow : (takeEventHeader prod cons s).window .event = s.window .event := by simp [State.window]
  rw [takeEventHeader_ring] at hr
  rw [hwindow]
  split at hr
  · next w hw =>
    cases hr
    exact ⟨w, hw, ringRead_lt prod cons (ringCapacity_pos hw)⟩
  · exact h.ring r hr

/-! ### Setup writes -/

theorem loseTables_bounded (hs : List Nat) (s : State) : Bounded s (loseTables hs s) := by
  simp only [loseTables]
  split
  · exact .refl s
  · refine .trans ?_ (bounded_foldl (fun s' h => emit_bounded ..) hs _)
    refine .trans (t := dropEngine (fun e => hs.contains e.head) (leaveIntakeQueue (fun e => hs.contains e.head) s))
      ((leaveIntakeQueue_bounded ..).trans (dropEngine_bounded ..)) ?_
    exact .of_le (by simp) (by simp)

theorem windowsChanged_bounded (old : List WindowEntry) (s : State) : Bounded s (windowsChanged old s) := by
  have hframe : Bounded s (frameWindowsChanged old s) := by
    simp only [frameWindowsChanged]
    refine .trans (loseTables_bounded ((changedHeads old s.shadow.entries).filter fun h => (frameKey old h).isSome) s) ?_
    exact .of_le (by simp) (by simp)
  simp only [windowsChanged]
  refine hframe.trans ?_
  split
  · exact .of_le (by simp) (by simp)
  · exact .refl _

theorem gradingWrite_bounded (s : State) : Bounded s (gradingWrite s) := by
  simp only [gradingWrite]
  refine .trans (t := (sentBack s).foldl (fun s k => requeue k s) s) (bounded_foldl (fun s k => .of_le (by simp) (by simp)) _ s) ?_
  split
  · exact .refl _
  · exact emit_bounded ..

/-- R177, R195: the ring's capacity is that of the EVENT window's size. -/
theorem ringCapacity_of_key (es : List WindowEntry) :
    (windowOf es .event).map ringCapacity = (eventKey es).map fun k => min ((k.2.2 - 16) / 16) 4096 := by
  rw [windowOf, eventKey, Option.map_map, Option.map_map]
  rfl

@[simp] theorem withSetup_frame (ws : List Word) (es : List WindowEntry) (s : State) :
    (s.withSetup ws es).overrides = s.overrides ∧ (s.withSetup ws es).dispatch = s.dispatch ∧
    (s.withSetup ws es).tally = s.tally ∧ (s.withSetup ws es).intake = s.intake ∧ (s.withSetup ws es).events = s.events ∧
    (s.withSetup ws es).shadow.entries = es ∧ (s.withSetup ws es).shadow.words = ws := ⟨rfl, rfl, rfl, rfl, rfl, rfl, rfl⟩

theorem askEventHeader_ring (s : State) : (askEventHeader s).events.ring = none := by
  simp only [askEventHeader]
  split <;> simp

theorem withSetup_bounded (ws : List Word) (es : List WindowEntry) (s : State) :
    Bounded s (eventWindowChanged s.shadow.entries (s.withSetup ws es)) := by
  unfold eventWindowChanged
  split
  · exact ring_none_bounded (by simp) (askEventHeader_ring _)
  · next hkey =>
    have hcap := ringCapacity_of_key s.shadow.entries
    rw [not_not.1 hkey, ← ringCapacity_of_key] at hcap
    refine .mk fun h => { h with ring := fun r hr => ?_ }
    obtain ⟨w, hw, hp, hc⟩ := h.ring r hr
    rw [← State.window, hw] at hcap
    obtain ⟨v, hv, hsame⟩ := Option.map_eq_some_iff.1 hcap.symm
    exact ⟨v, hv, hsame ▸ hp, hsame ▸ hc⟩

theorem followSetup_bounded (w : BusWrite) (s : State) : Bounded s (followSetup w s) := by
  generalize hws : followWords s.shadow.words (setupCarried w) = ws
  generalize hes : followEntries s.shadow.entries ws (setupCarried w) = es
  rw [followSetup_eq rfl hws.symm hes.symm]
  extract_lets t u
  have hwindows : Bounded s u := (withSetup_bounded ws es s).trans ((emitAll_bounded ..).trans (windowsChanged_bounded ..))
  split
  · exact hwindows.trans (gradingWrite_bounded u)
  · exact hwindows

/-! ### Arrivals -/

theorem inForce_of_firstRegion {es : List WindowEntry} {x : Transaction} {i : Nat} (h : firstRegion es x = .window i) :
    i < 16 ∧ isInForce es i = true := by
  obtain ⟨-, hi, hforce, -⟩ := ((classify_iff es _).2 i).1 h
  exact ⟨hi, hforce⟩

theorem consumerBeyond_of_permitted {sh : Shadow} {ty : Tally} {x : Transaction} {i : Nat} (h : accessCause sh ty x = none)
    (hregion : firstRegion sh.entries x = .window i) : consumerBeyond sh (.window i) x = false := by
  have hrange := (accessCause_eq_none_iff ..).1 h .range
  rwa [checkFails, hregion] at hrange

theorem handle_bounded (txn : Nat) (x : Transaction) (s : State) (hpermitted : accessCause s.shadow s.tally x = none) :
    Bounded s (handle txn x (firstRegion s.shadow.entries x) s) := by
  have hpass : Bounded s (pass txn x false s) := .of_le (by simp) (by simp)
  cases hregion : firstRegion s.shadow.entries x with
  | setup =>
    cases x with
    | read r => exact hpass
    | write w => exact hpass.trans (followSetup_bounded w _)
  | outside => cases x <;> exact hpass
  | window i =>
    obtain ⟨hi, hforce⟩ := inForce_of_firstRegion hregion
    cases x with
    | read r =>
      simp only [handle]
      repeat' split
      · exact trimReadSlot_bounded ..
      · exact sortReadSlot_bounded ..
      · exact hpass
    | write w =>
      simp only [handle]
      split
      · exact frameWrite_bounded ..
      · exact overrideWrite_bounded ..
      · next hkind => exact eventWrite_bounded txn hi hforce hkind (consumerBeyond_of_permitted hpermitted hregion)
      all_goals exact hpass

theorem judge_bounded (txn : Nat) (x : Transaction) (s : State) : Bounded s (judge txn x s) := by
  refine .trans ?_ (settle_bounded s _)
  split
  · exact .trans (t := refuse txn x s) (.of_le (by simp) (by simp)) (emit_bounded ..)
  · next hpermitted => exact handle_bounded txn x s hpermitted

theorem arrive_bounded (x : Transaction) (s : State) : Bounded s (arrive x s) := by
  have hnumbered : Bounded s { s with bus := { s.bus with nextTxn := s.bus.nextTxn + 1 } } := .of_le (by simp) (by simp)
  rw [arrive_eq]
  refine hnumbered.trans (t := s.numbered) ?_
  split
  · exact .of_le (by simp) (by simp)
  · split
    · split
      · split
        · exact .of_le (t := { s.numbered with shadow := { s.shadow with held := s.shadow.held ++ _ } }) (by simp) (by simp)
        · exact .of_le (by simp) (by simp)
      · exact .of_le (by simp) (by simp)
    · split <;> exact .of_le (by simp) (by simp)
    · exact judge_bounded ..

/-! ### Part states and the port -/

theorem beginLoad_bounded (cause : StartCause) (s : State) : Bounded s (beginLoad cause s) :=
  ring_none_bounded (by simp) (by rw [(beginLoad_values cause s).2.1])

theorem finishReset_bounded (s : State) : Bounded s (finishReset s) := by
  unfold finishReset
  split
  · exact beginLoad_bounded ..
  · exact .trans (t := beginMirror Config.statusArea s) (.of_le (by simp) (by simp)) (beginLoad_bounded ..)
  · exact .of_le (t := { s.setArea _ _ with shadow := { s.shadow with phase := .statusDue } }) (by simp) (by simp)

theorem drainStep_bounded (s : State) : Bounded s (drainStep s) := by
  unfold drainStep
  split
  · exact finishReset_bounded s
  · exact .refl s

theorem clearForReset_bounded (m : Master) (s : State) : Bounded s (clearForReset m s) :=
  .of_le (by simp [clearForReset, Overrides.powerOn, Dispatch.powerOn]) (by simp)

theorem startLineReset_bounded (m : Master) (s : State) : Bounded s (startLineReset m s) := by
  simp only [startLineReset]
  refine (clearForReset_bounded m s).trans ?_
  split
  · exact finishReset_bounded _
  · exact (settle_bounded s _).trans (drainStep_bounded _)

theorem lineResetDone_bounded (s : State) : Bounded s (lineResetDone s) := by
  unfold lineResetDone
  split
  · exact startLineReset_bounded ..
  · exact .refl s

theorem mirrorClosed_bounded (k : Nat) (s : State) : Bounded s (mirrorClosed k s) := by
  simp only [mirrorClosed]
  repeat' split
  · exact .refl s
  · exact .of_le (by simp) (by simp)
  · refine .trans ?_ (beginLoad_bounded ..)
    exact .of_le (by simp) (by simp)
  · exact .of_le (by simp) (by simp)

theorem chassisDone_bounded (txn : Nat) (m : Master) (format : Bool) (reply : Reply) (s : State) :
    Bounded s (chassisDone txn m format reply s) := by
  have hlanded : Bounded s (writeLanded txn (answer txn m reply s)) :=
    .of_le (by simp [writeLanded, List.countP_map, Function.comp_def, IntakeEntry.landed]) (by simp)
  simp only [chassisDone, formatWordWritten]
  refine hlanded.trans ?_
  repeat' split
  · refine .trans ?_ (beginLoad_bounded ..)
    exact .of_le (by simp) (by simp)
  all_goals exact .refl _

theorem releaseHeld_bounded (hs : List HeldWrite) (s : State) : Bounded s (releaseHeld hs s) := by
  unfold releaseHeld
  refine bounded_foldl (fun s h => ?_) hs s
  exact judge_bounded h.txn (.write h.write) s

theorem enterRunning_bounded (ld : Load) (s : State) : Bounded s (enterRunning ld s) := by
  have hentered : Bounded s (entered s) :=
    .trans (t := tallyAtRunning s) (.of_le (by simp) (by simp)) (.of_le
      (t := entered s) (s := tallyAtRunning s) ⟨le_rfl, le_rfl, le_rfl, le_rfl, le_rfl, le_rfl⟩ ⟨rfl, rfl⟩)
  rw [enterRunning_eq, startEvents_eq]
  refine hentered.trans ((settle_bounded s _).trans (.trans ?_ ((emitAll_bounded ..).trans (releaseHeld_bounded ..))))
  exact .of_le ⟨le_rfl, le_rfl, le_rfl, le_rfl, le_rfl, le_rfl⟩ ⟨rfl, rfl⟩

theorem endLoad_bounded (s : State) : Bounded s (endLoad s) := by
  unfold endLoad
  repeat' split
  · exact .refl s
  · exact enterRunning_bounded ..
  · exact .refl s

theorem headerReturned_bounded (tally : Bool) (s : State) : Bounded s (headerReturned tally s) := by
  simp only [headerReturned]
  split
  · refine .trans ?_ (endLoad_bounded _)
    exact .of_le ⟨le_rfl, le_rfl, le_rfl, le_rfl, le_rfl, le_rfl⟩ ⟨rfl, rfl⟩
  · exact .refl s

/-- R186, R195: the last setup read drops the header state before a window may change under it. -/
theorem setupRead_bounded (ld : Load) (s : State) : Bounded s (setupRead ld s) := by
  simp only [setupRead]
  refine .trans ?_ (endLoad_bounded _)
  refine ring_none_bounded ?_ ?_
  all_goals
    repeat' split
    all_goals simp [askEventHeader_ring]

theorem loadSetupRead_bounded (last : Bool) (words : List Word) (s : State) : Bounded s (loadSetupRead last words s) := by
  simp only [loadSetupRead]
  split
  · next ld _ =>
    refine .trans (t := { s with shadow := { s.shadow with load := some { ld with words := ld.words ++ words } } })
      (.of_le (by simp) (by simp)) ?_
    split
    · exact setupRead_bounded ..
    · exact .refl _
  · exact .refl s

theorem eventHeaderRead_bounded (prod cons : Word) (s : State) : Bounded s (eventHeaderRead prod cons s) := by
  simp only [eventHeaderRead]
  refine (takeEventHeader_bounded prod cons s).trans ?_
  split
  · exact headerReturned_bounded ..
  · exact .refl _

theorem tallyHeaderRead_bounded (w : Word) (s : State) : Bounded s (tallyHeaderRead w s) := by
  unfold tallyHeaderRead
  split
  · have hqueue : (takeTallyHeader w s).tally.queue = s.tally.queue := by
      simp only [takeTallyHeader]
      split <;> simp [setSaturated_queue]
    exact .trans (.of_le (by simp [hqueue]) (by simp)) (headerReturned_bounded true (takeTallyHeader w s))
  · exact .refl s

theorem frameTrailerRead_bounded (w : Word) (s : State) : Bounded s (frameTrailerRead w s) := by
  simp only [frameTrailerRead]
  split
  · next e _ =>
    refine .trans (t := setEngine { e with trailer := w } s) (.of_le (by simp) (by simp)) ?_
    split
    · exact completeIntake_bounded _
    · exact .of_le (by simp) (by simp)
  · exact .refl s

theorem frameSlicesRead_bounded (last : Bool) (words : List Word) (s : State) : Bounded s (frameSlicesRead last words s) := by
  simp only [frameSlicesRead]
  split
  · next e _ =>
    refine .trans (t := setEngine { e with slices := e.slices ++ words } s) (.of_le (by simp) (by simp)) ?_
    split
    · exact completeIntake_bounded _
    · exact .refl _
  · exact .refl s

theorem tallyUpdateDone_bounded (s : State) : Bounded s (tallyUpdateDone s) := by
  simp only [tallyUpdateDone]
  split
  · next u rest _ hqueue =>
    refine .trans (t := { s with tally := { s.tally with engine := none, queue := rest, swap := countOldBank u s.tally } })
      (.of_le (by simp [hqueue]) (by simp)) ((endSwapIfDone_bounded _).trans
        (.trans ?_ ((settle_bounded s _).trans (drainStep_bounded _))))
    split
    · exact judgeWaiting_bounded ..
    · exact .refl _
  · exact .refl s

theorem zeroingWritten_bounded (i : Nat) (s : State) : Bounded s (zeroingWritten i s) := by
  simp only [zeroingWritten]
  split
  · next w _ =>
    split
    · split
      · exact .of_le (by simp) (by simp)
      · refine .trans (t := { s with tally := { s.tally with swap := some { w with zeroing := .ended } } }) (.of_le (by simp) (by simp)) ?_
        exact (endSwapIfDone_bounded _).trans ((settle_bounded s _).trans (drainStep_bounded _))
    · exact .refl s
  · exact .refl s

theorem afterBurst_bounded (x : Burst) (words : List Word) (s : State) : Bounded s (afterBurst x words s) := by
  unfold afterBurst
  split
  · exact chassisDone_bounded ..
  · exact .refl s
  · split
    · exact mirrorClosed_bounded ..
    · exact .refl s
  · exact lineResetDone_bounded ..
  · exact .of_le (by simp) (by simp)
  · exact loadSetupRead_bounded ..
  · exact eventHeaderRead_bounded ..
  · exact tallyHeaderRead_bounded ..
  · exact .of_le (by simp) (by simp)
  · exact frameTrailerRead_bounded ..
  · exact frameSlicesRead_bounded ..
  · exact completeReadback_bounded ..
  · exact tallyRead_bounded ..
  · split
    · exact tallyUpdateDone_bounded ..
    · exact .refl s
  · exact zeroingWritten_bounded ..

/-! ### Every effect (O6) -/

theorem completeClose_bounded (s : State) : Bounded s (completeClose s) := by
  have hsilent : ∀ r s, Bounded s (reportSilent r s) := fun r s => by
    unfold reportSilent
    split
    · exact .refl s
    · exact (emit_bounded ..).trans (report_bounded ..)
  simp only [completeClose]
  split
  · exact .refl s
  · next c rest _ =>
    refine .trans (t := { s with measure := { s.measure with finalising := rest } }) (.of_le (by simp) (by simp)) ?_
    split
    · generalize finalise s.shadow.words _ = r
      generalize hx : State.setRecord _ c.slot r = x
      refine .trans (t := x) (hx ▸ .of_le (by simp) (by simp)) ((hsilent r x).trans (.trans ?_ (settle_bounded s _)))
      split
      · exact forceDecision_bounded ..
      · exact .of_le (by simp) (by simp)
    · exact .refl _

theorem completeRun_bounded (s : State) : Bounded s (completeRun s) := by
  have hdecided : ∀ d lug s, Bounded s (emitDecided d lug s) := fun d lug s => by
    rw [emitDecided_eq]
    exact emitAll_bounded ..
  simp only [completeRun]
  split
  · exact .refl s
  · next run _ =>
    refine .trans (t := { s with optimizer := { s.optimizer with run := none } }) (.of_le (by simp) (by simp)) ?_
    split
    · generalize hx : writeDecision run.slot run.decision _ _ _ = x
      refine .trans (t := x) (hx ▸ writeDecision_bounded ..) (.trans ?_ ((hdecided ..).trans (settle_bounded s _)))
      split
      · exact emitTrimRange_bounded ..
      · exact .refl _
    · exact settle_bounded s _

theorem effect_bounded {s y : State} (hy : Effect s y) : Bounded s y := by
  cases hy with
  | idle => exact .refl s
  | rawLevel p l _ => exact .of_le (t := s.setFilter p _) (by simp) (by simp)
  | filter p f o =>
    unfold filterStep
    refine .trans (t := s.setFilter p f) (.of_le (by simp) (by simp)) ?_
    split
    · exact lugEvent_bounded ..
    · exact settle_bounded ..
  | assertReset =>
    refine .of_le ?_ (by simp)
    unfold assertReset
    split <;> simp
  | releaseReset =>
    unfold releaseReset
    split
    · exact ring_none_bounded ⟨Nat.zero_le _, Nat.zero_le _, Nat.zero_le _, Nat.zero_le _, Nat.zero_le _, Nat.zero_le _⟩ rfl
    · exact .refl s
  | arrive x _ => exact arrive_bounded x s
  | startIntake => exact .of_le (by simp) (by simp)
  | startReadback => exact .of_le (by simp) (by simp)
  | port b _ => exact .trans (t := landBurst b s) (.of_le (by simp) (by simp)) (afterBurst_bounded b _ _)
  | close _ => exact completeClose_bounded s
  | run _ => exact completeRun_bounded s
  | hold _ x _ => exact (expireHold_bounded x s).trans (settle_bounded s _)
  | sawTest _ =>
    refine .trans ?_ (settle_bounded s _)
    simp only [expireSawTest]
    split
    · exact .trans (t := { s with overrides := { s.overrides with sawMask := 0, sawTimer := none } })
        (.of_le (by simp) (by simp)) (emit_bounded ..)
    · exact .refl s

/-- Settles O6. -/
theorem stepKeepsLimits : Obligations.StepKeepsLimits := by
  unfold Obligations.StepKeepsLimits
  intro s t hs h
  refine step_keeps (I := State.WithinLimits) (fun s q => Bounded.limits ?_) (fun s => Bounded.limits ?_)
    (fun s y h hy => (effect_bounded hy).limits h) hs h
  · exact .of_le ⟨le_rfl, le_rfl, le_rfl, le_rfl, le_rfl, le_rfl⟩ ⟨rfl, rfl⟩
  · exact .of_le (by simp) (by simp)

end Sys2Proof.Machine
end

section
/-! Start-up while RESET_N is asserted: the frame slots' law is not kept by every step (O59). -/

namespace Sys2Proof.Machine

/-- A TRANSPARENT part with RESET_N asserted, one live record, and a watched write of the format word at the memory port. The law's clause
on start-up is empty here, since it speaks of a part without a load only while RESET_N is released. -/
def recordBeforeLoad : State :=
  { State.reset with
    resetAsserted := true
    shadow := { State.reset.shadow with part := .transparent, load := none }
    tracker := { State.reset.tracker with records := State.reset.tracker.records.set 0 (Record.created 0) }
    bus := { State.reset.bus with port := some { addr := 0, access := .write [], purpose := .chassis 0 0 true } }
    pending := [.memoryBurstDone] }

theorem recordBeforeLoad_record (k : Nat) :
    recordBeforeLoad.record k = Record.created 0 ∨ recordBeforeLoad.record k = Record.blank := by
  rcases record_of_set (s := State.reset) (t := recordBeforeLoad) rfl k with h | ⟨-, h⟩
  · exact .inr (h.trans (reset_record k))
  · exact .inl h

theorem recordBeforeLoad_held (k : Nat) : (recordBeforeLoad.record k).held = [] := by
  rcases recordBeforeLoad_record k with h | h <;> rw [h] <;> rfl

theorem recordBeforeLoad_frameSlot (h i : Nat) : frameSlot recordBeforeLoad h i = none := reset_frameSlot h i

theorem recordBeforeLoad_within : recordBeforeLoad.TableWithin 30 :=
  setCreated_within ((tableSound_iff _).1 reset_tableSound) (reset_not_live _) (by simp [recordBeforeLoad, State.lengths]) rfl rfl rfl

theorem recordBeforeLoad_sound : recordBeforeLoad.FrameSlotsSound where
  table := (tableSound_iff _).2 recordBeforeLoad_within
  held h i hheld := by simp [recordBeforeLoad_frameSlot] at hheld
  fresh e he := by cases he
  listed k _ _ p hp := by simp [recordBeforeLoad_held] at hp
  apart j k p _ _ _ _ hp := by simp [recordBeforeLoad_held] at hp
  readBacks e he := by cases he
  engine g hg := by cases hg
  windows hrun := by cases hrun
  loading hload := absurd rfl hload
  startUp h := by rcases h with hload | ⟨-, hreset⟩ <;> [exact absurd rfl hload; cases hreset]

/-- The watched write completes with the record live and a load begun. -/
theorem recordBeforeLoad_completes : ∃ y, step recordBeforeLoad = .next (finish y) ∧
    y.record 0 = Record.created 0 ∧ y.shadow.load ≠ none := by
  generalize hs : recordBeforeLoad.withPending [] = s
  have hport : s.bus.port = some { addr := 0, access := .write [], purpose := .chassis 0 0 true } := hs ▸ rfl
  have hpart : s.shadow.part = .transparent := hs ▸ rfl
  have hrecord : s.record 0 = Record.created 0 := hs ▸ rfl
  refine ⟨completePort s, hs ▸ rfl, ?_, ?_⟩
  · rw [completePort_of_port hport, ← hrecord]
    exact record_of_records (by simp [afterBurst, chassisDone]) 0
  · rw [completePort_of_port hport]
    have hload := congrArg Shadow.load (formatWordWritten_values (s := writeLanded 0 (answer 0 0 .written
      (landBurst { addr := 0, access := .write [], purpose := .chassis 0 0 true } s))) (by simpa using hpart)).1
    simpa [afterBurst, chassisDone, replyOf] using ne_of_eq_of_ne hload (by simp)

/-- Refutes O59: the completed write begins a load, and the record that was live beside it stays live. -/
theorem not_stepKeepsFrameSlotsSound : ¬ Obligations.StepKeepsFrameSlotsSound := by
  unfold Obligations.StepKeepsFrameSlotsSound
  intro hkeeps
  obtain ⟨y, hstep, hrecord, hload⟩ := recordBeforeLoad_completes
  have hsound := hkeeps _ _ recordBeforeLoad_sound hstep
  have hfree : ((finish y).record 0).live = false := (hsound.startUp (.inl (by simpa using hload))).2.2 0 (by decide)
  rw [record_of_records (s := y) (t := finish y) (by simp) 0, hrecord] at hfree
  cases hfree

end Sys2Proof.Machine
end

section
/-! What leaves the intake queue, and the lug event as each block takes it (O14, O15, O17). -/

namespace Sys2Proof.Machine

/-! ### Entries leave the intake queue -/

/-- A mark lies on the first entry with its key: it goes to the last entry up to there that stays. -/
theorem passMark_of_split {ahead behind : List IntakeEntry} {e : IntakeEntry} (gone : IntakeEntry → Bool)
    (hfirst : ∀ f ∈ ahead, f.key ≠ e.key) : passMark (ahead ++ e :: behind) gone e.key =
      (((ahead ++ [e]).filter fun x => !gone x).getLast?).map IntakeEntry.key := by
  have hahead : ∀ f ∈ ahead, (f.key != e.key) = true := fun f hf => bne_iff_ne.2 (hfirst f hf)
  simp only [passMark]
  rw [List.takeWhile_append_of_pos hahead, List.dropWhile_append_of_pos hahead]
  simp

theorem insertByPosition_perm (c : Lug) (x : Close) (xs : List Close) : (insertByPosition c x xs).Perm (x :: xs) := by
  induction xs with
  | nil => exact .refl _
  | cons y rest ih =>
    simp only [insertByPosition]
    split
    · exact .refl _
    · exact (ih.cons y).trans (.swap ..)

theorem insertByPosition_pairwise {c : Lug} (x : Close) {xs : List Close}
    (h : xs.Pairwise fun a b => position c b.lug ≤ position c a.lug) :
    (insertByPosition c x xs).Pairwise fun a b => position c b.lug ≤ position c a.lug := by
  induction xs with
  | nil => exact List.pairwise_singleton _ _
  | cons y rest ih =>
    obtain ⟨hy, hrest⟩ := List.pairwise_cons.1 h
    simp only [insertByPosition]
    split
    · next hlt =>
      refine List.pairwise_cons.2 ⟨fun z hz => ?_, h⟩
      rcases List.mem_cons.1 hz with rfl | hz
      · exact hlt.le
      · exact (hy z hz).trans hlt.le
    · next hlt =>
      refine List.pairwise_cons.2 ⟨fun z hz => ?_, ih hrest⟩
      rcases List.mem_cons.1 ((insertByPosition_perm c x rest).mem_iff.1 hz) with rfl | hz
      · exact not_lt.1 hlt
      · exact hy z hz

theorem sortByPosition_perm (c : Lug) (xs : List Close) : (sortByPosition c xs).Perm xs := by
  induction xs with
  | nil => exact .refl _
  | cons x rest ih => exact (insertByPosition_perm ..).trans (ih.cons x)

theorem sortByPosition_pairwise (c : Lug) (xs : List Close) :
    (sortByPosition c xs).Pairwise fun a b => position c b.lug ≤ position c a.lug := by
  induction xs with
  | nil => exact .nil
  | cons x rest ih => exact insertByPosition_pairwise x ih

/-- R37, R55: entries leave the intake queue with their marks passed on. -/
theorem leaveIntakeQueue_marksPassed (gone : IntakeEntry → Bool) (s : State) :
    MarksPassed s.intake.queue gone s.tracker.lug s.measure (leaveIntakeQueue gone s).measure := by
  refine ⟨fun x => x.mark.bind (passMark s.intake.queue gone), _, ?_, rfl, ?_, sortByPosition_pairwise .., ?_⟩
  · simp only [leaveIntakeQueue]
    induction s.measure.awaiting with
    | nil => rfl
    | cons x rest ih =>
      simp only [List.map_cons, List.filter_cons, List.filterMap_cons, Close.passed]
      cases x.mark.bind (passMark s.intake.queue gone) <;> simpa using ih
  · refine (sortByPosition_perm ..).trans (.of_eq ?_)
    induction s.measure.awaiting with
    | nil => rfl
    | cons x rest ih =>
      simp only [List.map_cons, List.filter_cons, Close.passed]
      cases hx : x.mark.bind (passMark s.intake.queue gone) <;> simp [ih]
  · intro x ahead e behind hmark hqueue hfirst
    have hpass : x.mark.bind (passMark s.intake.queue gone) =
        (((ahead ++ [e]).filter fun y => !gone y).getLast?).map IntakeEntry.key := by
      rw [hmark, hqueue]
      exact passMark_of_split gone hfirst
    refine ⟨fun hstays => ?_, fun hgone hall => ?_, fun before f between hgone hahead hf hbetween => ?_⟩
    · simp [hpass, hstays]
    · have hnone : ahead.filter (fun y => !gone y) = [] := by simpa using hall
      simp [hpass, hgone, hnone]
    · have hnone : between.filter (fun y => !gone y) = [] := by simpa using hbetween
      simp [hpass, hgone, hahead, hf, hnone]

/-- R38: held slots are released; read-back entries for them leave the queue. -/
theorem releaseHeldSlots_values (ps : List (Nat × Nat)) (s : State) :
    (releaseHeldSlots ps s).intake.queue = s.intake.queue.filter (fun e => !(ps.contains e.key && e.kind != .fresh)) ∧
    (ps = [] → (releaseHeldSlots ps s).measure = s.measure) ∧
    (ps ≠ [] → MarksPassed s.intake.queue (fun e => ps.contains e.key && e.kind != .fresh) s.tracker.lug s.measure
      (releaseHeldSlots ps s).measure) := by
  cases ps with
  | nil => simp [releaseHeldSlots]
  | cons p rest =>
    have hfold := foldl_keeps (fun s (p : Nat × Nat) => setFrameSlot p.1 p.2 .free s) (p :: rest) s
      (fun s => (s.intake.queue, s.measure, s.tracker.lug)) fun s q => by simp
    simp only [Prod.mk.injEq] at hfold
    obtain ⟨hqueue, hmeasure, hlug⟩ := hfold
    have hmarks := leaveIntakeQueue_marksPassed (fun e => (p :: rest).contains e.key && e.kind != .fresh)
      ((p :: rest).foldl (fun s p => setFrameSlot p.1 p.2 .free s) s)
    rw [hqueue, hmeasure, hlug] at hmarks
    refine ⟨?_, by simp, fun _ => ?_⟩
    · simp only [releaseHeldSlots, List.isEmpty_cons, Bool.false_eq_true, if_false, dropEngine_frame]
      simp only [leaveIntakeQueue, hqueue]
    · simpa only [releaseHeldSlots, List.isEmpty_cons, Bool.false_eq_true, if_false, dropEngine_frame] using hmarks

/-! ### A retire -/

/-- R12, R38, R60: what a freed record leaves behind in the intake queue and the close list. -/
theorem freeRecord_leaves (k : Nat) (s : State) :
    RetireLeaves s k (s.record k) s.tracker.lug (freeRecord k s).intake.queue (freeRecord k s).measure := by
  obtain ⟨hqueue, hnone, hsome⟩ := releaseHeldSlots_values (s.record k).held (endWork k s)
  refine ⟨fun e => (s.record k).held.contains e.key && e.kind != .fresh, fun e => by simp, ?_, (endWork k s).measure,
    by rw [endWork_measure], by rw [endWork_measure], hnone, fun hheld => ?_⟩
  · simpa [freeRecord, State.setRecord] using hqueue
  · simpa [freeRecord, State.setRecord] using hsome hheld

theorem retireLeaves_congr {s s' : State} {k : Nat} {r : Record} {lug : Lug} {q : List IntakeEntry} {m : Measure}
    (h : RetireLeaves s k r lug q m) (hqueue : s.intake.queue = s'.intake.queue) (hmeasure : s.measure = s'.measure) :
    RetireLeaves s' k r lug q m := by
  unfold RetireLeaves at h ⊢
  rwa [hqueue, hmeasure] at h

/-- No held reads of the slot, none to take from the list. -/
theorem held_filter_of_none {s : State} {k : Nat} (h : hasHeld s k = false) :
    (s.dispatch.held.filter fun h => h.slot != k) = s.dispatch.held ∧ (s.dispatch.held.filter fun h => h.slot == k) = [] := by
  have hnone : ∀ x ∈ s.dispatch.held, x.slot ≠ k := by simpa [hasHeld] using h
  exact ⟨by simpa using hnone, by simpa using hnone⟩

/-- R142: the held reads that a retire answers, its event and its note. -/
theorem fallbackAtRetire_spec (k : Nat) (s : State) :
    EventsWritten (fallbackEvents s k (s.record k)) s (fallbackAtRetire k s) ∧
    (fallbackAtRetire k s).bus.answers = s.bus.answers ++ fallbackAnswers s k (s.record k) ∧
    (fallbackAtRetire k s).dispatch = { s.dispatch with held := s.dispatch.held.filter fun h => h.slot != k } ∧
    (fallbackAtRetire k s).lineGuard = if hasHeld s k then (report .fallback s).lineGuard else s.lineGuard := by
  unfold fallbackAtRetire fallbackEvents fallbackAnswers
  cases hheld : hasHeld s k with
  | true =>
    refine ⟨?_, by simp [answerHeld, report, fallbackSaws_values], by simp [answerHeld, report], by simp [answerHeld, report, State.flag]⟩
    exact ((eventsWritten_emit _ _).after
      (t := answerHeld k (trimWord (fallbackSaws s.shadow.words) .fallback (s.record k).lug) s) (by simp [answerHeld])
      (window_of_shadow (by simp [answerHeld]) _) (grows_of_eq (by simp [answerHeld]))).before (by simp [report])
      (window_of_shadow (by simp [answerHeld]) _) (grows_of_eq (by simp [report]))
  | false =>
    obtain ⟨hstay, hnone⟩ := held_filter_of_none hheld
    exact ⟨eventsWritten_nil rfl (.refl _), by simp [hnone], by simp [hstay], rfl⟩

/-- R155: the update of a retire at position 31. -/
theorem handUnsorted_spec (lug : Lug) (s : State) :
    EventsWritten (if s.tally.queue.length < 64 then [] else [event .tally 3 lug (single s.tally.bank.toNat) 0]) s (handUnsorted lug s) ∧
    (handUnsorted lug s).tally.queue = s.tally.queue ++
      (if s.tally.queue.length < 64 then [{ bank := s.tally.bank, key := .unsorted, forced := false, lug := lug }] else []) := by
  have hlimit : Config.tallyQueueLimit = 64 := rfl
  simp only [handUnsorted, hlimit]
  split
  · exact ⟨eventsWritten_nil rfl (.refl _), rfl⟩
  · exact ⟨eventsWritten_emit _ _, by simp⟩

/-! ### Flags of the line guard -/

theorem flag_of_flags {s t : State} (h : t.lineGuard = s.lineGuard) (i : Nat) : t.flag i = s.flag i := by
  rw [State.flag, h, State.flag]

/-- R165: a report reaches its flag alone. -/
theorem report_flag {g : GuardName} {s : State} (h : s.lineGuard.flags.length = 6) (i : Nat) :
    (report g s).flag i = if i = g.index then (s.flag i).report s.tracker.lug else s.flag i := by
  have hg : g.index < s.lineGuard.flags.length := by rw [h]; cases g <;> decide
  simp only [report, State.flag, List.getD_eq_getElem?_getD, List.getElem?_set]
  by_cases hi : g.index = i
  · subst hi
    simp [hg]
  · simp [hi, Ne.symm hi]

@[simp] theorem report_values (f : GuardFlag) (lug : Lug) : (f.report lug).counter = f.counter ∧
    (f.report lug).latched = f.latched ∧ (f.report lug).shown = f.shown := ⟨rfl, rfl, rfl⟩

theorem mem_report_notes (f : GuardFlag) (lug l : Lug) : l ∈ (f.report lug).notes ↔ l ∈ f.notes ∨ l = lug := by
  simp only [GuardFlag.report, List.contains_iff_mem]
  split
  · next h => exact ⟨.inl, fun hl => hl.elim id fun heq => heq ▸ h⟩
  · simp

/-- What one lug event makes of a guard flag (R167-R169). -/
structure FlagEvaluated (f : GuardFlag) (present : Bool) (ended : Lug) (k : Nat) (g : GuardFlag) : Prop where
  counter : g.counter = if present then min (f.counter + 1) 255 else 0
  shown : g.shown = present
  latched : g.latched = (f.latched || decide (0 < k ∧ k ≤ g.counter))
  notes : ended ∉ g.notes

theorem latch_eq (g : GuardFlag) (k : Nat) : (if g.latches k then { g with latched := true } else g) =
    { g with latched := g.latched || decide (0 < k ∧ k ≤ g.counter) } := by
  obtain ⟨notes, counter, shown, latched⟩ := g
  simp only [GuardFlag.latches]
  cases latched <;> by_cases hk : 0 < k <;> by_cases hc : k ≤ counter <;> simp [hk, hc]

theorem evaluate_spec (f : GuardFlag) (present : Bool) (ended : Lug) (k : Nat) :
    FlagEvaluated f present ended k (f.evaluate present ended k) := by
  simp only [GuardFlag.evaluate, latch_eq]
  exact ⟨rfl, rfl, rfl, by simp [GuardFlag.count]⟩

/-- The flag latches exactly when its latch goes from clear to set. -/
theorem FlagEvaluated.latches {f g : GuardFlag} {present : Bool} {ended : Lug} {k : Nat} (h : FlagEvaluated f present ended k g) :
    (f.count present ended).latches k = (g.latched && !f.latched) := by
  have hcounter : (f.count present ended).counter = g.counter := h.counter.symm
  have hkeeps : (f.count present ended).latched = f.latched := rfl
  simp only [GuardFlag.latches, hcounter, hkeeps, h.latched]
  cases f.latched <;> simp

/-- A report made in the new lug touches neither what is evaluated for the ended one nor the outcome. -/
theorem FlagEvaluated.report_before {f g : GuardFlag} {present : Bool} {ended lug : Lug} {k : Nat}
    (h : FlagEvaluated (f.report lug) present ended k g) : FlagEvaluated f present ended k g :=
  ⟨h.counter, h.shown, h.latched, h.notes⟩

theorem FlagEvaluated.report_after {f g : GuardFlag} {present : Bool} {ended lug : Lug} {k : Nat}
    (h : FlagEvaluated f present ended k g) (hlug : lug ≠ ended) : FlagEvaluated f present ended k (g.report lug) :=
  ⟨h.counter, h.shown, h.latched, fun hin => ((mem_report_notes ..).1 hin).elim h.notes (Ne.symm hlug)⟩

/-- The events of the flags that latch, handed over one after another. -/
theorem emitLatched_foldl (l : List Nat) (s : State) : l.foldl (fun s i => emitLatched i s) s =
    emitAll (l.map fun i => event .guard 1 s.tracker.lug (single i) (pair (persistence s.shadow.words i) (s.flag i).counter)) s := by
  induction l generalizing s with
  | nil => rfl
  | cons i rest ih =>
    rw [List.foldl_cons, ih, List.map_cons, emitAll_cons]
    simp [emitLatched, emitNow, State.flag]

/-- R167, R168: the line guard's turn. -/
theorem guardStep_spec (ended : Lug) (s : State) :
    (∀ i, i < 6 → (guardStep ended s).flag i =
      (s.flag i).evaluate (guardPresent s i ended) ended (persistence s.shadow.words i)) ∧
    EventsWritten (((List.range 6).filter fun i => ((guardStep ended s).flag i).latched && !(s.flag i).latched).map fun i =>
      event .guard 1 s.tracker.lug (single i) (pair (persistence s.shadow.words i) ((guardStep ended s).flag i).counter))
      s (guardStep ended s) := by
  simp only [guardStep, emitLatched_foldl]
  generalize hflags : ((List.range 6).map fun i =>
    (s.flag i).evaluate (guardPresent s i ended) ended (persistence s.shadow.words i)) = flags
  generalize hx : ({ s with lineGuard := { s.lineGuard with flags := flags } } : State) = x
  have hflag : ∀ i, i < 6 → x.flag i = (s.flag i).evaluate (guardPresent s i ended) ended (persistence s.shadow.words i) := fun i hi => by
    simp [← hx, ← hflags, State.flag, hi]
  have hkeeps : ∀ (es : List Event) i, (emitAll es x).flag i = x.flag i := fun es => flag_of_flags (by simp)
  refine ⟨fun i hi => (hkeeps _ i).trans (hflag i hi), ?_⟩
  simp only [hkeeps]
  have hfilter : (List.range 6).filter (fun i => ((s.flag i).count (guardPresent s i ended) ended).latches (persistence s.shadow.words i)) =
      (List.range 6).filter fun i => (x.flag i).latched && !(s.flag i).latched := List.filter_congr fun i hi => by
    rw [hflag i (List.mem_range.1 hi)]
    exact (evaluate_spec ..).latches
  rw [hfilter]
  subst hx
  exact (eventsWritten_emitAll _ _).after rfl rfl (.refl _)

/-! ### The retire of a lug event -/

theorem retireUnsorted_spec (k : Nat) (s : State) :
    EventsWritten (retireEvents s k (s.record k)) s (retireUnsorted k s) ∧
    (retireUnsorted k s).bus.answers = s.bus.answers ++ fallbackAnswers s k (s.record k) ∧
    (retireUnsorted k s).dispatch = { s.dispatch with held := s.dispatch.held.filter fun h => h.slot != k } ∧
    (retireUnsorted k s).tally.queue = s.tally.queue ++ (if s.tally.queue.length < 64 then
      [{ bank := s.tally.bank, key := .unsorted, forced := false, lug := (s.record k).lug }] else []) ∧
    (retireUnsorted k s).lineGuard = (if hasHeld s k then report .fallback (report .unsorted s) else report .unsorted s).lineGuard ∧
    RetireLeaves s k (s.record k) s.tracker.lug (retireUnsorted k s).intake.queue (retireUnsorted k s).measure := by
  obtain ⟨hlost, hqueue⟩ := handUnsorted_spec (s.record k).lug s
  generalize hx : handUnsorted (s.record k).lug s = x at hlost hqueue
  generalize hu : report .unsorted (emit (event .line 1 (s.record k).lug 0 0) x) = u
  obtain ⟨hfall, hanswers, hdispatch, hguard⟩ := fallbackAtRetire_spec k u
  have hend : retireUnsorted k s = freeRecord k (fallbackAtRetire k u) := by rw [← hu, ← hx]; rfl
  have hheld : ∀ j, hasHeld u j = hasHeld s j := fun j => by simp [← hu, ← hx, hasHeld]
  have hrecord : u.record k = s.record k := by simp [← hu, ← hx, State.record]
  have hwords : u.shadow = s.shadow := by simp [← hu, ← hx]
  have hevents : fallbackEvents u k (u.record k) = fallbackEvents s k (s.record k) := by
    simp only [fallbackEvents, hheld, hrecord, hwords]
  have hflags : u.lineGuard = (report .unsorted s).lineGuard := by simp [← hu, ← hx, report, State.flag]
  have hbase : u.bus.answers = s.bus.answers ∧ u.dispatch = s.dispatch ∧ u.tally.queue = x.tally.queue ∧ u.tracker = s.tracker ∧
      u.intake = s.intake ∧ u.measure = s.measure := by simp [← hu, ← hx]
  obtain ⟨hua, hud, huq, hut, hui, hum⟩ := hbase
  rw [hend]
  refine ⟨?_, ?_, ?_, ?_, ?_, ?_⟩
  · have hline : EventsWritten [event .line 1 (s.record k).lug 0 0] x u :=
      hu ▸ (eventsWritten_emit _ _).before rfl (window_of_shadow (by simp) _) (.refl _)
    rw [hevents] at hfall
    have hall := hlost.append (hline.append hfall (window_of_shadow (by simp [← hu]) _)) (window_of_shadow (by simp [← hx]) _)
    exact hall.before (by simp) (window_of_shadow (by simp [hwords]) _) (grows_of_eq (by simp))
  · simp [hanswers, fallbackAnswers, hrecord, hwords, hua, hud]
  · simp [hdispatch, hud]
  · simp [huq, hqueue]
  · simp only [freeRecord_frame, hguard, hheld]
    split
    · simp only [report, hflags, State.flag, hut]
    · exact hflags
  · have hleaves := freeRecord_leaves k (fallbackAtRetire k u)
    have hfields : (fallbackAtRetire k u).record k = s.record k ∧ (fallbackAtRetire k u).tracker.lug = s.tracker.lug := by
      simp [State.record, hut]
    rw [hfields.1, hfields.2] at hleaves
    exact retireLeaves_congr hleaves (by simp [hui]) (by simp [hum])

/-- R12: the slot brought to position 31, and the slot brought to position 1. -/
theorem slotOf_back {c lug : Lug} {n : Nat} (h : position c lug = n) :
    slotOf (c + 1 - BitVec.ofNat 16 (n + 1)) = slotOf lug := by
  have hlug : lug = c - BitVec.ofNat 16 n := by
    refine BitVec.eq_of_toNat_eq ?_
    have hc := c.isLt
    have hl := lug.isLt
    simp only [position, BitVec.toNat_sub, BitVec.toNat_ofNat] at h ⊢
    omega
  subst hlug
  congr 1
  refine BitVec.eq_of_toNat_eq ?_
  have hc := c.isLt
  have hone : (1 : Lug).toNat = 1 := rfl
  simp only [BitVec.toNat_sub, BitVec.toNat_add, BitVec.toNat_ofNat, hone]
  omega

end Sys2Proof.Machine
end

section
/-! The lug event as the lug tracker, the override unit and the line guard take it (O14, O15, O17). -/

namespace Sys2Proof.Machine

/-! ### The blocks of a lug event -/

/-- What the blocks before the lug tracker leave as it was. -/
theorem beforeTracker_blocks (o : LugOrder) (s : State) : (beforeTracker o s).intake = s.intake ∧ (beforeTracker o s).measure = s.measure ∧
    (beforeTracker o s).overrides = s.overrides ∧ (beforeTracker o s).dispatch = s.dispatch ∧ (beforeTracker o s).tally = s.tally ∧
    (beforeTracker o s).inputs = s.inputs ∧ (beforeTracker o s).bus.answers = s.bus.answers := by
  simp only [beforeTracker]
  repeat' split
  all_goals simp [nextLug]

/-- What the blocks behind the lug tracker leave as it was. -/
theorem afterTracker_blocks (o : LugOrder) (ended : Lug) (s : State) : (afterTracker o ended s).intake = s.intake ∧
    (afterTracker o ended s).measure = s.measure ∧ (afterTracker o ended s).overrides = s.overrides ∧
    (afterTracker o ended s).dispatch = s.dispatch ∧ (afterTracker o ended s).tally = s.tally ∧
    (afterTracker o ended s).inputs = s.inputs ∧ (afterTracker o ended s).bus.answers = s.bus.answers := by
  simp only [afterTracker]
  repeat' split
  all_goals simp

/-- A raise of the lug number is a rise of filtered LUG: the other inputs stay. -/
theorem exec_lugEvent_inputs {c : Instr} {p : Input} {l : Bool} {o : LugOrder} {s t : State}
    (hc : c = .rawLevelChange p l o ∨ c = .filterTimerExpiry p o) (h : exec c s = .next t)
    (hlug : t.tracker.lug = s.tracker.lug + 1) :
    ∃ f, t = finish (lugEvent o (s.setFilter p f)) ∧ (s.setFilter p f).inputs.eye = s.inputs.eye ∧
      (s.setFilter p f).inputs.almin = s.inputs.almin := by
  obtain ⟨-, f, ht⟩ := exec_lugEvent hc h hlug
  refine ⟨f, ht, ?_⟩
  have hp : p = .lug := by
    by_contra hne
    have hkeeps : ∀ f, (filterStep p f o s).tracker.lug = s.tracker.lug := fun f => by
      have hno : bringsLugEvent s p (s.inputs.get p) f = false := by simp [bringsLugEvent, hne]
      simp [filterStep, hno]
    have hnext : ∀ f, t = finish (filterStep p f o s) → False := fun f ht => by
      simp [ht, hkeeps] at hlug
    rcases hc with rfl | rfl
    · simp only [exec, execRawLevelChange, done] at h
      split at h <;> cases h
      · simp at hlug
      · exact hnext _ rfl
    · cases h
      exact hnext _ rfl
  subst hp
  exact ⟨rfl, rfl⟩

/-- R5, R12: the record brought to position 31 is the one in the slot of the lug 31 back. -/
theorem retiresAt_iff {s b : State} (h : s.TableWithin 30) (hlug : b.tracker.lug = s.tracker.lug + 1)
    (hrecord : ∀ j, b.record j = s.record j)
    {k : Nat} (hk : k < 32) : ((s.record k).live = true ∧ position s.tracker.lug (s.record k).lug = 30) ↔
      k = slotOf (s.tracker.lug + 1 - 31#16) ∧ retiresAt b k = true := by
  have hretire : Config.retirePosition = 31 := rfl
  simp only [retiresAt, hrecord, hlug, hretire, Bool.and_eq_true, beq_iff_eq]
  constructor
  · rintro ⟨hlive, hposition⟩
    refine ⟨?_, hlive, by rw [position_next (by omega), hposition]⟩
    exact (h.placed k hk hlive).1.symm.trans (slotOf_back hposition).symm
  · rintro ⟨-, hlive, hposition⟩
    have hle := (h.placed k hk hlive).2
    rw [position_next hle] at hposition
    exact ⟨hlive, by omega⟩

/-- At most one record is retired. -/
theorem filter_range_single {n k : Nat} {p : Nat → Bool} (hk : k < n) (h : ∀ i, i < n → p i = true → i = k) :
    (List.range n).filter p = if p k then [k] else [] := by
  split
  · next hp =>
    have hcongr : (List.range n).filter p = (List.range n).filter (· == k) := List.filter_congr fun i hi => by
      by_cases hik : i = k
      · simp [hik, hp]
      · rw [beq_false_of_ne hik]
        exact Bool.eq_false_iff.2 fun hpi => hik (h i (List.mem_range.1 hi) hpi)
    rw [hcongr, List.filter_beq, List.count_eq_one_of_mem List.nodup_range (List.mem_range.2 hk)]
    rfl
  · next hp =>
    refine List.filter_eq_nil_iff.2 fun i hi hpi => hp ?_
    rw [← h i (List.mem_range.1 hi) hpi]
    exact hpi

/-- What the retire of a lug event does, in a state `b` in which the lug number has risen. -/
theorem retireStep_spec {s b : State} (h : s.TableWithin 30) (hlug : b.tracker.lug = s.tracker.lug + 1)
    (hrecord : ∀ j, b.record j = s.record j) (hflags : b.lineGuard.flags.length = 6) :
    EventsWritten (((List.range 32).filter fun k => (s.record k).live && position s.tracker.lug (s.record k).lug == 30).flatMap fun k =>
      retireEvents b k (b.record k)) b (retireStep b) ∧
    (∀ i, (retireStep b).flag i = b.flag i ∨ (retireStep b).flag i = (b.flag i).report (s.tracker.lug + 1)) := by
  have hfilter := filter_range_single (p := fun k => (s.record k).live && position s.tracker.lug (s.record k).lug == 30)
    (slotOf_lt (s.tracker.lug + 1 - 31#16)) fun k hk hp => by
      simp only [Bool.and_eq_true, beq_iff_eq] at hp
      exact ((retiresAt_iff h hlug hrecord hk).1 hp).1
  have hretires := retiresAt_iff h hlug hrecord (slotOf_lt (s.tracker.lug + 1 - 31#16))
  rw [hfilter]
  simp only [retireStep, hlug, Bool.and_eq_true, beq_iff_eq]
  generalize slotOf (s.tracker.lug + 1 - 31#16) = k at *
  by_cases hr : retiresAt b k = true
  · obtain ⟨hevents, -, -, -, hguard, -⟩ := retireUnsorted_spec k b
    rw [if_pos (hretires.2 ⟨rfl, hr⟩), if_pos hr]
    refine ⟨by simpa using hevents, fun i => ?_⟩
    rw [flag_of_flags hguard]
    split
    · have hlug' : (report .unsorted b).tracker.lug = s.tracker.lug + 1 := hlug
      have hdistinct : GuardName.fallback.index ≠ GuardName.unsorted.index := by decide
      rw [report_flag (by simpa [report] using hflags), report_flag hflags, hlug, hlug']
      by_cases hi : i = GuardName.fallback.index
      · exact .inr (by rw [if_pos hi, if_neg (hi ▸ hdistinct)])
      · rw [if_neg hi]
        exact (ite_eq_or_eq ..).symm
    · rw [report_flag hflags, hlug]
      exact (ite_eq_or_eq ..).symm
  · rw [if_neg fun hp => hr (hretires.1 hp).2, if_neg hr]
    exact ⟨eventsWritten_nil rfl (.refl _), fun i => .inl rfl⟩

/-! ### The line guard at a lug event (O17) -/

theorem trackerStep_guard (s : State) : (trackerStep s).lineGuard = (retireStep s).lineGuard ∧
    (trackerStep s).events = (retireStep s).events ∧ (trackerStep s).bus = (retireStep s).bus := by
  simp [trackerStep]

/-- The condition of flag `i` in the lug that ends with the event from `s`, as the guard finds it beside `blog`. -/
def presentAt (s : State) (blog i : Nat) : Bool :=
  if i = 4 then decide (backlogLimit s.shadow.words ≤ blog)
  else if i = 5 then s.inputs.almin.filtered else (s.flag i).notes.contains s.tracker.lug

/-- What one lug event does to flag `i`, the guard finding the backlog `blog`. -/
def FlagTaken (s t : State) (blog i : Nat) : Prop :=
  FlagEvaluated (s.flag i) (presentAt s blog i) s.tracker.lug (persistence s.shadow.words i) (t.flag i)

/-- The FLAG_LATCHED events of a lug event that takes `s` to `t` (R168). -/
def latchedEvents (s t : State) : List Event :=
  ((List.range 6).filter fun i => (t.flag i).latched && !(s.flag i).latched).map fun i =>
    event .guard 1 t.tracker.lug (single i) (pair (persistence s.shadow.words i) (t.flag i).counter)

theorem latchedEvents_congr {s t u : State} (hlug : u.tracker.lug = t.tracker.lug)
    (hflags : ∀ i, (u.flag i).latched = (t.flag i).latched ∧ (u.flag i).counter = (t.flag i).counter) :
    latchedEvents s u = latchedEvents s t := by
  simp only [latchedEvents, hlug, hflags]

theorem next_lug_ne (c : Lug) : c + 1 ≠ c := fun heq => by
  have hlt := c.isLt
  have heq := congrArg BitVec.toNat heq
  rw [BitVec.toNat_add, show (1 : Lug).toNat = 1 from rfl] at heq
  omega

/-- The line guard takes the event in a state `p` in which the lug number has risen, and notes of the new lug may have joined. -/
theorem guardStep_taken {s p : State} (hshadow : p.shadow = s.shadow) (halmin : p.inputs.almin = s.inputs.almin)
    (hflags : ∀ i, p.flag i = s.flag i ∨ p.flag i = (s.flag i).report (s.tracker.lug + 1)) :
    EventsWritten (latchedEvents s (guardStep s.tracker.lug p)) p (guardStep s.tracker.lug p) ∧
    ∀ i, i < 6 → FlagTaken s (guardStep s.tracker.lug p) (backlog p) i := by
  obtain ⟨hflag, hevents⟩ := guardStep_spec s.tracker.lug p
  refine ⟨?_, fun i hi => ?_⟩
  · have hlatched : ∀ i, (p.flag i).latched = (s.flag i).latched := fun i => by
      rcases hflags i with h | h <;> simp [h]
    simpa only [latchedEvents, hlatched, hshadow, guardStep_frame] using hevents
  · have hpresent : guardPresent p i s.tracker.lug = presentAt s (backlog p) i := by
      have hnotes : (p.flag i).notes.contains s.tracker.lug = (s.flag i).notes.contains s.tracker.lug := by
        rcases hflags i with h | h <;> rw [h]
        have hne := (next_lug_ne s.tracker.lug).symm
        rw [Bool.eq_iff_iff, List.contains_iff_mem, List.contains_iff_mem, mem_report_notes]
        exact or_iff_left hne
      simp only [guardPresent, presentAt, GuardName.index, hshadow, halmin, hnotes]
    have heval := evaluate_spec (p.flag i) (presentAt s (backlog p) i) s.tracker.lug (persistence s.shadow.words i)
    unfold FlagTaken
    rw [hflag i hi, hpresent, hshadow]
    rcases hflags i with h | h
    · rwa [h] at heval ⊢
    · rw [h] at heval ⊢
      exact heval.report_before

/-- The pacing logic's turn, at its place. -/
theorem paced_frame (turn : Bool) (s : State) : (if turn then pacingStep s else s).shadow = s.shadow ∧
    (if turn then pacingStep s else s).tracker = s.tracker ∧ (if turn then pacingStep s else s).inputs = s.inputs ∧
    (if turn then pacingStep s else s).lineGuard = s.lineGuard ∧ (if turn then pacingStep s else s).events = s.events ∧
    (if turn then pacingStep s else s).bus = s.bus := by
  cases turn <;> simp

/-- The state in which the blocks before the lug tracker, but for the line guard, have taken the event. -/
def pacedFirst (o : LugOrder) (s : State) : State := if o.pacingFirst then pacingStep (nextLug s) else nextLug s

/-- The state in which lug tracker, override unit and pacing logic have taken the event, taken by the line guard before or after. -/
def tracked (o : LugOrder) (s : State) : State := if !o.pacingFirst then pacingStep (trackerStep s) else trackerStep s

@[simp] theorem tracked_frame (o : LugOrder) (s : State) : (tracked o s).shadow = s.shadow ∧ (tracked o s).inputs = s.inputs := by
  obtain ⟨hshadow, -, hinputs, -⟩ := paced_frame (!o.pacingFirst) (trackerStep s)
  exact ⟨hshadow.trans (by simp), hinputs.trans (by simp)⟩

theorem lugBlocks_eq (o : LugOrder) (s : State) : lugBlocks o s =
    if o.guardFirst then tracked o (guardStep s.tracker.lug (pacedFirst o s))
    else guardStep s.tracker.lug (tracked o (pacedFirst o s)) := by
  cases hguard : o.guardFirst <;> cases hpacing : o.pacingFirst <;>
    simp [lugBlocks, afterTracker, beforeTracker, tracked, pacedFirst, hguard, hpacing]

/-- The lug tracker's turn, with what the event writer and the line guard see of it. -/
theorem tracked_spec {o : LugOrder} {s b : State} (h : s.TableWithin 30) (hlug : b.tracker.lug = s.tracker.lug + 1)
    (hrecords : b.tracker.records = s.tracker.records) (hflags : b.lineGuard.flags.length = 6) (hshadow : b.shadow = s.shadow)
    (hdispatch : b.dispatch = s.dispatch) (htally : b.tally = s.tally) :
    EventsWritten (((List.range 32).filter fun k => (s.record k).live && position s.tracker.lug (s.record k).lug == 30).flatMap fun k =>
      retireEvents s k (s.record k)) b (tracked o b) ∧
    ∀ i, (tracked o b).flag i = b.flag i ∨ (tracked o b).flag i = (b.flag i).report (s.tracker.lug + 1) := by
  have hrecord : ∀ j, b.record j = s.record j := record_of_records hrecords
  obtain ⟨hevents, hreports⟩ := retireStep_spec h hlug hrecord hflags
  obtain ⟨hguard, hwriter, hbus⟩ := trackerStep_guard b
  obtain ⟨-, -, -, hpguard, hpwriter, hpbus⟩ := paced_frame (!o.pacingFirst) (trackerStep b)
  have hsame : ∀ k, retireEvents b k (b.record k) = retireEvents s k (s.record k) := fun k => by
    simp only [retireEvents, fallbackEvents, hasHeld, hrecord, hshadow, hdispatch, htally]
    rfl
  simp only [hsame] at hevents
  refine ⟨hevents.before (hpwriter.trans hwriter) (window_of_shadow (by simp) _) (grows_of_eq (by rw [tracked, hpbus, hbus])), fun i => ?_⟩
  rw [tracked, flag_of_flags (hpguard.trans hguard)]
  exact hreports i

/-- R166-R168: the flags and the events of a lug event, block by block. -/
theorem lugBlocks_guard (o : LugOrder) {s : State} (h : s.TableWithin 30) :
    EventsWritten (lugEvents o s (lugBlocks o s)) s (lugBlocks o s) ∧
    ∀ i, i < 6 → FlagTaken s (lugBlocks o s) (if o.guardFirst then backlog s else backlog (lugBlocks o s)) i := by
  obtain ⟨hpshadow, hptracker, hpinputs, hpguard, hpwriter, hpbus⟩ := paced_frame o.pacingFirst (nextLug s)
  have hpblocks : (pacedFirst o s).dispatch = s.dispatch ∧ (pacedFirst o s).tally = s.tally := by
    simp only [pacedFirst]
    split <;> simp [nextLug]
  rw [← pacedFirst] at hpshadow hptracker hpinputs hpguard hpwriter hpbus
  have hstart : EventsWritten [] s (pacedFirst o s) := eventsWritten_nil hpwriter (grows_of_eq (congrArg _ hpbus))
  have hplug : (pacedFirst o s).tracker.lug = s.tracker.lug + 1 := by rw [hptracker]; rfl
  have hprecords : (pacedFirst o s).tracker.records = s.tracker.records := by rw [hptracker]; rfl
  have hlugs : (lugBlocks o s).tracker.lug = s.tracker.lug + 1 := lugBlocks_lug o s
  rw [lugBlocks_eq] at hlugs ⊢
  generalize pacedFirst o s = p at *
  replace hpshadow : p.shadow = s.shadow := hpshadow
  have hflags : ∀ i, p.flag i = s.flag i := flag_of_flags hpguard
  have hbacklog : backlog p = backlog s := backlog_of_records hprecords
  obtain ⟨hpdispatch, hptally⟩ := hpblocks
  cases hfirst : o.guardFirst with
  | true =>
    obtain ⟨hlatched, htaken⟩ := guardStep_taken hpshadow (congrArg Inputs.almin hpinputs) fun i => .inl (hflags i)
    obtain ⟨hretired, hreports⟩ := tracked_spec (o := o) (b := guardStep s.tracker.lug p) h (by simp [hplug]) (by simp [hprecords])
      (guardStep_flags_length ..) (by simp [hpshadow]) (by simp [hpdispatch]) (by simp [hptally])
    simp only [hfirst, if_true, hbacklog] at hlugs htaken ⊢
    have hvalues : ∀ i, ((tracked o (guardStep s.tracker.lug p)).flag i).latched = ((guardStep s.tracker.lug p).flag i).latched ∧
        ((tracked o (guardStep s.tracker.lug p)).flag i).counter = ((guardStep s.tracker.lug p).flag i).counter := fun i => by
      rcases hreports i with hr | hr <;> simp [hr]
    refine ⟨?_, fun i hi => ?_⟩
    · have hall := hstart.append (hlatched.append hretired (window_of_shadow (by simp) _)) (window_of_shadow hpshadow _)
      rw [← latchedEvents_congr (by rw [hlugs]; simp [hplug]) hvalues] at hall
      simpa [lugEvents, hfirst, latchedEvents] using hall
    · have htaken := htaken i hi
      unfold FlagTaken at htaken ⊢
      rcases hreports i with hr | hr
      · rwa [hr]
      · rw [hr]
        exact htaken.report_after (next_lug_ne _)
  | false =>
    obtain ⟨hretired, hreports⟩ := tracked_spec (o := o) h hplug hprecords (by rw [hpguard]; exact h.sized.flags) hpshadow
      hpdispatch hptally
    obtain ⟨hlatched, htaken⟩ := guardStep_taken (p := tracked o p) (s := s) (by simp [hpshadow]) (by simp [hpinputs, nextLug])
      fun i => hflags i ▸ hreports i
    simp only [hfirst, Bool.false_eq_true, if_false] at hlugs ⊢
    refine ⟨?_, fun i hi => ?_⟩
    · have hall := hstart.append (hretired.append hlatched (window_of_shadow (by simp) _)) (window_of_shadow hpshadow _)
      simpa [lugEvents, hfirst, latchedEvents] using hall
    · have hsame : backlog (guardStep s.tracker.lug (tracked o p)) = backlog (tracked o p) := backlog_of_records (by simp)
      rw [hsame]
      exact htaken i hi

/-- The guard's part of a lug event: nothing behind the blocks writes an event or touches a flag. -/
theorem lugEvent_guard (o : LugOrder) {s : State} (hs : s.TableSound) :
    EventsWritten (lugEvents o s (lugEvent o s)) s (lugEvent o s) ∧
    (∀ i, i < 6 → FlagTaken s (lugEvent o s) (if o.guardFirst then backlog s else backlog (lugEvent o s)) i) ∧
    (lugEvent o s).inputs = s.inputs := by
  obtain ⟨hevents, htaken⟩ := lugBlocks_guard o ((tableSound_iff _).1 hs)
  have hinputs : (lugBlocks o s).inputs = s.inputs := by
    simp [lugBlocks, (beforeTracker_blocks o _).2.2.2.2.2.1, (afterTracker_blocks o _ _).2.2.2.2.2.1]
  have hshadow : (lugBlocks o s).shadow = s.shadow := by simp [lugBlocks]
  have hbacklog := backlog_lugEvent o hs
  rw [lugEvent_eq] at hbacklog ⊢
  rw [hbacklog]
  generalize lugBlocks o s = x at *
  generalize waitingResults (nextLug s) (waitingFor (nextLug s)) = bs at *
  have hflag : ∀ i, (issueAll bs (settle s x)).flag i = x.flag i := flag_of_flags (by simp)
  refine ⟨?_, by simpa only [FlagTaken, hflag] using htaken, by simpa using hinputs⟩
  have hlist : lugEvents o s (issueAll bs (settle s x)) = lugEvents o s x := by
    simp [lugEvents, hflag]
  rw [hlist]
  exact (hevents.settle s (window_of_shadow hshadow _)).before (by simp) (window_of_shadow (by simp [hshadow]) _) (issueAll_grows ..)

/-- Settles O17: the command runs one lug event, which keeps the level of ALMIN. -/
theorem guardAtLugEvent : Obligations.GuardAtLugEvent := by
  unfold Obligations.GuardAtLugEvent
  intro c p l o s t hs hc hexec hlug
  obtain ⟨f, rfl, -, halmin⟩ := exec_lugEvent_inputs hc hexec hlug
  obtain ⟨hevents, htaken, hinputs⟩ := lugEvent_guard o (setFilter_tableSound hs p f)
  generalize lugEvent o (s.setFilter p f) = y at *
  have hflag : ∀ i, (finish y).flag i = y.flag i := flag_of_flags (by simp)
  have hbacklog : backlog (finish y) = backlog y := backlog_of_records (by simp)
  refine ⟨⟨y, rfl, ?_⟩, fun i hi => ⟨presentAt (s.setFilter p f) (if o.guardFirst then backlog s else backlog y) i, ?_, ?_⟩⟩
  · have hlist : lugEvents o s (finish y) = lugEvents o (s.setFilter p f) y := by
      simp only [lugEvents, hflag, finish_frame]
      rfl
    exact hlist ▸ hevents.after rfl rfl (.refl _)
  · have hlevel : (finish y).inputs.almin = s.inputs.almin := by simp [hinputs, halmin]
    rw [hbacklog, hlevel, presentAt, halmin]
    rfl
  · obtain ⟨hcounter, hshown, hlatched, hnotes⟩ := htaken i hi
    rw [hflag]
    exact ⟨hcounter, hshown, hlatched, hnotes⟩

end Sys2Proof.Machine
end

section
/-! The new record of a lug event, and the records it retires, closes and commits (O15, O14). -/

namespace Sys2Proof.Machine

/-! ### The pending overrides of the new lug (O15) -/

/-- The forced-trim entry of a slot after overrides applied to it in turn (R115, R116). -/
def trimEntryAfter (x : Option TrimEntry) (q : PendingOverride) : Option TrimEntry :=
  if q.kind = .trim then some { addr := q.addr, tag := q.tag } else if q.kind = .chip ∨ q.kind = .clear then none else x

/-- R120: overrides applied in list order. -/
theorem applyWaiting_values {k : Nat} (ps : List PendingOverride) {s : State} (hk : k < s.tracker.records.length)
    (ht : k < s.overrides.trimEntries.length) :
    (applyWaiting k ps s).record k = ps.foldl (fun r q => r.applyPart q.kind q.arg) (s.record k) ∧
    (applyWaiting k ps s).overrides.trimEntries.getD k none =
      ps.foldl trimEntryAfter (s.overrides.trimEntries.getD k none) := by
  induction ps generalizing s with
  | nil => exact ⟨rfl, rfl⟩
  | cons p ps ih =>
    have hrecords := applyPart_records k p.kind p.arg p.addr p.tag s
    have htrims := applyPart_trims k p.kind p.arg p.addr p.tag s
    have hrecord : (applyPart k p.kind p.arg p.addr p.tag s).record k = (s.record k).applyPart p.kind p.arg := by
      simp [State.record, hrecords, hk]
    have htrim : (applyPart k p.kind p.arg p.addr p.tag s).overrides.trimEntries.getD k none =
        trimEntryAfter (s.overrides.trimEntries.getD k none) p := by
      rw [htrims, trimEntryAfter]
      repeat' split
      all_goals simp [ht]
    have hlength : (applyPart k p.kind p.arg p.addr p.tag s).overrides.trimEntries.length = s.overrides.trimEntries.length := by
      rw [htrims]
      repeat' split
      all_goals simp
    obtain ⟨hrest, htrest⟩ := ih (s := applyPart k p.kind p.arg p.addr p.tag s) (by simpa [hrecords] using hk) (hlength ▸ ht)
    rw [hrecord] at hrest
    rw [htrim] at htrest
    exact ⟨hrest, htrest⟩

/-- R8, R9, R120, R121: the record created at a lug event, and the pending-override list. -/
theorem createStep_values {s : State} (hk : slotOf s.tracker.lug < s.tracker.records.length)
    (ht : slotOf s.tracker.lug < s.overrides.trimEntries.length) :
    (createStep s).overrides.waiting = s.overrides.waiting.filter (fun q => q.lug != s.tracker.lug) ∧
    (s.inputs.eye.filtered = false → (createStep s).tracker.records = s.tracker.records) ∧
    (s.inputs.eye.filtered = true →
      (createStep s).record (slotOf s.tracker.lug) =
        (waitingFor s).foldl (fun r q => r.applyPart q.kind q.arg) (Record.created s.tracker.lug) ∧
      (createStep s).overrides.trimEntries.getD (slotOf s.tracker.lug) none =
        (waitingFor s).foldl trimEntryAfter (s.overrides.trimEntries.getD (slotOf s.tracker.lug) none)) := by
  simp only [createStep]
  cases s.inputs.eye.filtered with
  | false => exact ⟨rfl, fun _ => rfl, fun h => by cases h⟩
  | true =>
    generalize hu : ({
      s with overrides := { s.overrides with waiting := s.overrides.waiting.filter fun p => p.lug != s.tracker.lug } } : State) = u
    have hrecords : u.tracker = s.tracker := hu ▸ rfl
    have htrims : u.overrides.trimEntries = s.overrides.trimEntries := hu ▸ rfl
    have hku : slotOf s.tracker.lug < u.tracker.records.length := hrecords ▸ hk
    obtain ⟨hrecord, htrim⟩ := applyWaiting_values (waitingFor s) (k := slotOf s.tracker.lug)
      (s := u.setRecord (slotOf s.tracker.lug) (Record.created s.tracker.lug)) (by simpa [State.setRecord] using hku) (htrims ▸ ht)
    rw [record_setRecord _ _ _ _ hku, if_pos rfl] at hrecord
    have hset : (u.setRecord (slotOf s.tracker.lug) (Record.created s.tracker.lug)).overrides = u.overrides := rfl
    rw [hset, htrims] at htrim
    exact ⟨by simp [← hu], (fun h => by cases h), fun _ => ⟨hrecord, htrim⟩⟩

theorem createStep_of_no_board {s : State} (heye : s.inputs.eye.filtered = false) : (createStep s).tracker = s.tracker := by
  simp [createStep, heye]

theorem slotOf_retired_ne (c : Lug) : slotOf (c - 31#16) ≠ slotOf c := by
  simp only [slotOf, BitVec.toNat_sub]
  have := c.isLt
  have h31 : (31#16).toNat = 31 := rfl
  omega

/-- A retire clears the forced-trim entry of its own slot alone. -/
theorem retireStep_trims (s : State) :
    (retireStep s).overrides.trimEntries = s.overrides.trimEntries ∨
      (retireStep s).overrides.trimEntries = s.overrides.trimEntries.set (slotOf (s.tracker.lug - 31#16)) none := by
  simp only [retireStep]
  split
  · right
    simp [retireUnsorted, freeRecord_values]
  · exact .inl rfl

/-- What a lug event leaves of the pending-override list, and in the slot of the new lug. -/
theorem lugBlocks_created (o : LugOrder) {s : State} (h : s.TableWithin 30) :
    (lugBlocks o s).overrides.waiting = s.overrides.waiting.filter (fun q => q.lug != s.tracker.lug + 1) ∧
    (s.inputs.eye.filtered = true →
      (lugBlocks o s).record (slotOf (s.tracker.lug + 1)) = (s.overrides.waiting.filter fun q => q.lug == s.tracker.lug + 1).foldl
        (fun r q => r.applyPart q.kind q.arg) (Record.created (s.tracker.lug + 1)) ∧
      (lugBlocks o s).overrides.trimEntries.getD (slotOf (s.tracker.lug + 1)) none =
        (s.overrides.waiting.filter fun q => q.lug == s.tracker.lug + 1).foldl trimEntryAfter
          (s.overrides.trimEntries.getD (slotOf (s.tracker.lug + 1)) none)) := by
  obtain ⟨-, -, hoverrides, -, -, hinputs, -⟩ := beforeTracker_blocks o s
  have hlug : (beforeTracker o s).tracker.lug = s.tracker.lug + 1 := by simp
  have hsized : (beforeTracker o s).Sized := sized_of_lengths (beforeTracker_flags h.sized) h.sized
  have hafter : (lugBlocks o s).overrides = (trackerStep (beforeTracker o s)).overrides ∧
      ∀ k, (lugBlocks o s).record k = (trackerStep (beforeTracker o s)).record k :=
    ⟨(afterTracker_blocks o _ _).2.2.1, record_of_records (by simp [lugBlocks])⟩
  simp only [hafter]
  generalize beforeTracker o s = b at *
  generalize hu : commitStep (closeStep (retireStep b)) = u
  have hulug : u.tracker.lug = s.tracker.lug + 1 := by simp [← hu, hlug]
  have hrecords : u.tracker.records.length = 32 := by
    have hkeeps := ((retireStep_queueOnlyLoses b).trans (closeStep_queueOnlyLoses _)).trans (commitStep_queueOnlyLoses _)
    rw [← hu, hkeeps.slots, hsized.records]
  have htrims : u.overrides.trimEntries.length = 32 ∧
      u.overrides.trimEntries.getD (slotOf (s.tracker.lug + 1)) none =
        b.overrides.trimEntries.getD (slotOf (s.tracker.lug + 1)) none := by
    have hsame : u.overrides.trimEntries = (retireStep b).overrides.trimEntries := by simp [← hu]
    rw [hsame]
    rcases retireStep_trims b with ht | ht
    · exact ⟨ht ▸ hsized.trims, by rw [ht]⟩
    · refine ⟨by rw [ht, List.length_set, hsized.trims], ?_⟩
      rw [ht, hlug]
      rcases getD_set_cases b.overrides.trimEntries (slotOf (s.tracker.lug + 1 - 31#16)) (slotOf (s.tracker.lug + 1)) none none with hg | hg
      · exact hg
      · exact absurd hg.1.symm (slotOf_retired_ne _)
  have hwaiting : u.overrides.waiting = s.overrides.waiting := by simp [← hu, hoverrides]
  have heye : u.inputs.eye = s.inputs.eye := by simp [← hu, hinputs]
  obtain ⟨hlist, -, hcreated⟩ := createStep_values (s := u) (by rw [hrecords]; exact slotOf_lt _) (by rw [htrims.1]; exact slotOf_lt _)
  simp only [waitingFor, hulug, hwaiting, heye, htrims.2, hoverrides] at hlist hcreated
  have hstep : trackerStep b = createStep u := by rw [← hu]; rfl
  rw [hstep]
  exact ⟨hlist, hcreated⟩

/-! ### The records that stand (O14) -/

/-- What a lug event from `s` makes of the record `r` of a slot: it is retired at position 31, closed at position 1, committed at C. -/
def Record.afterLug (r : Record) (s : State) : Record :=
  if r.live = true ∧ position s.tracker.lug r.lug = 30 then Record.blank
  else Record.commitAt { r with state := if r.state = .scanning ∧ position s.tracker.lug r.lug = 0 then .closing else r.state }
    (s.tracker.lug + 1) (commitPosition s.shadow.words)

theorem retireStep_record {s b : State} (h : s.TableWithin 30) (hlug : b.tracker.lug = s.tracker.lug + 1)
    (hrecords : b.tracker.records = s.tracker.records) {k : Nat} (hk : k < 32) : (retireStep b).record k =
      if (s.record k).live = true ∧ position s.tracker.lug (s.record k).lug = 30 then Record.blank else s.record k := by
  have hrecord : ∀ j, b.record j = s.record j := record_of_records hrecords
  have hretires := retiresAt_iff h hlug hrecord hk
  have hlength : b.tracker.records.length = 32 := hrecords ▸ h.sized.records
  simp only [retireStep, hlug]
  by_cases hat : retiresAt b (slotOf (s.tracker.lug + 1 - 31#16)) = true
  · have hset := record_of_set (retireUnsorted_records (slotOf (s.tracker.lug + 1 - 31#16)) b) k
    rw [if_pos hat]
    by_cases hslot : k = slotOf (s.tracker.lug + 1 - 31#16)
    · rw [if_pos (hretires.2 ⟨hslot, hslot ▸ hat⟩), hslot, State.record, retireUnsorted_records]
      simp [hlength, slotOf_lt]
    · rw [if_neg fun hr => hslot (hretires.1 hr).1, ← hrecord k]
      exact hset.resolve_right fun hr => hslot hr.1
  · rw [if_neg hat, hrecord, if_neg]
    exact fun hr => hat ((hretires.1 hr).1 ▸ (hretires.1 hr).2)

theorem closeStep_record {b : State} (h : b.TableWithin 30) {k : Nat} (hk : k < 32) : (closeStep b).record k = { b.record k with
    state := if (b.record k).state = .scanning ∧ position b.tracker.lug (b.record k).lug = 1 then .closing else (b.record k).state } := by
  have hslot : (b.record k).state = .scanning ∧ position b.tracker.lug (b.record k).lug = 1 → k = slotOf (b.tracker.lug - 1#16) := by
    rintro ⟨hstate, hposition⟩
    have hlug : b.tracker.lug - 1#16 = (b.record k).lug := by
      simp only [position] at hposition
      bv_omega
    exact hlug ▸ (h.placed k hk (by simp [Record.live, hstate])).1.symm
  simp only [closeStep]
  split
  · next hcloses =>
    have hset := record_of_set (s := b) (k := slotOf (b.tracker.lug - 1#16))
      (r := { b.record (slotOf (b.tracker.lug - 1#16)) with state := .closing })
      (t := b.setRecord (slotOf (b.tracker.lug - 1#16)) { b.record (slotOf (b.tracker.lug - 1#16)) with state := .closing }) rfl k
    have hbegin : ∀ (r : Record) (mark : Option (Nat × Nat)), (beginClose (slotOf (b.tracker.lug - 1#16)) r.lug false mark
        (b.setRecord (slotOf (b.tracker.lug - 1#16)) { r with state := .closing })).record k =
        (b.setRecord (slotOf (b.tracker.lug - 1#16)) { r with state := .closing }).record k := fun r mark => record_of_records (by simp) k
    rw [hbegin]
    by_cases hk' : k = slotOf (b.tracker.lug - 1#16)
    · rw [record_setRecord _ _ _ _ (by rw [h.sized.records]; exact slotOf_lt _), if_pos hk', hk', if_pos hcloses]
    · rw [hset.resolve_right fun hr => hk' hr.1, if_neg fun hc => hk' (hslot hc)]
  · next hcloses =>
    rw [if_neg]
    intro hc
    rw [hslot hc] at hc
    exact hcloses hc

/-- R8-R12: every slot but the new lug's after a lug event, and that one too with filtered EYE deasserted. -/
theorem lugBlocks_record (o : LugOrder) {s : State} (h : s.TableWithin 30) {k : Nat} (hk : k < 32)
    (hother : k ≠ slotOf (s.tracker.lug + 1) ∨ s.inputs.eye.filtered = false) :
    (lugBlocks o s).record k = (s.record k).afterLug s := by
  obtain ⟨-, -, hoverrides, -, -, hinputs, -⟩ := beforeTracker_blocks o s
  have hlug : (beforeTracker o s).tracker.lug = s.tracker.lug + 1 := by simp
  have hrecords : (beforeTracker o s).tracker.records = s.tracker.records := by simp
  have hshadow : (beforeTracker o s).shadow = s.shadow := by simp
  have hbefore : (beforeTracker o s).TableWithin 31 := tableWithin_next h (beforeTracker_flags h.sized) (by simp) (by simp) (by simp)
  have hafter : (lugBlocks o s).record k = (trackerStep (beforeTracker o s)).record k := record_of_records (by simp [lugBlocks]) k
  rw [hafter]
  generalize beforeTracker o s = b at *
  have hretired := retireStep_record h hlug hrecords hk
  have hclosed := closeStep_record (retireStep_within hbefore).1 hk
  have hcommitted := commitStep_record (closeStep (retireStep b)) k
  have hlugs : (retireStep b).tracker.lug = s.tracker.lug + 1 := by simp [hlug]
  have hcreated : (trackerStep b).record k = (commitStep (closeStep (retireStep b))).record k := by
    rcases hother with hne | heye
    · exact createStep_record (by simpa [hlug] using hne)
    · have hoff : (commitStep (closeStep (retireStep b))).inputs.eye.filtered = false := by simpa [hinputs] using heye
      exact record_of_records (congrArg Tracker.records (createStep_of_no_board hoff)) k
  rw [hcreated, hcommitted, hclosed, hretired, Record.afterLug]
  simp only [closeStep_frame, hlugs, retireStep_frame, hshadow]
  by_cases hretires : (s.record k).live = true ∧ position s.tracker.lug (s.record k).lug = 30
  · rw [if_pos hretires, if_pos hretires]
    rfl
  · rw [if_neg hretires, if_neg hretires]
    by_cases hscanning : (s.record k).state = .scanning
    · have hposition := position_next (h.placed k hk (by simp [Record.live, hscanning])).2
      simp only [hscanning, hposition, true_and, Nat.add_eq_right]
    · simp [hscanning]

/-! ### The lug event, settled -/

theorem lugEvent_record (o : LugOrder) {s : State} (h : s.TableWithin 30) (k : Nat) :
    (lugEvent o s).record k = (lugBlocks o s).record k ∨ (((lugBlocks o s).record k).state = .queued ∧
      (lugEvent o s).record k = { (lugBlocks o s).record k with state := .optimizing }) := by
  have hsame : (lugEvent o s).record k = (settle s (lugBlocks o s)).record k := record_of_records (by simp [lugEvent_eq]) k
  rw [hsame]
  exact (lugBlocks_within o h).1.settled s k

theorem lugEvent_record_eq (o : LugOrder) {s : State} (h : s.TableWithin 30) {k : Nat}
    (hstate : ((lugBlocks o s).record k).state ≠ .queued) : (lugEvent o s).record k = (lugBlocks o s).record k :=
  (lugEvent_record o h k).resolve_right fun hq => hstate hq.1

theorem parts_state (ps : List PendingOverride) (r : Record) :
    (ps.foldl (fun r q => r.applyPart q.kind q.arg) r).state = r.state := by
  induction ps generalizing r with
  | nil => rfl
  | cons q ps ih => exact (ih _).trans (applyPart_state ..)

/-- The slot of the new lug after a lug event with a board under the eye. -/
theorem lugEvent_created (o : LugOrder) {s : State} (h : s.TableWithin 30) (heye : s.inputs.eye.filtered = true) :
    (lugEvent o s).record (slotOf (s.tracker.lug + 1)) = (s.overrides.waiting.filter fun q => q.lug == s.tracker.lug + 1).foldl
      (fun r q => r.applyPart q.kind q.arg) (Record.created (s.tracker.lug + 1)) := by
  obtain ⟨hrecord, -⟩ := (lugBlocks_created o h).2 heye
  rw [lugEvent_record_eq o h, hrecord]
  rw [hrecord, parts_state]
  simp [Record.created]

theorem afterLug_not_live {r : Record} (s : State) (h : r.live = false) : r.afterLug s = r := by
  have hstate : r.state = .free := by simpa [Record.live] using h
  simp [Record.afterLug, Record.commitAt, Record.live, hstate]
  rw [← hstate]

/-- A slot that no record stands in, but for the new one's, stays FREE. -/
theorem lugEvent_free (o : LugOrder) {s : State} (h : s.TableWithin 30) {k : Nat} (hk : k < 32) (hlive : (s.record k).live = false)
    (hother : k ≠ slotOf (s.tracker.lug + 1) ∨ s.inputs.eye.filtered = false) : (lugEvent o s).record k = s.record k := by
  have hrecord := (lugBlocks_record o h hk hother).trans (afterLug_not_live s hlive)
  rw [lugEvent_record_eq o h, hrecord]
  rw [hrecord]
  intro hqueued
  simp [Record.live, hqueued] at hlive

/-- Settles O15: the list loses the entries of the new lug, and a board under the eye takes them. -/
theorem pendingOverridesAtLugEvent : Obligations.PendingOverridesAtLugEvent := by
  unfold Obligations.PendingOverridesAtLugEvent
  intro c p l o s t ps hs hc hexec hlug hps
  obtain ⟨f, rfl, heye, -⟩ := exec_lugEvent_inputs hc hexec hlug
  subst hps
  rw [hlug]
  have htable : (s.setFilter p f).TableWithin 30 := (tableSound_iff _).1 (setFilter_tableSound hs p f)
  obtain ⟨hwaiting, hcreated⟩ := lugBlocks_created o htable
  have hrecord := lugEvent_created o htable
  have hfree := lugEvent_free o htable (slotOf_lt ((s.setFilter p f).tracker.lug + 1)) (next_slot_not_live htable.placed)
  have heq := lugEvent_eq o (s.setFilter p f)
  have hoverrides : (lugEvent o (s.setFilter p f)).overrides = (lugBlocks o (s.setFilter p f)).overrides := by simp [heq]
  rw [← hoverrides] at hwaiting hcreated
  rw [heye] at hcreated hrecord hfree
  have hrecords : ∀ y : State, ∀ k, (finish y).record k = y.record k := fun y => record_of_records (by simp)
  have hkept : ∀ y : State, (finish y).overrides = y.overrides := fun y => by simp
  rw [hrecords, hkept]
  generalize lugEvent o (s.setFilter p f) = y at *
  refine ⟨hwaiting, ⟨settle (s.setFilter p f) (lugBlocks o (s.setFilter p f)), ?_⟩, fun hoff => ?_, fun hon => ?_, fun r a => ?_⟩
  · rw [heq, waitingResults, ← heye]
    rfl
  · exact (congrArg Record.live (hfree (.inr hoff))).trans (next_slot_not_live hs.placed)
  · exact ⟨hrecord hon, (hcreated hon).2⟩
  · have hhalf : a.toNat / 65536 % 65536 = a.toNat / 65536 := Nat.mod_eq_of_lt (by have := a.isLt; omega)
    simp [Record.applyPart, trimArg, markArg, bits, hhalf]

/-! ### What a lug event does beside the record table (O14) -/

/-- R10, R37: the close that a record brought to position 1 begins. -/
theorem closeStep_measure {b : State} (h : b.TableWithin 30) :
    (∀ k, k < 32 → (b.record k).state = .scanning → position b.tracker.lug (b.record k).lug = 1 →
      (b.intake.queue ≠ [] → (closeStep b).measure = { b.measure with awaiting := b.measure.awaiting ++
        [{ slot := k, lug := (b.record k).lug, rescan := false, mark := b.intake.queue.getLast?.map fun e => (e.head, e.slot) }] }) ∧
      (b.intake.queue = [] → (closeStep b).measure = { b.measure with finalising := b.measure.finalising ++
        [{ slot := k, lug := (b.record k).lug, rescan := false, mark := none }] })) ∧
    ((∀ k, k < 32 → (b.record k).state = .scanning → position b.tracker.lug (b.record k).lug ≠ 1) →
      (closeStep b).measure = b.measure) := by
  refine ⟨fun k hk hstate hposition => ?_, fun hnone => ?_⟩
  · have hslot : slotOf (b.tracker.lug - 1#16) = k := by
      have hlug : b.tracker.lug - 1#16 = (b.record k).lug := by
        simp only [position] at hposition
        bv_omega
      exact hlug ▸ (h.placed k hk (by simp [Record.live, hstate])).1
    simp only [closeStep, hslot, hstate, hposition, and_self, if_true]
    cases hq : b.intake.queue.getLast? with
    | none =>
      have hempty : b.intake.queue = [] := List.getLast?_eq_none_iff.1 hq
      exact ⟨fun hne => absurd hempty hne, fun _ => rfl⟩
    | some e => exact ⟨fun _ => rfl, fun hempty => by simp [hempty] at hq⟩
  · simp only [closeStep]
    rw [if_neg]
    exact fun hcloses => hnone _ (slotOf_lt _) hcloses.1 hcloses.2

/-- What the blocks behind the retire leave as the retire left it. -/
theorem lugBlocks_retired (o : LugOrder) (s : State) :
    (lugBlocks o s).dispatch = (retireStep (beforeTracker o s)).dispatch ∧
    (lugBlocks o s).bus.answers = (retireStep (beforeTracker o s)).bus.answers ∧
    (lugBlocks o s).tally = (retireStep (beforeTracker o s)).tally ∧
    (lugBlocks o s).intake = (retireStep (beforeTracker o s)).intake ∧
    (lugBlocks o s).measure = (closeStep (retireStep (beforeTracker o s))).measure ∧
    ∀ i, s.tracker.lug + 1 ∈ ((retireStep (beforeTracker o s)).flag i).notes → i < 6 →
      s.tracker.lug + 1 ∈ ((lugBlocks o s).flag i).notes := by
  obtain ⟨hintake, hmeasure, -, hdispatch, htally, -, hanswers⟩ := afterTracker_blocks o s.tracker.lug (trackerStep (beforeTracker o s))
  refine ⟨hdispatch.trans (by simp [trackerStep]), hanswers.trans (by simp [trackerStep]), htally.trans (by simp [trackerStep]),
    hintake.trans (by simp [trackerStep]), hmeasure.trans (by simp [trackerStep]), fun i hnote hi => ?_⟩
  have hflag : ∀ i, (trackerStep (beforeTracker o s)).flag i = (retireStep (beforeTracker o s)).flag i :=
    flag_of_flags (trackerStep_guard _).1
  rw [← hflag] at hnote
  simp only [lugBlocks, afterTracker]
  generalize trackerStep (beforeTracker o s) = u at *
  have hpaced : ∀ i, (if o.pacingFirst then u else pacingStep u).flag i = u.flag i := flag_of_flags (by split <;> simp)
  rw [← hpaced] at hnote
  generalize (if o.pacingFirst then u else pacingStep u) = v at *
  split
  · exact hnote
  · rw [(guardStep_spec s.tracker.lug v).1 i hi, GuardFlag.evaluate]
    have hstays : s.tracker.lug + 1 ∈ ((v.flag i).count (guardPresent v i s.tracker.lug) s.tracker.lug).notes :=
      List.mem_filter.2 ⟨hnote, bne_iff_ne.2 (next_lug_ne _)⟩
    split <;> exact hstays

/-- What a retire does beside its record, as a lug event from `s` brings it. -/
structure RetiredAt (s t : State) (k : Nat) : Prop where
  queued : t.tally.queue = s.tally.queue ++ (if s.tally.queue.length < 64 then
    [{ bank := s.tally.bank, key := .unsorted, forced := false, lug := (s.record k).lug }] else [])
  answers : t.bus.answers = s.bus.answers ++ fallbackAnswers s k (s.record k)
  dispatch : t.dispatch = { s.dispatch with held := s.dispatch.held.filter fun h => h.slot != k }
  unsorted : s.tracker.lug + 1 ∈ (t.flag 3).notes
  fallback : hasHeld s k = true → s.tracker.lug + 1 ∈ (t.flag 2).notes
  leaves : RetireLeaves s k (s.record k) (s.tracker.lug + 1) t.intake.queue t.measure

/-- R12: the retire's own turn. -/
theorem retireStep_retires {s b : State} (h : s.TableWithin 30) (hlug : b.tracker.lug = s.tracker.lug + 1)
    (hrecords : b.tracker.records = s.tracker.records) (hflags : b.lineGuard.flags.length = 6) (hshadow : b.shadow = s.shadow)
    (hdispatch : b.dispatch = s.dispatch) (htally : b.tally = s.tally) (hintake : b.intake = s.intake) (hmeasure : b.measure = s.measure)
    (hanswers : b.bus.answers = s.bus.answers) :
    (∀ k, k < 32 → (s.record k).live = true → position s.tracker.lug (s.record k).lug = 30 → RetiredAt s (retireStep b) k) ∧
    ((∀ k, k < 32 → (s.record k).live = true → position s.tracker.lug (s.record k).lug ≠ 30) → retireStep b = b) := by
  have hrecord : ∀ j, b.record j = s.record j := record_of_records hrecords
  refine ⟨fun k hk hlive hposition => ?_, fun hnone => ?_⟩
  · obtain ⟨hslot, hat⟩ := (retiresAt_iff h hlug hrecord hk).1 ⟨hlive, hposition⟩
    obtain ⟨-, hans, hdis, htal, hguard, hleaves⟩ := retireUnsorted_spec k b
    have hstep : retireStep b = retireUnsorted k b := by
      simp only [retireStep, hlug, ← hslot]
      rw [if_pos hat]
    rw [hstep]
    have hheld : hasHeld b k = hasHeld s k := by simp only [hasHeld, hdispatch]
    rw [hheld] at hguard
    have hunsorted : ∀ i, (report .unsorted b).flag i = if i = 3 then (b.flag i).report (s.tracker.lug + 1) else b.flag i :=
      fun i => hlug ▸ report_flag hflags i
    have hfallback : ∀ i, (report .fallback (report .unsorted b)).flag i =
        if i = 2 then ((report .unsorted b).flag i).report (s.tracker.lug + 1) else (report .unsorted b).flag i := fun i => by
      have hlug' : (report .unsorted b).tracker.lug = s.tracker.lug + 1 := hlug
      rw [← hlug']
      exact report_flag (by simpa [report] using hflags) i
    refine ⟨by rw [htal, htally, hrecord], ?_, by rw [hdis, hdispatch], ?_, fun hsome => ?_, ?_⟩
    · rw [hans, hanswers, hrecord, fallbackAnswers, fallbackAnswers, hdispatch, hshadow]
    · rw [flag_of_flags hguard]
      split
      · rw [hfallback, hunsorted]
        simp [mem_report_notes]
      · rw [hunsorted]
        simp [mem_report_notes]
    · rw [flag_of_flags hguard, if_pos hsome, hfallback]
      simp [mem_report_notes]
    · rw [hrecord, hlug] at hleaves
      exact retireLeaves_congr hleaves (by rw [hintake]) hmeasure
  · simp only [retireStep, hlug]
    rw [if_neg]
    exact fun hat => (hnone _ (slotOf_lt _) ((retiresAt_iff h hlug hrecord (slotOf_lt _)).2 ⟨rfl, hat⟩).1)
      ((retiresAt_iff h hlug hrecord (slotOf_lt _)).2 ⟨rfl, hat⟩).2

/-- A live record that is not retired at a lug event: it may close, be committed, and be taken by the idle optimizer. -/
theorem lugEvent_stands (o : LugOrder) {s : State} (h : s.TableWithin 30) {k : Nat} (hk : k < 32) (hlive : (s.record k).live = true)
    (hposition : position s.tracker.lug (s.record k).lug ≠ 30) :
    ∃ st, (st = (if (s.record k).state = .scanning ∧ position s.tracker.lug (s.record k).lug = 0 then .closing else (s.record k).state) ∨
        ((s.record k).state = .queued ∧ st = .optimizing)) ∧
      (lugEvent o s).record k = { s.record k with
        state := st
        committed := (s.record k).committed ||
          decide (commitPosition s.shadow.words ≤ position s.tracker.lug (s.record k).lug + 1) } := by
  have hother : k ≠ slotOf (s.tracker.lug + 1) := fun heq => by
    rw [heq, next_slot_not_live h.placed] at hlive
    cases hlive
  have hnext := position_next (h.placed k hk hlive).2
  have hblocks := lugBlocks_record o h hk (.inl hother)
  rw [Record.afterLug, if_neg fun hr => hposition hr.2] at hblocks
  generalize hst : (if (s.record k).state = .scanning ∧ position s.tracker.lug (s.record k).lug = 0 then RecordState.closing
    else (s.record k).state) = st at *
  have hstlive : st ≠ .free := by
    rw [← hst]
    split
    · decide
    · simpa [Record.live] using hlive
  have hcommit : ({ s.record k with state := st } : Record).commitAt (s.tracker.lug + 1) (commitPosition s.shadow.words) =
      { s.record k with
        state := st
        committed := (s.record k).committed ||
          decide (commitPosition s.shadow.words ≤ position s.tracker.lug (s.record k).lug + 1) } := by
    simp only [Record.commitAt, Record.live, bne_iff_ne, ne_eq, hstlive, not_false_eq_true, true_and, hnext]
    split
    · next hle => simp [hle]
    · next hle => simp [hle]
  rw [hcommit] at hblocks
  rcases lugEvent_record o h k with heq | ⟨hqueued, heq⟩
  · exact ⟨st, .inl rfl, heq.trans hblocks⟩
  · rw [hblocks] at hqueued heq
    refine ⟨.optimizing, .inr ⟨?_, rfl⟩, heq⟩
    simp only at hqueued
    rw [hqueued] at hst
    split at hst
    · cases hst
    · exact hst

/-- The blocks that a lug event's end leaves alone. -/
theorem lugEvent_blocks (o : LugOrder) (s : State) : (lugEvent o s).dispatch = (lugBlocks o s).dispatch ∧
    (lugEvent o s).bus.answers = (lugBlocks o s).bus.answers ∧ (lugEvent o s).tally.queue = (lugBlocks o s).tally.queue ∧
    (lugEvent o s).intake = (lugBlocks o s).intake ∧ (lugEvent o s).measure = (lugBlocks o s).measure ∧
    ∀ i, (lugEvent o s).flag i = (lugBlocks o s).flag i := by
  refine ⟨?_, ?_, ?_, ?_, ?_, flag_of_flags ?_⟩ <;> rw [lugEvent_eq] <;> simp

/-- A retire leaves in intake queue and close list `q` and `m`, to which the close of the record at position 1 joins. -/
theorem lugEvent_retired (o : LugOrder) {s : State} (h : s.TableWithin 30) : ∃ r : State,
    ((∀ k, k < 32 → (s.record k).live = true → position s.tracker.lug (s.record k).lug = 30 → RetiredAt s r k) ∧
      ((∀ k, k < 32 → (s.record k).live = true → position s.tracker.lug (s.record k).lug ≠ 30) → r.dispatch = s.dispatch ∧
        r.bus.answers = s.bus.answers ∧ r.tally = s.tally ∧ r.intake = s.intake ∧ r.measure = s.measure)) ∧
    (lugEvent o s).dispatch = r.dispatch ∧ (lugEvent o s).bus.answers = r.bus.answers ∧
    (lugEvent o s).tally.queue = r.tally.queue ∧ (lugEvent o s).intake = r.intake ∧
    (∀ i, s.tracker.lug + 1 ∈ (r.flag i).notes → i < 6 → s.tracker.lug + 1 ∈ ((lugEvent o s).flag i).notes) ∧
    (∀ k, k < 32 → (s.record k).state = .scanning → position s.tracker.lug (s.record k).lug = 0 →
      (r.intake.queue ≠ [] → (lugEvent o s).measure = { r.measure with awaiting := r.measure.awaiting ++
        [{ slot := k, lug := (s.record k).lug, rescan := false, mark := r.intake.queue.getLast?.map fun e => (e.head, e.slot) }] }) ∧
      (r.intake.queue = [] → (lugEvent o s).measure = { r.measure with finalising := r.measure.finalising ++
        [{ slot := k, lug := (s.record k).lug, rescan := false, mark := none }] })) ∧
    ((∀ k, k < 32 → (s.record k).state = .scanning → position s.tracker.lug (s.record k).lug ≠ 0) →
      (lugEvent o s).measure = r.measure) := by
  obtain ⟨hintake, hmeasure, -, hdispatch, htally, -, hanswers⟩ := beforeTracker_blocks o s
  have hlug : (beforeTracker o s).tracker.lug = s.tracker.lug + 1 := by simp
  have hrecords : (beforeTracker o s).tracker.records = s.tracker.records := by simp
  have hbefore : (beforeTracker o s).TableWithin 31 := tableWithin_next h (beforeTracker_flags h.sized) (by simp) (by simp) (by simp)
  obtain ⟨hretires, hnone⟩ := retireStep_retires h hlug hrecords hbefore.sized.flags (by simp) hdispatch htally hintake hmeasure hanswers
  obtain ⟨hcloses, hstays⟩ := closeStep_measure (retireStep_within hbefore).1
  have hretired := fun k hk => retireStep_record h hlug hrecords (k := k) hk
  obtain ⟨hed, hea, het, hei, hem, hef⟩ := lugEvent_blocks o s
  obtain ⟨hbd, hba, hbt, hbi, hbm, hbf⟩ := lugBlocks_retired o s
  have hrlug : (retireStep (beforeTracker o s)).tracker.lug = s.tracker.lug + 1 := by simp
  refine ⟨retireStep (beforeTracker o s), ⟨hretires, fun hno => by rw [hnone hno]; exact ⟨hdispatch, hanswers, htally, hintake, hmeasure⟩⟩,
    hed.trans hbd, hea.trans hba, het.trans (congrArg _ hbt), hei.trans hbi, fun i hi h6 => hef i ▸ hbf i hi h6, ?_, ?_⟩
  · intro k hk hstate hposition
    have hrecord := hretired k hk
    rw [if_neg (by omega)] at hrecord
    have hnext := position_next (h.placed k hk (by simp [Record.live, hstate])).2
    rw [hem, hbm]
    have hclose := hcloses k hk (by rw [hrecord, hstate]) (by rw [hrecord, hrlug, hnext, hposition])
    rwa [hrecord] at hclose
  · intro hno
    rw [hem, hbm]
    refine hstays fun k hk hstate hposition => ?_
    have hrecord := hretired k hk
    split at hrecord
    · rw [hrecord] at hstate
      cases hstate
    · rw [hrecord] at hstate hposition
      have hnext := position_next (h.placed k hk (by simp [Record.live, hstate])).2
      rw [hrlug, hnext] at hposition
      exact hno k hk hstate (by omega)

theorem mem_lugEvents {o : LugOrder} {s t : State} {k : Nat} {e : Event} (hk : k < 32) (hlive : (s.record k).live = true)
    (hposition : position s.tracker.lug (s.record k).lug = 30) (he : e ∈ retireEvents s k (s.record k)) : e ∈ lugEvents o s t := by
  have hin : e ∈ ((List.range 32).filter fun k => (s.record k).live && position s.tracker.lug (s.record k).lug == 30).flatMap fun k =>
      retireEvents s k (s.record k) :=
    List.mem_flatMap.2 ⟨k, List.mem_filter.2 ⟨List.mem_range.2 hk, by simp [hlive, hposition]⟩, he⟩
  simp only [lugEvents]
  split
  · exact List.mem_append_right _ hin
  · exact List.mem_append_left _ hin

/-- The classes that the events of a retire leave pending. -/
theorem lugEvent_pending (o : LugOrder) {s : State} (hs : s.TableSound) {k : Nat} (hk : k < 32) (hlive : (s.record k).live = true)
    (hposition : position s.tracker.lug (s.record k).lug = 30) :
    (lugEvent o s).events.classes.getLsbD 7 = true ∧
    (64 ≤ s.tally.queue.length → (lugEvent o s).events.classes.getLsbD 4 = true) ∧
    (hasHeld s k = true → (lugEvent o s).events.classes.getLsbD 3 = true) := by
  obtain ⟨hevents, -⟩ := lugEvent_guard o hs
  refine ⟨(hevents.pending_iff (by decide)).2 (.inr ⟨event .line 1 (s.record k).lug 0 0, mem_lugEvents hk hlive hposition ?_, rfl⟩),
    fun hfull => (hevents.pending_iff (by decide)).2 (.inr ⟨event .tally 3 (s.record k).lug (single s.tally.bank.toNat) 0,
      mem_lugEvents hk hlive hposition ?_, rfl⟩),
    fun hheld => (hevents.pending_iff (by decide)).2 (.inr ⟨event .dispatch 2 (s.record k).lug (single (s.record k).state.code)
      (single (fallbackPass s.shadow.words).toNat), mem_lugEvents hk hlive hposition ?_, rfl⟩)⟩
  · simp [retireEvents]
  · simp [retireEvents, Nat.not_lt.2 hfull]
  · simp [retireEvents, fallbackEvents, hheld]

/-- The slot of a retired record is FREE. -/
theorem lugEvent_blank (o : LugOrder) {s : State} (h : s.TableWithin 30) {k : Nat} (hk : k < 32) (hlive : (s.record k).live = true)
    (hposition : position s.tracker.lug (s.record k).lug = 30) : (lugEvent o s).record k = Record.blank := by
  have hother : k ≠ slotOf (s.tracker.lug + 1) := fun heq => by
    rw [heq, next_slot_not_live h.placed] at hlive
    cases hlive
  have hblocks := lugBlocks_record o h hk (.inl hother)
  rw [Record.afterLug, if_pos ⟨hlive, hposition⟩] at hblocks
  rw [lugEvent_record_eq o h (by rw [hblocks]; decide), hblocks]

/-- Settles O14: the lug tracker's turn, slot by slot, with what a retire and a close leave in the blocks beside it. -/
theorem lugTrackerAtLugEvent : Obligations.LugTrackerAtLugEvent := by
  unfold Obligations.LugTrackerAtLugEvent
  intro c p l o s t hs hc hexec hlug
  obtain ⟨f, rfl, heye, -⟩ := exec_lugEvent_inputs hc hexec hlug
  rw [hlug]
  have hsound := setFilter_tableSound hs p f
  have htable : (s.setFilter p f).TableWithin 30 := (tableSound_iff _).1 hsound
  have hcreated := lugEvent_created o htable
  have hstands := fun k hk => lugEvent_stands o htable (k := k) hk
  have hblank := fun k hk => lugEvent_blank o htable (k := k) hk
  have hfree := fun k hk => lugEvent_free o htable (k := k) hk
  have hpending := fun k hk => lugEvent_pending o hsound (k := k) hk
  obtain ⟨r, ⟨hretires, hnone⟩, hdispatch, hanswers, htally, hintake, hnotes, hcloses, hstays⟩ := lugEvent_retired o htable
  rw [heye] at hcreated hfree
  generalize lugEvent o (s.setFilter p f) = y at *
  have hrecord : ∀ k, (finish y).record k = y.record k := record_of_records (by simp)
  have hflag : ∀ i, (finish y).flag i = y.flag i := flag_of_flags (by simp)
  simp only [finish_frame, hrecord, hflag, hdispatch, hanswers, htally, hintake]
  refine ⟨fun hon hnew => ?_, fun k hk hlive hposition => ?_, hstands, hfree, r.intake.queue, r.measure, rfl,
    fun k hk hlive hposition => ?_, fun hno => ?_, hcloses, hstays⟩
  · have hempty : s.overrides.waiting.filter (fun q => q.lug == s.tracker.lug + 1) = [] := by
      exact List.filter_eq_nil_iff.2 fun q hq => by simpa using hnew q hq
    exact (hcreated hon).trans (by
      rw [show (s.setFilter p f).overrides = s.overrides from rfl, show (s.setFilter p f).tracker = s.tracker from rfl, hempty]
      rfl)
  · obtain ⟨hqueued, hans, hdis, hunsorted, hfallback, -⟩ := hretires k hk hlive hposition
    obtain ⟨hline, hlost, hheld⟩ := hpending k hk hlive hposition
    refine ⟨hblank k hk hlive hposition, hline, hnotes 3 hunsorted (by decide), fun hroom => ?_, fun hfull => ⟨?_, hlost hfull⟩, hans, hdis,
      fun hsome => ⟨hnotes 2 (hfallback hsome) (by decide), hheld hsome⟩⟩
    · exact hqueued.trans (congrArg (s.tally.queue ++ ·) (if_pos hroom))
    · exact hqueued.trans ((congrArg (s.tally.queue ++ ·) (if_neg (Nat.not_lt.2 hfull))).trans (List.append_nil _))
  · exact retireLeaves_congr (hretires k hk hlive hposition).leaves rfl rfl
  · obtain ⟨hd, ha, ht, hi, hm⟩ := hnone hno
    exact ⟨congrArg Intake.queue hi, hm, congrArg Tally.queue ht, hd, ha⟩

end Sys2Proof.Machine
end

section
/-! The sort answer (O56). -/

namespace Sys2Proof.Machine

/-! ### The choice of a bin -/

/-- R146: the first bin that matches and is not full, or none of the sixteen. -/
theorem chooseBin_spec (s : State) (g n : Nat) : match chooseBin s g n with
    | some b => b < 16 ∧ binMatches s.shadow.words b g n = true ∧ binFull s b = false ∧
      ∀ i, i < b → binMatches s.shadow.words i g n = true → binFull s i = true
    | none => ∀ b, b < 16 → binMatches s.shadow.words b g n = true → binFull s b = true := by
  unfold chooseBin
  cases hfind : (List.range 16).find? fun b => binMatches s.shadow.words b g n && !binFull s b with
  | none =>
    intro b hb hmatches
    have hnone := List.find?_eq_none.1 hfind b (List.mem_range.2 hb)
    simpa [hmatches] using hnone
  | some b =>
    obtain ⟨hsome, hb, hbefore⟩ := List.find?_range_eq_some.1 hfind
    simp only [Bool.and_eq_true, Bool.not_eq_true'] at hsome
    refine ⟨List.mem_range.1 hb, hsome.1, hsome.2, fun i hi hmatches => ?_⟩
    simpa [hmatches] using hbefore i hi

/-- R145, R146, R149: what the sort answer of a live record is, by its outcome. -/
theorem sortOutcome_of_choice (s : State) (r : Record) :
    SortOutcome s r (sortChoice s r).1 (sortChoice s r).2.1 (retireKey { r with untrimmed := decide (r.state ≠ .dispatched) }).1
      (retireKey { r with untrimmed := decide (r.state ≠ .dispatched) }).2 where
  untrimmed h := by simp [sortChoice, retireKey, h]
  reject d hstate hdecision hverdict := by simp [sortChoice, hstate, hdecision, hverdict]
  fallback d hstate hdecision hverdict := by simp [sortChoice, hstate, hdecision, hverdict]
  piece d hstate hdecision hverdict := by
    have hchosen := chooseBin_spec s d.grade (d.b - d.a)
    have hchoice : sortChoice s r = match chooseBin s d.grade (d.b - d.a) with
        | some b => (b, .sorted, false)
        | none => (rejectBin s.shadow.words, .reject, true) := by
      simp [sortChoice, hstate, hdecision, hverdict] <;> rfl
    rw [hchoice]
    cases hbin : chooseBin s d.grade (d.b - d.a) with
    | some b =>
      rw [hbin] at hchosen
      exact .inl ⟨rfl, hchosen⟩
    | none =>
      rw [hbin] at hchosen
      exact .inr ⟨rfl, rfl, hchosen⟩
  key d hstate hdecision := by
    refine ⟨fun hfallback => ?_, fun hfallback hverdict => ?_, fun hfallback hverdict => ?_⟩ <;>
      simp [retireKey, *]

/-- R146: NO_BIN goes with the answer REJECT to a PIECE. -/
theorem sortChoice_noBin (s : State) (r : Record) : (sortChoice s r).2.2 = true ↔
    r.state = .dispatched ∧ ∃ d, r.decision = some d ∧ d.verdict = .piece ∧ (sortChoice s r).2.1 = .reject := by
  by_cases hstate : r.state = .dispatched
  · cases hdecision : r.decision with
    | none => simp [sortChoice, hstate, hdecision]
    | some d =>
      cases hverdict : d.verdict with
      | piece => cases hbin : chooseBin s d.grade (d.b - d.a) <;> simp [sortChoice, hstate, hdecision, hverdict, hbin]
      | reject => simp [sortChoice, hstate, hdecision, hverdict]
      | fallback => simp [sortChoice, hstate, hdecision, hverdict]
  · simp [sortChoice, hstate]

/-! ### The answer and the retire -/

/-- The sort answer of a live record, up to its retire. -/
def sortAnswered (txn : Nat) (m : Master) (k : Nat) (s : State) : State :=
  let r := s.record k
  let c := sortChoice s r
  let s := answer txn m (.data [sortWord c.1 c.2.1 r.lug]) s
  let s := if c.2.2 then emitNoBin r s else s
  let s := raiseBin c.1 s
  let s := if c.2.1 = .sorted then emitBinFull c.1 r.lug s else s
  let s := if r.state = .dispatched then s else emitUntrimmed r s
  let r' := { r with untrimmed := decide (r.state ≠ .dispatched) }
  joinTally { bank := s.tally.bank, key := (retireKey r').1, forced := (retireKey r').2, lug := r.lug } s

theorem judgeSort_of_live {txn : Nat} {m : Master} {k : Nat} {s : State} (h : (s.record k).state ≠ .free) :
    judgeSort txn m k s = freeRecord k (fallbackAtRetire k (sortAnswered txn m k s)) := if_neg h

theorem judgeSort_of_free {txn : Nat} {m : Master} {k : Nat} {s : State} (h : (s.record k).state = .free) :
    judgeSort txn m k s = answer txn m (.data [sortWord 0 .empty (freeSlotLug s.tracker.lug k)]) s := if_pos h

/-- The events of a sort answer before those of the retire. -/
def answerEvents (s : State) (r : Record) (bin : Nat) (status : SortStatus) : List Event :=
  (match r.decision with
    | some d => if r.state = .dispatched ∧ d.verdict = .piece ∧ status = .reject then
        [event .dispatch 3 r.lug (pair d.grade (d.b - d.a)) (single (fullMatching s d.grade (d.b - d.a)).toNat)] else []
    | none => []) ++
  (if status = .sorted ∧ binFull (raiseBin bin s) bin = true then
    [event .dispatch 4 r.lug (single bin) (single (binCapacity s.shadow.words bin))] else []) ++
  (if r.state = .dispatched then [] else
    [event .dispatch 5 r.lug (single r.state.code) (single ((r.decision.map fun d => d.verdict.code).getD 0))])

theorem emitNoBin_events {s : State} {r : Record} {status : SortStatus} {turn : Bool}
    (h : turn = true ↔ r.state = .dispatched ∧ ∃ d, r.decision = some d ∧ d.verdict = .piece ∧ status = .reject) :
    EventsWritten (match r.decision with
      | some d => if r.state = .dispatched ∧ d.verdict = .piece ∧ status = .reject then
          [event .dispatch 3 r.lug (pair d.grade (d.b - d.a)) (single (fullMatching s d.grade (d.b - d.a)).toNat)] else []
      | none => []) s (if turn then emitNoBin r s else s) := by
  cases hdecision : r.decision with
  | none =>
    have hno : ¬ turn = true := fun ht => by
      obtain ⟨-, d, hd, -⟩ := h.1 ht
      rw [hdecision] at hd
      cases hd
    rw [if_neg hno]
    exact eventsWritten_nil rfl (.refl _)
  | some d =>
    have hiff : turn = true ↔ r.state = .dispatched ∧ d.verdict = .piece ∧ status = .reject := by
      rw [h]
      simp [hdecision]
    simp only [← hiff]
    split
    · simp only [emitNoBin, hdecision]
      exact eventsWritten_emit _ _
    · exact eventsWritten_nil rfl (.refl _)

/-- The tally update of a retire at a sort answer (R149). -/
def sortUpdate (bank : Bool) (r : Record) : TallyUpdate :=
  { bank := bank
    key := (retireKey { r with untrimmed := decide (r.state ≠ .dispatched) }).1
    forced := (retireKey { r with untrimmed := decide (r.state ≠ .dispatched) }).2
    lug := r.lug }

/-- What a sort answer of a live record does up to its retire, the choice being `bin` and `status`. -/
structure SortAnswered (s t : State) (txn : Nat) (m : Master) (r : Record) (bin : Nat) (status : SortStatus) : Prop where
  events : EventsWritten (answerEvents s r bin status) s t
  answers : t.bus.answers = s.bus.answers ++ [{ txn := txn, master := m, reply := .data [sortWord bin status r.lug] }]
  dispatch : t.dispatch = { s.dispatch with counts := s.dispatch.counts.set bin (min (s.dispatch.counts.getD bin 0 + 1) 65535) }
  queue : t.tally.queue = s.tally.queue ++ [sortUpdate s.tally.bank r]
  tracker : t.tracker = s.tracker
  shadow : t.shadow = s.shadow
  overrides : t.overrides = s.overrides
  optimizer : t.optimizer = s.optimizer
  lineGuard : t.lineGuard = s.lineGuard

theorem emitBinFull_events {bin : Nat} {lug : Lug} {status : SortStatus} {s x : State} (hshadow : x.shadow = s.shadow)
    (hdispatch : x.dispatch = (raiseBin bin s).dispatch) :
    EventsWritten (if status = .sorted ∧ binFull (raiseBin bin s) bin = true then
      [event .dispatch 4 lug (single bin) (single (binCapacity s.shadow.words bin))] else [])
      x (if status = .sorted then emitBinFull bin lug x else x) := by
  have hfull : binFull x bin = binFull (raiseBin bin s) bin := by simp [binFull, binCount, hshadow, hdispatch]
  rw [← hfull, ← hshadow]
  by_cases hstatus : status = .sorted
  · simp only [hstatus, true_and, if_true, emitBinFull]
    split
    · exact eventsWritten_emit _ _
    · exact eventsWritten_nil rfl (.refl _)
  · simp only [hstatus, false_and, if_false]
    exact eventsWritten_nil rfl (.refl _)

theorem emitUntrimmed_events (r : Record) (s : State) :
    EventsWritten (if r.state = .dispatched then [] else
      [event .dispatch 5 r.lug (single r.state.code) (single ((r.decision.map fun d => d.verdict.code).getD 0))])
      s (if r.state = .dispatched then s else emitUntrimmed r s) := by
  have hcode : outcomeCode r.decision = (r.decision.map fun d => d.verdict.code).getD 0 := by cases r.decision <;> rfl
  split
  · exact eventsWritten_nil rfl (.refl _)
  · rw [← hcode]
    exact eventsWritten_emit _ _

theorem sortAnswered_spec (txn : Nat) (m : Master) (k : Nat) (s : State) :
    SortAnswered s (sortAnswered txn m k s) txn m (s.record k) (sortChoice s (s.record k)).1 (sortChoice s (s.record k)).2.1 := by
  have hnoBin := sortChoice_noBin s (s.record k)
  simp only [sortAnswered]
  generalize s.record k = r at *
  generalize sortChoice s r = c at *
  obtain ⟨bin, status, turn⟩ := c
  simp only at hnoBin ⊢
  generalize ha : answer txn m (.data [sortWord bin status r.lug]) s = a
  have hstart : EventsWritten [] s a := ha ▸ eventsWritten_nil rfl (.refl _)
  have hfirst := emitNoBin_events (s := a) hnoBin
  have hmatching : ∀ g n, fullMatching a g n = fullMatching s g n := fun g n => ha ▸ rfl
  simp only [hmatching] at hfirst
  generalize hb : (if turn = true then emitNoBin r a else a) = b at *
  have hbframe : b.shadow = s.shadow ∧ b.dispatch = s.dispatch ∧ b.tally = s.tally ∧ b.tracker = s.tracker ∧ b.overrides = s.overrides ∧
      b.optimizer = s.optimizer ∧ b.lineGuard = s.lineGuard ∧ b.bus.answers = a.bus.answers := by
    rw [← hb]
    split <;> simp [← ha]
  obtain ⟨hbs, hbd, hbt, hbr, hbo, hbq, hbl, hba⟩ := hbframe
  generalize hc : raiseBin bin b = c at *
  have hcd : c.dispatch = (raiseBin bin s).dispatch := by rw [← hc]; simp only [raiseBin, binCount, hbd]
  have hcs : c.shadow = s.shadow := by simp [← hc, hbs]
  have hsecond : EventsWritten [] b c := hc ▸ eventsWritten_nil rfl (.refl _)
  have hthird := emitBinFull_events (lug := r.lug) (status := status) hcs hcd
  generalize hd : (if status = .sorted then emitBinFull bin r.lug c else c) = d at *
  have hdframe : d.shadow = c.shadow ∧ d.dispatch = c.dispatch ∧ d.tally = c.tally ∧ d.tracker = c.tracker ∧ d.overrides = c.overrides ∧
      d.optimizer = c.optimizer ∧ d.lineGuard = c.lineGuard ∧ d.bus.answers = c.bus.answers := by
    rw [← hd]
    split <;> simp
  obtain ⟨hds, hdd, hdt, hdr, hdo, hdq, hdl, hda⟩ := hdframe
  have hlast := emitUntrimmed_events r d
  generalize he : (if r.state = .dispatched then d else emitUntrimmed r d) = e at *
  have heframe : e.shadow = d.shadow ∧ e.dispatch = d.dispatch ∧ e.tally = d.tally ∧ e.tracker = d.tracker ∧ e.overrides = d.overrides ∧
      e.optimizer = d.optimizer ∧ e.lineGuard = d.lineGuard ∧ e.bus.answers = d.bus.answers := by
    rw [← he]
    split <;> simp
  obtain ⟨hes, hed, het, her, heo, heq, hel, hea⟩ := heframe
  have hwindow : ∀ {x : State}, x.shadow = s.shadow → x.window .event = s.window .event := fun h => window_of_shadow h _
  have hevents := (((hstart.append hfirst (hwindow (ha ▸ rfl))).append hsecond (hwindow hbs)).append hthird (hwindow hcs)).append hlast
    (hwindow (hds.trans hcs))
  simp only [List.nil_append, List.append_nil] at hevents
  subst hc
  exact {
    events := hevents.before rfl (hwindow (hes.trans (hds.trans hcs))) (.refl _)
    answers := hea.trans (hda.trans (hba.trans (ha ▸ rfl)))
    dispatch := hed.trans (hdd.trans hcd)
    queue := by simp [joinTally, het, hdt, hbt, sortUpdate]
    tracker := her.trans (hdr.trans hbr)
    shadow := hes.trans (hds.trans hbs)
    overrides := heo.trans (hdo.trans hbo)
    optimizer := heq.trans (hdq.trans hbq)
    lineGuard := hel.trans (hdl.trans hbl) }

/-- What the sort answer of a live record and its retire do, the choice being `bin` and `status`. -/
structure SortJudged (s t : State) (txn : Nat) (m : Master) (k : Nat) (bin : Nat) (status : SortStatus) : Prop where
  events : EventsWritten (answerEvents s (s.record k) bin status ++ fallbackEvents s k (s.record k)) s t
  answers : t.bus.answers = s.bus.answers ++ [{ txn := txn, master := m, reply := .data [sortWord bin status (s.record k).lug] }] ++
    fallbackAnswers s k (s.record k)
  dispatch : t.dispatch = { s.dispatch with
    held := s.dispatch.held.filter fun h => h.slot != k
    counts := s.dispatch.counts.set bin (min (s.dispatch.counts.getD bin 0 + 1) 65535) }
  queue : t.tally.queue = s.tally.queue ++ [sortUpdate s.tally.bank (s.record k)]
  records : t.tracker.records = s.tracker.records.set k Record.blank
  decisions : t.optimizer.queue = s.optimizer.queue.filter fun e => e.slot != k
  trims : t.overrides.trimEntries = s.overrides.trimEntries.set k none
  note : hasHeld s k = true → t.lineGuard = (report .fallback s).lineGuard

/-- R144, R149: the sort answer of a live record. -/
theorem judgeSort_spec {txn : Nat} {m : Master} {k : Nat} {s : State} (h : (s.record k).state ≠ .free) :
    SortJudged s (judgeSort txn m k s) txn m k (sortChoice s (s.record k)).1 (sortChoice s (s.record k)).2.1 := by
  rw [judgeSort_of_live h]
  have hx := sortAnswered_spec txn m k s
  generalize sortAnswered txn m k s = x at *
  obtain ⟨hevents, hanswers, hdispatch, hqueue, htracker, hshadow, hoverrides, hoptimizer, hguard⟩ := hx
  have hheld : hasHeld x k = hasHeld s k := by simp [hasHeld, hdispatch]
  have hrecord : x.record k = s.record k := by simp [State.record, htracker]
  have hfallback : fallbackEvents x k (x.record k) = fallbackEvents s k (s.record k) := by
    simp only [fallbackEvents, hheld, hrecord, hshadow]
  obtain ⟨hretired, hreplies, hreads, hnoted⟩ := fallbackAtRetire_spec k x
  rw [hfallback] at hretired
  have hkept : ∀ e, x.dispatch.held.filter e = s.dispatch.held.filter e := fun e => by rw [hdispatch]
  obtain ⟨hfd, -, hfb, hftrims, -, hfrecords, hfqueue⟩ := freeRecord_values k (fallbackAtRetire k x)
  exact {
    events := (hevents.append hretired (window_of_shadow hshadow _)).before (by simp) (window_of_shadow (by simp [hshadow]) _)
      (grows_of_eq (by simp))
    answers := by rw [hfb, hreplies, hanswers, hrecord, fallbackAnswers, fallbackAnswers, hkept, hshadow]
    dispatch := by rw [hfd, hreads, hkept, hdispatch]
    queue := by simp [hqueue]
    records := by simp [hfrecords, htracker]
    decisions := by simp [hfqueue, hoptimizer]
    trims := by simp [hftrims, hoverrides]
    note := fun hsome => by simp [hnoted, hheld, hsome, report, State.flag, htracker, hguard] }

/-- R145, R147: a bin that the answer raises is then full. -/
theorem binFull_raiseBin {s : State} (hbins : s.dispatch.counts.length = 16) {bin : Nat} (hbin : bin < 16) :
    binFull (raiseBin bin s) bin = true ↔ bin ≠ rejectBin s.shadow.words ∧ bin ≠ remanBin s.shadow.words ∧
      binCapacity s.shadow.words bin ≤ min (s.dispatch.counts.getD bin 0 + 1) 65535 := by
  have hcount : binCount (raiseBin bin s) bin = min (s.dispatch.counts.getD bin 0 + 1) 65535 := by
    simp [binCount, raiseBin, hbins, hbin]
  simp only [binFull, binExempt, hcount, raiseBin_frame, Bool.and_eq_true, Bool.not_eq_true', Bool.or_eq_false_iff, beq_eq_false_iff_ne,
    decide_eq_true_eq, and_assoc]

/-- R146: only a bin of the sixteen is answered as sorted. -/
theorem sortChoice_sorted {s : State} {r : Record} (h : (sortChoice s r).2.1 = .sorted) : (sortChoice s r).1 < 16 := by
  by_cases hstate : r.state = .dispatched
  · cases hdecision : r.decision with
    | none => simp [sortChoice, hstate, hdecision] at h
    | some d =>
      cases hverdict : d.verdict with
      | piece =>
        have hchosen := chooseBin_spec s d.grade (d.b - d.a)
        cases hbin : chooseBin s d.grade (d.b - d.a) with
        | none => simp [sortChoice, hstate, hdecision, hverdict, hbin] at h
        | some b =>
          rw [hbin] at hchosen
          simpa [sortChoice, hstate, hdecision, hverdict, hbin] using hchosen.1
      | reject => simp [sortChoice, hstate, hdecision, hverdict] at h
      | fallback => simp [sortChoice, hstate, hdecision, hverdict] at h
  · simp [sortChoice, hstate] at h

/-- The events of a sort answer as R146, R147 and R150 give them, the sixteen bins being there. -/
theorem answerEvents_eq {s : State} (hbins : s.dispatch.counts.length = 16) (k : Nat) (r : Record) :
    answerEvents s r (sortChoice s r).1 (sortChoice s r).2.1 ++ fallbackEvents s k r =
      sortEvents s k r (sortChoice s r).1 (sortChoice s r).2.1 := by
  have hfull : ((sortChoice s r).2.1 = .sorted ∧ binFull (raiseBin (sortChoice s r).1 s) (sortChoice s r).1 = true) =
      ((sortChoice s r).2.1 = .sorted ∧ (sortChoice s r).1 ≠ rejectBin s.shadow.words ∧ (sortChoice s r).1 ≠ remanBin s.shadow.words ∧
        binCapacity s.shadow.words (sortChoice s r).1 ≤ min (s.dispatch.counts.getD (sortChoice s r).1 0 + 1) 65535) :=
    propext (and_congr_right fun hsorted => binFull_raiseBin hbins (sortChoice_sorted hsorted))
  simp only [answerEvents, sortEvents, hfull] <;> rfl

/-! ### The sort read (O56) -/

/-- R144: a permitted single-word read of slot `k` of the SORT window in force is a sort read of that slot. -/
theorem handle_sortRead {s : State} {c : Instr} {j k : Nat} {m : Master} (h : ReadsSlot s c .sort j k m) :
    exec c s = .next (finish (settle s.numbered (sortReadSlot s.bus.nextTxn m k s.numbered))) := by
  obtain ⟨hexec, hoffset⟩ := reads_exec h
  have hk : 4 * k < 128 := by have : k < 32 := h.below; omega
  have hkind : (entryAt s.numbered.shadow.entries j).kind = .sort := h.isKind
  have hoffset' : offsetIn (entryAt s.numbered.shadow.entries j) (windowAddr (entryAt s.shadow.entries j) (4 * k)).toNat = 4 * k := hoffset
  rw [hexec]
  simp only [handle, hkind, hoffset', hk, and_self, if_true, reduceCtorEq, false_and, if_false]
  rw [Nat.mul_div_cancel_left k (by decide)]

theorem sortReadSlot_keeps_bus (txn : Nat) (m : Master) (k : Nat) (s : State) : (sortReadSlot txn m k s).bus.through = s.bus.through ∧
    (sortReadSlot txn m k s).bus.mem = s.bus.mem ∧ (sortReadSlot txn m k s).shadow = s.shadow := by
  simp

/-- R144: what a sort read that is judged answers for a live record, and for a FREE slot. -/
theorem sortReadSlot_judged {txn : Nat} {m : Master} {k : Nat} {s : State} (hwaiting : s.dispatch.waiting = [])
    (hready : sortReady s k = true) : sortReadSlot txn m k s = judgeSort txn m k s := by
  simp [sortReadSlot, hwaiting, hready]

theorem sortReady_iff (s : State) (k : Nat) : sortReady s k = true ↔ (s.record k).state = .free ∨ s.tally.queue.length < 32 := by
  have hlimit : Config.tallySortLimit = 32 := rfl
  simp [sortReady, Record.live, hlimit]

/-- R151: what a sort read that is not judged does. -/
theorem sortReadSlot_waits {txn : Nat} {m : Master} {k : Nat} {s : State}
    (h : s.dispatch.waiting ≠ [] ∨ ((s.record k).state ≠ .free ∧ 32 ≤ s.tally.queue.length)) :
    sortReadSlot txn m k s = if s.dispatch.waiting.length < 8
      then { s with dispatch := { s.dispatch with waiting := s.dispatch.waiting ++ [{ txn := txn, master := m, slot := k }] } }
      else emitNow .dispatch 6 (single k) (single m.toNat) (answer txn m .error s) := by
  have hno : ¬ (s.dispatch.waiting.isEmpty && sortReady s k) = true := by
    rw [Bool.and_eq_true, List.isEmpty_iff, sortReady_iff]
    rintro ⟨hempty, hready⟩
    rcases h with hne | ⟨hlive, hfull⟩
    · exact hne hempty
    · exact hready.elim hlive (Nat.not_lt.2 hfull)
  rw [sortReadSlot, if_neg hno]

/-- A sort read frees its own slot or none. -/
theorem sortReadSlot_records (txn : Nat) (m : Master) (k : Nat) (s : State) :
    (sortReadSlot txn m k s).tracker.records = s.tracker.records ∨
      (sortReadSlot txn m k s).tracker.records = s.tracker.records.set k Record.blank := by
  by_cases hjudged : s.dispatch.waiting = [] ∧ sortReady s k = true
  · rw [sortReadSlot_judged hjudged.1 hjudged.2]
    by_cases hfree : (s.record k).state = .free
    · exact .inl (by rw [judgeSort_of_free hfree]; rfl)
    · exact .inr (judgeSort_spec hfree).records
  · rw [sortReadSlot_waits]
    · split <;> exact .inl (by simp)
    · rw [sortReady_iff] at hjudged
      by_cases hwaiting : s.dispatch.waiting = []
      · have hno := fun hr => hjudged ⟨hwaiting, hr⟩
        exact .inr ⟨fun hf => hno (.inl hf), Nat.not_lt.1 fun hl => hno (.inr hl)⟩
      · exact .inl hwaiting

/-- Settles O56. -/
theorem sortReadAnswersAndRetires : Obligations.SortReadAnswersAndRetires := by
  unfold Obligations.SortReadAnswersAndRetires
  refine ⟨⟨fun c j k m s hs h => ?_, fun bin status lug => ?_, rfl⟩, fun s g n b hb => ?_⟩
  · refine ⟨_, handle_sortRead h, ?_⟩
    have hnumbered : Keeps 30 s s.numbered := keeps_of_eq rfl rfl rfl rfl
    have htable := ((hnumbered.trans (sortReadSlot_keeps 30 s.bus.nextTxn m k _)).within ((tableSound_iff s).1 hs)).1
    have hbins : s.numbered.dispatch.counts.length = 16 := hs.sized.bins
    have hflags : s.numbered.lineGuard.flags.length = 6 := hs.sized.flags
    have hsilent : ∀ {es t}, EventsWritten es s.numbered t → EventsWritten es s t := fun he => he.after rfl rfl (.refl _)
    have hframe := sortReadSlot_keeps_bus s.bus.nextTxn m k s.numbered
    generalize hx : sortReadSlot s.bus.nextTxn m k s.numbered = x at *
    obtain ⟨hthrough, hmem, hshadow⟩ := hframe
    have hwritten : ∀ {es}, EventsWritten es s.numbered x → EventsWritten es s (settle s.numbered x) := fun he =>
      (hsilent he).settle _ (window_of_shadow hshadow _)
    refine ⟨by simpa using hthrough, ?_, by simpa using hshadow, by simpa using hmem, fun hwaiting hfree => ?_,
      fun hwaiting hlive hroom => ?_, fun hwaits => ?_⟩
    · have hrecords := sortReadSlot_records s.bus.nextTxn m k s.numbered
      rw [hx] at hrecords
      rcases hrecords with hsame | hset
      · exact htable.allKept _ k hsame
      · exact htable.othersKept _ hset
    · rw [sortReadSlot_judged (s := s.numbered) hwaiting ((sortReady_iff _ _).2 (.inl hfree)),
        judgeSort_of_free (s := s.numbered) hfree] at hx
      obtain ⟨hslot, hposition⟩ := freeSlotLug_spec s.tracker.lug k h.below
      subst hx
      exact ⟨by simp, by simp, hwritten (eventsWritten_nil rfl (.refl _)), _, hslot, hposition, by simp [answer]; rfl⟩
    · rw [sortReadSlot_judged (s := s.numbered) hwaiting ((sortReady_iff _ _).2 (.inr hroom))] at hx
      have hjudged := hx ▸ judgeSort_spec (txn := s.bus.nextTxn) (m := m) (s := s.numbered) hlive
      obtain ⟨hevents, hanswers, hdispatch, hqueue, hrecords, -, htrims, hnote⟩ := hjudged
      rw [answerEvents_eq hbins] at hevents
      have hblank : x.record k = Record.blank := record_set_self (s := s) hs.sized.records h.below hrecords
      have hsettled : (settle s.numbered x).bus.answers = x.bus.answers ∧ (settle s.numbered x).dispatch = x.dispatch ∧
          (settle s.numbered x).tally.queue = x.tally.queue ∧ (settle s.numbered x).overrides = x.overrides := by simp
      obtain ⟨hsa, hsd, hsq, hso⟩ := hsettled
      refine ⟨_, _, _, _, sortOutcome_of_choice s (s.record k), by rw [htable.settled_eq _ (by rw [hblank]; decide), hblank],
        hsa.trans hanswers, hwritten hevents, fun hheld => ⟨?_, ?_⟩, congrArg Dispatch.held (hsd.trans hdispatch),
        congrArg Dispatch.counts (hsd.trans hdispatch), hsq.trans hqueue, (congrArg Overrides.trimEntries hso).trans htrims⟩
      · rw [flag_of_flags (s := x) (by simp), flag_of_flags (hnote hheld)]
        exact report_notes .fallback _ hflags
      · refine ((hwritten hevents).pending_iff (by decide)).2 (.inr ⟨event .dispatch 2 (s.record k).lug (single (s.record k).state.code)
          (single (fallbackPass s.shadow.words).toNat), ?_, rfl⟩)
        have hheld' : hasHeld s.numbered k = true := hheld
        simp only [sortEvents, fallbackEvents, hheld', if_true]
        exact List.mem_append_right _ (List.mem_singleton_self _)
    · have hwaits' := sortReadSlot_waits (txn := s.bus.nextTxn) (m := m) (s := s.numbered) hwaits
      rw [hx] at hwaits'
      have hsettled : (settle s.numbered x).bus.answers = x.bus.answers ∧ (settle s.numbered x).dispatch = x.dispatch ∧
          (settle s.numbered x).tally.queue = x.tally.queue := by simp
      obtain ⟨hsa, hsd, hsq⟩ := hsettled
      refine ⟨?_, fun hqueued => ?_, fun hroom => ?_, fun hfull => ?_⟩
      · rw [hsq, hwaits']
        split <;> simp
      · have hrecord : x.record k = s.record k := by
          rw [hwaits']
          split <;> simp [State.record]
        rw [htable.settled_eq _ (by rwa [hrecord]), hrecord]
      · rw [if_pos (show s.numbered.dispatch.waiting.length < 8 from hroom)] at hwaits'
        subst hwaits'
        exact ⟨by simp, hwritten (eventsWritten_nil rfl (.refl _)), by simp⟩
      · rw [if_neg (show ¬ s.numbered.dispatch.waiting.length < 8 from Nat.not_lt.2 hfull)] at hwaits'
        have hevents : EventsWritten [event .dispatch 6 s.tracker.lug (single k) (single m.toNat)] s.numbered x := by
          rw [hwaits']
          exact (eventsWritten_emit _ _).after rfl rfl (.refl _)
        refine ⟨by simp [hwaits'], hwritten hevents, ((hwritten hevents).pending_iff (by decide)).2
          (.inr ⟨_, List.mem_singleton_self _, rfl⟩), ?_⟩
        rw [hsa, hwaits']
        simp [errorAnswer, emitNow, answer]
  · have hlug := lug.isLt
    have hcode : status.code < 8 := by cases status <;> decide
    have hfields : ([place bin 0 4, place status.code 13 3, place lug.toNat 16 16]).sum =
        bin % 16 + 2 ^ 13 * status.code + 2 ^ 16 * lug.toNat := by
      simp only [List.sum_cons, List.sum_nil, place_eq]
      omega
    rw [sortWord, toNat_wordOf (by rw [hfields]; omega), hfields]
  · rw [fullMatching, getLsbD_maskOf, decide_eq_true hb, Bool.true_and]

end Sys2Proof.Machine
end

section
/-! A line reset that starts and goes on (O25), and the tally work that completes (O58). -/

namespace Sys2Proof.Machine

/-! ### The status block's image and the load behind it -/

theorem mirrorBursts_orphan (p : Purpose → Bool) (hp : ∀ k c, p (.mirror k c) = false) (w : WindowEntry) (k : Nat) (count : Word)
    (body : List Word) : (mirrorBursts w k count body).map (Burst.orphan p) = mirrorBursts w k count body := by
  simp [mirrorBursts, Burst.orphan, writeBurst, hp]

theorem statusBody_congr {s t : State} (hlug : t.tracker.lug = s.tracker.lug) (hrecords : t.tracker.records = s.tracker.records)
    (hpart : t.shadow.part = s.shadow.part) (hbank : t.tally.bank = s.tally.bank) (hguard : t.lineGuard = s.lineGuard)
    (hinputs : t.inputs = s.inputs) (hoverrides : t.overrides = s.overrides) (hskip : t.skip = s.skip) (hintake : t.intake = s.intake) :
    statusBody t = statusBody s := by
  simp only [statusBody, backlog, freeSlotMask, State.flag, hlug, hrecords, hpart, hbank, hguard, hinputs, hoverrides, hskip, hintake]

/-- The bursts of a header read asked for before a load are its own no longer; every other burst is as it was. -/
def loadOrphan (b : Burst) : Burst := Burst.orphan (fun p => p == .eventHeader) b

@[simp] theorem loadOrphan_access (b : Burst) : (loadOrphan b).addr = b.addr ∧ (loadOrphan b).access = b.access := by
  unfold loadOrphan Burst.orphan
  split <;> exact ⟨rfl, rfl⟩

theorem loadOrphan_of_ne {b : Burst} (h : b.purpose ≠ .eventHeader) : loadOrphan b = b := by
  simp [loadOrphan, Burst.orphan, h]

theorem beginLoad_internal (cause : StartCause) (s : State) :
    (beginLoad cause s).bus.internal = s.bus.internal.map loadOrphan ++ [readBurst 0 1 .loadFormat] := rfl

/-- R15, R190: the line reset goes on from a part in start-up; what waited in the internal stream stays ahead of what goes out. -/
theorem finishReset_proceeds (x : State) : ∃ (f : Burst → Burst) (more : List Burst), (f = id ∨ f = loadOrphan) ∧
    (finishReset x).bus.internal = x.bus.internal.map f ++ more ∧
    (x.shadow.part = .starting → ResetProceeds x (finishReset x) more) := by
  cases hw : x.window .record with
  | none =>
    have hstep : finishReset x = beginLoad .lineReset x := by simp [finishReset, hw]
    rw [hstep]
    obtain ⟨hshadow, hevents, -⟩ := beginLoad_values .lineReset x
    refine ⟨loadOrphan, [readBurst 0 1 .loadFormat], .inr rfl, rfl, fun _ => ⟨fun _ => rfl, fun w h => ?_, fun h => absurd hw h,
      fun _ => ?_⟩⟩
    · rw [hw] at h
      cases h
    · exact ⟨congrArg Shadow.phase hshadow, congrArg Shadow.load hshadow, hevents⟩
  | some w =>
    by_cases hidle : (x.area 32).pub = .idle
    · have hstep : finishReset x = beginLoad .lineReset (beginMirror Config.statusArea x) := by
        have hidle' : (x.area Config.statusArea).pub = .idle := hidle
        simp [finishReset, hw, hidle']
      have hinternal : (beginMirror Config.statusArea x).bus.internal =
          x.bus.internal ++ mirrorBursts w 32 (x.area 32).count (statusBody x) := by
        simp [beginMirror, hw, issueAll, State.setArea, areaBody, Config.statusArea]
      rw [hstep]
      obtain ⟨hshadow, hevents, -⟩ := beginLoad_values .lineReset (beginMirror Config.statusArea x)
      have hbody (hpart : x.shadow.part = .starting) :
          statusBody (beginLoad .lineReset (beginMirror Config.statusArea x)) = statusBody x :=
        statusBody_congr (by simp) (by simp) ((congrArg Shadow.part hshadow).trans hpart.symm) (by simp) (by simp) (by simp) (by simp)
          (by simp) (by simp)
      refine ⟨loadOrphan, mirrorBursts w 32 (x.area 32).count (statusBody x) ++ [readBurst 0 1 .loadFormat], .inr rfl, ?_,
        fun hpart => ⟨fun h => ?_, fun w' h _ => ?_, fun _ h => absurd hidle h, fun _ => ?_⟩⟩
      · have hmirror : (mirrorBursts w 32 (x.area 32).count (statusBody x)).map loadOrphan =
            mirrorBursts w 32 (x.area 32).count (statusBody x) := mirrorBursts_orphan _ (fun _ _ => rfl) ..
        rw [beginLoad_internal, hinternal, List.map_append, hmirror, List.append_assoc]
      · rw [hw] at h
        cases h
      · rw [hw] at h
        cases h
        rw [hbody hpart]
      · exact ⟨congrArg Shadow.phase hshadow, congrArg Shadow.load hshadow, hevents⟩
    · have hstep : finishReset x = { x.setArea 32 { x.area 32 with pub := .writingDirty } with
          shadow := { x.shadow with phase := .statusDue } } := by
        have hbusy : (x.area Config.statusArea).pub ≠ .idle := hidle
        simp only [finishReset, hw]
        rfl
      rw [hstep]
      refine ⟨id, [], .inl rfl, by simp [State.setArea], fun _ => ⟨fun h => ?_, fun _ _ h => absurd h hidle,
        fun _ _ => ⟨rfl, rfl, rfl, rfl⟩,
        fun h => h.elim (fun h => ?_) fun h => absurd h hidle⟩⟩
      · rw [hw] at h
        cases h
      · rw [hw] at h
        cases h

theorem area_setArea_ne (s : State) {k j : Nat} (a : Area) (h : j ≠ k) : (s.setArea k a).area j = s.area j :=
  (area_of_set (s := s) (t := s.setArea k a) rfl j).resolve_right fun hr => h hr.1

theorem beginMirror_area_ne (s : State) {k j : Nat} (h : j ≠ k) : (beginMirror k s).area j = s.area j := by
  unfold beginMirror
  split
  · rw [area_of_areas (s := s.setArea k { count := (s.area k).count + 2, pub := .writing }) (by simp), area_setArea_ne s _ h]
  · rfl

/-- The line reset goes on with the status area alone. -/
theorem finishReset_area (x : State) {k : Nat} (hk : k ≠ 32) : (finishReset x).area k = x.area k := by
  unfold finishReset
  split
  · exact area_of_areas (by simp) k
  · rw [area_of_areas (s := beginMirror Config.statusArea x) (by simp)]
    exact beginMirror_area_ne x hk
  · exact area_setArea_ne x _ hk

theorem resetProceeds_congr {x x' y : State} {more : List Burst} (h : ResetProceeds x' y more)
    (hwindow : x'.window .record = x.window .record)
    (hcount : (x'.area 32).count = (x.area 32).count) (hidle : (x'.area 32).pub = .idle ↔ (x.area 32).pub = .idle)
    (hload : x'.shadow.load = x.shadow.load) (hevents : x'.events = x.events) : ResetProceeds x y more := by
  obtain ⟨hbare, himage, hwaits, hbegun⟩ := h
  rw [hwindow] at hbare himage hwaits hbegun
  simp only [ne_eq, hidle, hload, hevents, hcount] at himage hwaits hbegun
  exact ⟨hbare, himage, hwaits, hbegun⟩

/-- While the part is not RUNNING nothing is published and no run starts. -/
theorem settle_of_not_running {s : State} (s0 : State) (h : s.shadow.part ≠ .running) : settle s0 s = startTally s := by
  have hpart : (startTally s).shadow.part ≠ .running := by simpa using h
  have hpublish : ∀ s0 x : State, x.shadow.part ≠ .running → publish s0 x = x := fun s0 x hx => by simp [publish, hx]
  have hrun : startOptimizer (startTally s) = startTally s := by
    unfold startOptimizer
    split
    · next hp _ _ => exact absurd hp hpart
    · rfl
  rw [settle, hpublish _ _ hpart, startRun, hrun, hpublish _ _ hpart]

/-- R156: what the idle update engine issues are its reads. -/
theorem startTally_reads (s : State) : ∃ more, (startTally s).bus.internal = s.bus.internal ++ more ∧
    ∀ x ∈ more, ∃ last, x.purpose = .tallyRead last := by
  unfold startTally
  split
  · split
    · refine ⟨_, rfl, fun x hx => ?_⟩
      obtain ⟨j, -, rfl⟩ := List.mem_map.1 hx
      exact ⟨_, rfl⟩
    · exact ⟨[], (List.append_nil _).symm, by simp⟩
  · exact ⟨[], (List.append_nil _).symm, by simp⟩

theorem startTally_of_nil {s : State} (h : s.tally.queue = []) : startTally s = s := by
  simp [startTally, h]

/-! ### The start of a line reset (O25) -/

theorem tallyDrained_iff (s : State) : tallyDrained s = true ↔ s.tally.queue = [] ∧ s.tally.swap = none ∧ s.tally.engine = none := by
  simp [tallyDrained, and_assoc]

theorem clearForReset_area (m : Master) (s : State) (k : Nat) : (clearForReset m s).area k =
    { s.area k with pub := if (s.area k).pub = .writingDirty then .writing else (s.area k).pub } := by
  have hdrop : ∀ a : Area, a.dropNote = { a with pub := if a.pub = .writingDirty then .writing else a.pub } := fun a => by
    obtain ⟨count, pub⟩ := a
    cases pub <;> rfl
  have hmap : (clearForReset m s).area k = (s.area k).dropNote :=
    (congrArg (fun d => (s.tracker.areas.map Area.dropNote).getD k d) (rfl : _ = Area.dropNote { count := 0, pub := .idle })).trans
      (List.getD_map ..)
  rw [hmap, hdrop]

/-- R190: where a line reset goes on from at once, it is the cleared state; else it waits for the tally unit. -/
theorem startLineReset_cases (m : Master) (s : State) :
    (((clearForReset m s).tally.kept = true ∨ tallyDrained (clearForReset m s) = true) ∧
      startLineReset m s = finishReset (clearForReset m s)) ∨
    ((clearForReset m s).tally.kept = false ∧ tallyDrained (clearForReset m s) = false ∧
      startLineReset m s = startTally (clearForReset m s)) := by
  simp only [startLineReset]
  have hsettle := settle_of_not_running (s := clearForReset m s) s (by simp [clearForReset])
  cases hkept : (clearForReset m s).tally.kept with
  | true => exact .inl ⟨.inl rfl, rfl⟩
  | false =>
    have hphase : (startTally (clearForReset m s)).shadow.phase = .draining := by simp [clearForReset]
    simp only [Bool.false_eq_true, if_false, false_or, hsettle]
    cases hdrained : tallyDrained (clearForReset m s) with
    | true =>
      have hstays := startTally_of_nil ((tallyDrained_iff _).1 hdrained).1
      rw [hstays] at hphase ⊢
      exact .inl ⟨rfl, by rw [drainStep, if_pos ⟨hphase, hdrained⟩]⟩
    | false =>
      refine .inr ⟨trivial, rfl, ?_⟩
      rw [drainStep, if_neg]
      rintro ⟨-, hd⟩
      obtain ⟨hqueue, -⟩ := (tallyDrained_iff _).1 hd
      rw [startTally_of_nil (by simpa using hqueue), hdrained] at hd
      cases hd

/-- R111, R127: an ABANDONED word is no header read. -/
theorem abandonedWords_loadOrphan (o : Overrides) : (abandonedWords o).map loadOrphan = abandonedWords o := by
  refine List.map_congr_left (g := id) (fun b hb => ?_) |>.trans (List.map_id _)
  rcases List.mem_append.1 hb with hb | hb
  all_goals
    obtain ⟨q, -, rfl⟩ := List.mem_map.1 hb
    exact loadOrphan_of_ne (by simp [resultBurst, writeBurst])

theorem finishReset_part {x : State} (h : x.shadow.part = .starting) : (finishReset x).shadow.part = .starting := by
  unfold finishReset
  split
  · exact congrArg Shadow.part (beginLoad_values ..).1
  · exact congrArg Shadow.part (beginLoad_values ..).1
  · exact h

/-- What stands after the start of a line reset is what it has cleared, whether it goes on at once or not. -/
theorem startLineReset_cleared (m : Master) (s : State) : (startLineReset m s).shadow.part = .starting ∧
    (startLineReset m s).tracker.lug = (clearForReset m s).tracker.lug ∧
    (startLineReset m s).tracker.records = (clearForReset m s).tracker.records ∧
    (startLineReset m s).measure = (clearForReset m s).measure ∧ (startLineReset m s).optimizer = (clearForReset m s).optimizer ∧
    (startLineReset m s).skip = (clearForReset m s).skip ∧ (startLineReset m s).lineGuard = (clearForReset m s).lineGuard ∧
    (startLineReset m s).dispatch = (clearForReset m s).dispatch ∧ (startLineReset m s).intake = (clearForReset m s).intake ∧
    (startLineReset m s).overrides = (clearForReset m s).overrides ∧
    (startLineReset m s).tally = { (clearForReset m s).tally with engine := (startLineReset m s).tally.engine } ∧
    (startLineReset m s).shadow.report = (clearForReset m s).shadow.report ∧
    (startLineReset m s).shadow.words = (clearForReset m s).shadow.words ∧
    (startLineReset m s).shadow.entries = (clearForReset m s).shadow.entries ∧
    (startLineReset m s).bus.answers = (clearForReset m s).bus.answers ∧
    (startLineReset m s).bus.mem = (clearForReset m s).bus.mem ∧
    ∀ k, k < 32 → (startLineReset m s).area k = (clearForReset m s).area k := by
  have hpart : (clearForReset m s).shadow.part = .starting := rfl
  rcases startLineReset_cases m s with ⟨-, heq⟩ | ⟨-, -, heq⟩
  · have harea : ∀ k, k < 32 → (finishReset (clearForReset m s)).area k = (clearForReset m s).area k := fun k hk =>
      finishReset_area _ (by omega)
    rw [heq]
    generalize clearForReset m s = c at *
    exact ⟨finishReset_part hpart, by simp, by simp, by simp, by simp, by simp, by simp, by simp, by simp, by simp, by simp, by simp,
      by simp, by simp, by simp, by simp, harea⟩
  · rw [heq]
    generalize clearForReset m s = c at *
    have htally : (startTally c).tally = { c.tally with engine := (startTally c).tally.engine } :=
      tally_eq_of_fields (by simp) (by simp) (by simp) (by simp) (by simp) (by simp)
    exact ⟨by simp [hpart], by simp, by simp, by simp, by simp, by simp, by simp, by simp, by simp, by simp, htally, by simp,
      by simp, by simp, by simp, by simp, fun k _ => area_of_areas (by simp) k⟩

/-- Settles O25. -/
theorem lineResetStartClears : Obligations.LineResetStartClears := by
  unfold Obligations.LineResetStartClears
  intro s b m hport hpurpose hpart hphase
  have hexec : exec .lineResetStart s = .next (finish (startLineReset m (landBurst b s))) := by
    show done (completeIf startsLineReset s) = _
    rw [completeIf_of_port hport (by simp [startsLineReset, hpurpose, hpart, hphase])]
    simp only [afterBurst, hpurpose, lineResetDone, landBurst, hpart, hphase]
    rfl
  have hcleared := startLineReset_cleared m (landBurst b s)
  have harea := clearForReset_area m (landBurst b s)
  have hcases := startLineReset_cases m (landBurst b s)
  generalize hc : clearForReset m (landBurst b s) = c at *
  generalize startLineReset m (landBurst b s) = y at *
  obtain ⟨hypart, hlug, hrecords, hmeasure, hoptimizer, hskip, hguard, hdispatch, hintake, hoverrides, htally, hreport, hwords, hentries,
    hanswers, hmem, hareas⟩ := hcleared
  have hcpart : c.shadow.part = .starting := hc ▸ rfl
  have hinternal : c.bus.internal = s.bus.internal ++ abandonedWords s.overrides := hc ▸ rfl
  have hgoes : (c.tally.kept = true ∨ tallyDrained c = true) ↔
      s.window .tally = none ∨ (s.tally.queue = [] ∧ s.tally.swap = none ∧ s.tally.engine = none) := by
    rw [tallyDrained_iff, ← hc]
    simp [clearForReset, landBurst, State.window]
  have hwindow : c.window .record = s.window .record := hc ▸ rfl
  have hstatus := harea 32
  have hbound : ∃ old more, y.bus.internal = old ++ abandonedWords s.overrides ++ more ∧
      old.map (fun x => (x.addr, x.access)) = s.bus.internal.map (fun x => (x.addr, x.access)) ∧
      ((c.tally.kept = true ∨ tallyDrained c = true) → ResetProceeds s y more) ∧
      (¬ (c.tally.kept = true ∨ tallyDrained c = true) → (∀ x ∈ more, ∃ last, x.purpose = .tallyRead last) ∧ y.shadow.phase = .draining ∧
        y.shadow.load = s.shadow.load ∧ y.events = s.events) := by
    rcases hcases with ⟨hgo, rfl⟩ | ⟨hkept, hdrained, rfl⟩
    · obtain ⟨f, more, hf, hbus, hproceeds⟩ := finishReset_proceeds c
      refine ⟨s.bus.internal.map f, more, ?_, ?_, fun _ => ?_, fun hno => absurd hgo hno⟩
      · rw [hbus, hinternal, List.map_append]
        rcases hf with rfl | rfl
        · simp
        · rw [abandonedWords_loadOrphan]
      · rcases hf with rfl | rfl <;> simp [Function.comp_def]
      · refine resetProceeds_congr (hproceeds hcpart) hwindow (by rw [hstatus]; rfl) ?_ (hc ▸ rfl) (hc ▸ rfl)
        rw [hstatus]
        show (if (s.area 32).pub = .writingDirty then PubState.writing else (s.area 32).pub) = .idle ↔ _
        cases (s.area 32).pub <;> simp
    · obtain ⟨more, hbus, hreads⟩ := startTally_reads c
      refine ⟨s.bus.internal, more, by rw [hbus, hinternal], rfl, fun hgo => ?_, fun _ => ⟨hreads, ?_, ?_, ?_⟩⟩
      · simp [hkept, hdrained] at hgo
      · simp [← hc, clearForReset]
      · simp [← hc, clearForReset, landBurst]
      · simp [← hc, clearForReset, landBurst]
  obtain ⟨old, more, hbus, hold, hproceeds, hwaits⟩ := hbound
  refine ⟨y, old, more, _, hexec, hypart, hlug.trans (hc ▸ rfl), hrecords.trans (hc ▸ rfl), hmeasure.trans (hc ▸ rfl),
    hoptimizer.trans (hc ▸ rfl), hskip.trans (hc ▸ rfl), hguard.trans (hc ▸ rfl), hdispatch.trans (hc ▸ rfl),
    (congrArg Intake.queue hintake).trans (hc ▸ rfl), (congrArg Intake.tables hintake).trans (hc ▸ rfl),
    (congrArg Intake.engine hintake).trans (hc ▸ rfl), (congrArg Overrides.fifo hoverrides).trans (hc ▸ rfl),
    (congrArg Overrides.waiting hoverrides).trans (hc ▸ rfl), (congrArg Overrides.trimEntries hoverrides).trans (hc ▸ rfl),
    (congrArg Overrides.sawMask hoverrides).trans (hc ▸ rfl), (congrArg Overrides.sawTimer hoverrides).trans (hc ▸ rfl),
    htally.trans (hc ▸ rfl), hreport.trans (hc ▸ rfl), hwords.trans (hc ▸ rfl), hentries.trans (hc ▸ rfl), hanswers.trans (hc ▸ rfl),
    by rw [hbus, abandonedWords, ← List.append_assoc], hold, fun k hk => (hareas k hk).trans (harea k), hgoes, hproceeds, hwaits,
    hmem.trans (hc ▸ rfl)⟩

end Sys2Proof.Machine
end

section
/-! The tally work that completes, and the sort reads that waited for it (O58). -/

namespace Sys2Proof.Machine

/-! ### Waiting sort reads, judged in turn -/

/-- The sort read `h` leaves the waiting list's head and is judged. -/
def judgeNext (x : State) (h : WaitingSort) : State :=
  judgeSort h.txn h.master h.slot { x with dispatch := { x.dispatch with waiting := x.dispatch.waiting.tail } }

theorem judgeNext_frame (x : State) (h : WaitingSort) : (judgeNext x h).dispatch.waiting = x.dispatch.waiting.tail ∧
    (judgeNext x h).shadow = x.shadow := by
  simp [judgeNext]

/-- R151: the reads at the head of the list are judged up to the first that would retire a record with no room for its update. -/
theorem judgeWaiting_turns (fuel : Nat) {s : State} (hfuel : s.dispatch.waiting.length ≤ fuel) :
    ∃ n, judgeWaiting fuel s = (s.dispatch.waiting.take n).foldl judgeNext s ∧
      (∀ h, (s.dispatch.waiting.drop n).head? = some h → sortReady (judgeWaiting fuel s) h.slot = false) ∧
      (judgeWaiting fuel s).dispatch.waiting = s.dispatch.waiting.drop n ∧
      ∀ w behind, s.dispatch.waiting = w :: behind → sortReady s w.slot = true → 1 ≤ n := by
  induction fuel generalizing s with
  | zero =>
    have hempty : s.dispatch.waiting = [] := List.eq_nil_of_length_eq_zero (Nat.le_zero.1 hfuel)
    exact ⟨0, rfl, by simp [hempty], by simp [judgeWaiting], by simp [hempty]⟩
  | succ fuel ih =>
    cases hwaiting : s.dispatch.waiting with
    | nil => exact ⟨0, by simp [judgeWaiting, hwaiting], by simp, by simp [judgeWaiting, hwaiting], by simp⟩
    | cons w rest =>
      cases hready : sortReady s w.slot with
      | false =>
        have hstays : judgeWaiting (fuel + 1) s = s := by simp [judgeWaiting, hwaiting, hready]
        rw [hstays]
        refine ⟨0, rfl, fun h hh => ?_, by simp [hwaiting], fun w' behind heq hr => ?_⟩
        · cases hh
          exact hready
        · cases heq
          rw [hready] at hr
          cases hr
      | true =>
        have hnext : judgeWaiting (fuel + 1) s = judgeWaiting fuel (judgeNext s w) := by
          simp [judgeWaiting, hwaiting, hready, judgeNext]
        have hlist : (judgeNext s w).dispatch.waiting = rest := by rw [(judgeNext_frame s w).1, hwaiting]; rfl
        obtain ⟨n, hfold, hstop, hleft, -⟩ := ih (s := judgeNext s w) (by
          rw [hwaiting] at hfuel
          simpa [hlist] using hfuel)
        rw [hlist] at hfold hstop hleft
        rw [hnext]
        exact ⟨n + 1, hfold, hstop, hleft, fun _ _ _ _ => Nat.le_add_left 1 n⟩

/-- What judged reads add to: the answers, the tally queue, the event writer. -/
structure JudgedFrom (s t : State) : Prop where
  answers : ∃ more, t.bus.answers = s.bus.answers ++ more
  queue : ∃ later, t.tally.queue = s.tally.queue ++ later
  events : ∃ es, EventsWritten es s t
  shadow : t.shadow = s.shadow

theorem JudgedFrom.refl (s : State) : JudgedFrom s s := ⟨⟨[], by simp⟩, ⟨[], by simp⟩, ⟨[], eventsWritten_nil rfl (.refl _)⟩, rfl⟩

theorem JudgedFrom.trans {s t u : State} (hst : JudgedFrom s t) (htu : JudgedFrom t u) : JudgedFrom s u := by
  obtain ⟨⟨a, ha⟩, ⟨q, hq⟩, ⟨es, hes⟩, hs⟩ := hst
  obtain ⟨⟨a', ha'⟩, ⟨q', hq'⟩, ⟨es', hes'⟩, hs'⟩ := htu
  exact ⟨⟨a ++ a', by rw [ha', ha, List.append_assoc]⟩, ⟨q ++ q', by rw [hq', hq, List.append_assoc]⟩,
    ⟨es ++ es', hes.append hes' (window_of_shadow hs _)⟩, hs'.trans hs⟩

theorem judgeNext_judgedFrom (x : State) (h : WaitingSort) : JudgedFrom x (judgeNext x h) := by
  have hshadow := (judgeNext_frame x h).2
  unfold judgeNext at *
  generalize hy : ({ x with dispatch := { x.dispatch with waiting := x.dispatch.waiting.tail } } : State) = y at *
  have hevents : ∀ {es t}, EventsWritten es y t → EventsWritten es x t := fun he => he.after (hy ▸ rfl) (hy ▸ rfl) (hy ▸ .refl _)
  have hanswers : y.bus = x.bus := hy ▸ rfl
  have hqueue : y.tally = x.tally := hy ▸ rfl
  by_cases hfree : (y.record h.slot).state = .free
  · rw [judgeSort_of_free hfree] at hshadow ⊢
    exact ⟨⟨_, by rw [← hanswers]; rfl⟩, ⟨[], by simp [hqueue]⟩, ⟨[], hevents (eventsWritten_nil rfl (.refl _))⟩, hshadow⟩
  · have hjudged := judgeSort_spec (txn := h.txn) (m := h.master) hfree
    exact ⟨⟨_, by rw [hjudged.answers, hanswers, List.append_assoc]⟩, ⟨_, by rw [hjudged.queue, hqueue]⟩, ⟨_, hevents hjudged.events⟩,
      hshadow⟩

theorem foldl_judgedFrom (l : List WaitingSort) (s : State) : JudgedFrom s (l.foldl judgeNext s) :=
  foldl_invariant _ l s (JudgedFrom s) (fun t h ht => ht.trans (judgeNext_judgedFrom t h)) (.refl s)

/-- A judged read frees its own slot or none. -/
theorem judgeNext_record (x : State) (h : WaitingSort) (j : Nat) : (judgeNext x h).record j = x.record j ∨
    (j = h.slot ∧ (judgeNext x h).record j = Record.blank) := by
  unfold judgeNext
  generalize hy : ({ x with dispatch := { x.dispatch with waiting := x.dispatch.waiting.tail } } : State) = y
  have hrecord : ∀ j, y.record j = x.record j := fun j => hy ▸ rfl
  by_cases hfree : (y.record h.slot).state = .free
  · rw [judgeSort_of_free hfree]
    exact .inl (hrecord j)
  · rw [← hrecord]
    exact record_of_set (judgeSort_spec hfree).records j

theorem foldl_judgeNext_record (l : List WaitingSort) (s : State) {j : Nat} (h : ∀ r ∈ l, r.slot ≠ j) :
    (l.foldl judgeNext s).record j = s.record j := by
  induction l generalizing s with
  | nil => rfl
  | cons r rest ih =>
    obtain ⟨hr, hrest⟩ := List.forall_mem_cons.1 h
    rw [List.foldl_cons, ih _ hrest]
    exact (judgeNext_record s r j).resolve_right fun heq => hr heq.1.symm

/-- Slot `k` is FREE and no entry of the decision queue names it. -/
def Freed (k : Nat) (x : State) : Prop := x.record k = Record.blank ∧ ∀ e ∈ x.optimizer.queue, e.slot ≠ k

theorem judgeNext_freed {k : Nat} {x : State} (hx : Freed k x) (h : WaitingSort) : Freed k (judgeNext x h) := by
  refine ⟨?_, ?_⟩
  · rcases judgeNext_record x h k with heq | ⟨-, heq⟩
    · rw [heq, hx.1]
    · exact heq
  · unfold judgeNext
    generalize hy : ({ x with dispatch := { x.dispatch with waiting := x.dispatch.waiting.tail } } : State) = y
    have hqueue : y.optimizer = x.optimizer := hy ▸ rfl
    by_cases hfree : (y.record h.slot).state = .free
    · rw [judgeSort_of_free hfree]
      exact fun e he => hx.2 e (hqueue ▸ he)
    · intro e he
      rw [(judgeSort_spec hfree).decisions, hqueue] at he
      exact hx.2 e (List.mem_of_mem_filter he)

theorem foldl_judgeNext_freed {k : Nat} (l : List WaitingSort) {x : State} (hx : Freed k x) : Freed k (l.foldl judgeNext x) :=
  foldl_invariant _ l x (Freed k) (fun _ h hy => judgeNext_freed hy h) hx

/-- A freed slot stays FREE when the idle optimizer takes its head. -/
theorem Freed.settled {k : Nat} {x : State} (h : Freed k x) (s0 : State) : (settle s0 x).record k = Record.blank := by
  rw [settle_record, ← h.1]
  unfold startOptimizer
  split
  · next e rest _ _ hqueue =>
    have hne : e.slot ≠ k := h.2 e (by rw [hqueue]; exact List.mem_cons_self)
    exact (record_of_set (s := x) (t := x.setRecord e.slot _) rfl k).resolve_right fun hr => hne hr.1.symm
  · rfl

/-! ### The end of a swap, and of the work -/

/-- R162: a swap whose zeroing has ended, with no update left for the other bank, ends. -/
theorem endSwapIfDone_ends {x : State} {w : Swap} (hswap : x.tally.swap = some w)
    (hends : w.zeroing = .ended ∧ ∀ u ∈ x.tally.queue, u.bank = x.tally.bank) :
    (endSwapIfDone x).tally.swap = none ∧
    EventsWritten [event .tally 2 x.tracker.lug (single x.tally.bank.toNat) (single w.done)] x (endSwapIfDone x) ∧
    ∀ e, x.window .tally = some e →
      writeBurst (windowAddr e 0) [tallyHeaderWord { x.tally with swap := none }] .plain ∈ (endSwapIfDone x).bus.internal := by
  have hstep : endSwapIfDone x = emitNow .tally 2 (single x.tally.bank.toNat) (single w.done)
      (writeTallyHeader { x with tally := { x.tally with swap := none } }) := by
    simp only [endSwapIfDone, hswap]
    rw [if_pos ⟨hends.1, by simpa using hends.2⟩]
    simp
  have hheader := writeTallyHeader_internal { x with tally := { x.tally with swap := none } }
  have hframe := writeTallyHeader_frame { x with tally := { x.tally with swap := none } }
  rw [hstep]
  refine ⟨by simp, ?_, fun e hwindow => ?_⟩
  · refine EventsWritten.after (t := writeTallyHeader { x with tally := { x.tally with swap := none } }) ?_ (by simp)
      (window_of_shadow (by simp) _) ⟨_, hheader⟩
    have hwritten := eventsWritten_emit (event .tally 2 x.tracker.lug (single x.tally.bank.toNat) (single w.done))
      (writeTallyHeader { x with tally := { x.tally with swap := none } })
    simpa [emitNow] using hwritten
  · obtain ⟨more, hmore⟩ := (eventsWritten_iff _ _ _).1 (eventsWritten_emit
      (event .tally 2 (writeTallyHeader { x with tally := { x.tally with swap := none } }).tracker.lug (single x.tally.bank.toNat)
        (single w.done)) (writeTallyHeader { x with tally := { x.tally with swap := none } })) |>.2
    have hwindow' : ({ x with tally := { x.tally with swap := none } } : State).window .tally = some e := hwindow
    rw [emitNow, hmore.1, hheader, hwindow']
    exact List.mem_append_left _ (List.mem_append_right _ (List.mem_singleton_self _))

theorem endSwapIfDone_goes_on {x : State}
    (h : ∀ w, x.tally.swap = some w → ¬ (w.zeroing = .ended ∧ ∀ u ∈ x.tally.queue, u.bank = x.tally.bank)) : endSwapIfDone x = x := by
  unfold endSwapIfDone
  split
  · next w hswap =>
    rw [if_neg]
    exact fun hends => h w hswap ⟨hends.1, by simpa using hends.2⟩
  · rfl

/-- What the end of a piece of tally work leaves: a line reset may go on. -/
theorem workEnds_frame (s0 x : State) : (drainStep (settle s0 x)).bus.mem = x.bus.mem ∧
    (drainStep (settle s0 x)).tally.bank = x.tally.bank ∧ (drainStep (settle s0 x)).tally.swap = x.tally.swap ∧
    (drainStep (settle s0 x)).tally.queue = x.tally.queue ∧ (drainStep (settle s0 x)).dispatch = x.dispatch ∧
    (drainStep (settle s0 x)).bus.answers = x.bus.answers ∧
    ∀ k, (drainStep (settle s0 x)).record k = (settle s0 x).record k := by
  exact ⟨by simp, by simp, by simp, by simp, by simp, by simp, record_of_records (by simp)⟩

theorem workEnds_internal (s0 : State) {x : State} {b : Burst} (hb : b ∈ x.bus.internal) (hplain : b.purpose = .plain) :
    b ∈ (drainStep (settle s0 x)).bus.internal := by
  obtain ⟨more, hmore⟩ := settle_grows s0 x
  have hsettled : b ∈ (settle s0 x).bus.internal := by
    rw [hmore]
    exact List.mem_append_left _ hb
  unfold drainStep
  split
  · obtain ⟨f, more, hf, hbus, -⟩ := finishReset_proceeds (settle s0 x)
    rw [hbus]
    refine List.mem_append_left _ (List.mem_map.2 ⟨b, hsettled, ?_⟩)
    rcases hf with rfl | rfl
    · rfl
    · exact loadOrphan_of_ne (by simp [hplain])
  · exact hsettled

theorem workEnds_events {s0 s x : State} {es : List Event} (h : EventsWritten es s x) (hshadow : x.shadow = s.shadow)
    (hphase : s.shadow.phase ≠ .draining) : EventsWritten es s (drainStep (settle s0 x)) := by
  have hstep : drainStep (settle s0 x) = settle s0 x := by
    rw [drainStep, if_neg]
    simpa [hshadow] using fun hp => absurd hp hphase
  rw [hstep]
  exact h.settle s0 (window_of_shadow hshadow _)

/-- R164: with the work done the line reset goes on. -/
theorem workEnds_proceeds (s0 : State) {x : State} (hphase : x.shadow.phase = .draining) (hpart : x.shadow.part = .starting)
    (hqueue : x.tally.queue = []) (hswap : x.tally.swap = none) (hengine : x.tally.engine = none) :
    ∃ old more, ResetProceeds x (drainStep (settle s0 x)) more ∧ (drainStep (settle s0 x)).bus.internal = old ++ more := by
  have hsettled : settle s0 x = x := by
    rw [settle_of_not_running s0 (by simp [hpart]), startTally_of_nil hqueue]
  have hdrained : tallyDrained x = true := (tallyDrained_iff _).2 ⟨hqueue, hswap, hengine⟩
  obtain ⟨f, more, -, hbus, hproceeds⟩ := finishReset_proceeds x
  rw [hsettled, drainStep, if_pos ⟨hphase, hdrained⟩]
  exact ⟨_, more, hproceeds hpart, hbus⟩

/-! ### The zeroing ends -/

/-- The state in which the last zeroing burst is written and the zeroing noted as ended. -/
def zeroed (b : Burst) (done : Nat) (s : State) : State :=
  { landBurst b s with tally := { s.tally with swap := some { zeroing := .ended, done := done } } }

theorem exec_zeroingDone {s : State} {b : Burst} {base done : Nat} (hport : s.bus.port = some b) (hpurpose : b.purpose = .zeroing 15)
    (hswap : s.tally.swap = some { zeroing := .running base, done := done }) :
    exec .zeroingDone s = .next (finish (drainStep (settle (landBurst b s) (endSwapIfDone (zeroed b done s))))) := by
  show Machine.done (completeIf (fun _ b => b.purpose == .zeroing 15) s) = _
  rw [completeIf_of_port hport (by simp [hpurpose])]
  have hland : (landBurst b s).tally = s.tally := rfl
  simp only [afterBurst, hpurpose, zeroingWritten, hland, hswap]
  rfl

/-- The second half of O58: what the last zeroing burst leaves. -/
theorem zeroingDone_completes {s : State} {b : Burst} {base done : Nat} (hport : s.bus.port = some b) (hpurpose : b.purpose = .zeroing 15)
    (hswap : s.tally.swap = some { zeroing := .running base, done := done }) :
    ∃ y, exec .zeroingDone s = .next (finish y) ∧ y.bus.mem = (Burst.perform s.bus.mem b).1 ∧
      y.tally.bank = s.tally.bank ∧ y.tally.queue = s.tally.queue ∧ y.dispatch = s.dispatch ∧
      y.tally.swap = (if (∀ x ∈ s.tally.queue, x.bank = s.tally.bank) then none else some { zeroing := .ended, done := done }) ∧
      (∀ e, (∀ x ∈ s.tally.queue, x.bank = s.tally.bank) → s.window .tally = some e →
        writeBurst (windowAddr e 0) [tallyHeaderWord { s.tally with swap := none }] .plain ∈ y.bus.internal) ∧
      (s.shadow.phase ≠ .draining → EventsWritten (if (∀ x ∈ s.tally.queue, x.bank = s.tally.bank) then
        [event .tally 2 s.tracker.lug (single s.tally.bank.toNat) (single done)] else []) s y) ∧
      (s.shadow.phase = .draining → s.shadow.part = .starting → s.tally.queue = [] → s.tally.engine = none →
        ∃ x old more, x.shadow = s.shadow ∧ x.tracker = s.tracker ∧ ResetProceeds x y more ∧ y.bus.internal = old ++ more) := by
  refine ⟨_, exec_zeroingDone hport hpurpose hswap, ?_⟩
  obtain ⟨hmem, hbank, hyswap, hqueue, hdispatch, -⟩ := workEnds_frame (landBurst b s) (endSwapIfDone (zeroed b done s))
  have hx : (endSwapIfDone (zeroed b done s)).bus.mem = (Burst.perform s.bus.mem b).1 ∧
      (endSwapIfDone (zeroed b done s)).tally.bank = s.tally.bank ∧ (endSwapIfDone (zeroed b done s)).tally.queue = s.tally.queue ∧
      (endSwapIfDone (zeroed b done s)).tally.engine = s.tally.engine ∧
      (endSwapIfDone (zeroed b done s)).dispatch = s.dispatch ∧ (endSwapIfDone (zeroed b done s)).shadow = s.shadow ∧
      (endSwapIfDone (zeroed b done s)).tracker = s.tracker := by
    simp [zeroed, landBurst]
  obtain ⟨hxmem, hxbank, hxqueue, hxengine, hxdispatch, hxshadow, hxtracker⟩ := hx
  have hsilent : ∀ {es t}, EventsWritten es (zeroed b done s) t → EventsWritten es s t := fun he => he.after rfl rfl (.refl _)
  have hends := endSwapIfDone_ends (x := zeroed b done s) (w := { zeroing := .ended, done := done }) rfl
  have hgoes := endSwapIfDone_goes_on (x := zeroed b done s)
  by_cases hall : ∀ x ∈ s.tally.queue, x.bank = s.tally.bank
  · obtain ⟨hnone, hevents, hheader⟩ := hends ⟨rfl, hall⟩
    rw [if_pos hall, if_pos hall]
    exact ⟨hmem.trans hxmem, hbank.trans hxbank, hqueue.trans hxqueue, hdispatch.trans hxdispatch, hyswap.trans hnone,
      fun e _ hw => workEnds_internal _ (hheader e hw) rfl, workEnds_events (hsilent hevents) hxshadow, fun hphase hpart hempty hidle =>
        have ⟨old, more, hproceeds, hbus⟩ := workEnds_proceeds (landBurst b s) (hxshadow ▸ hphase) (hxshadow ▸ hpart)
          (hxqueue.trans hempty) hnone (hxengine.trans hidle)
        ⟨_, old, more, hxshadow, hxtracker, hproceeds, hbus⟩⟩
  · have hstays := hgoes fun w hw he => hall he.2
    have hswap' : (endSwapIfDone (zeroed b done s)).tally.swap = some { zeroing := .ended, done := done } := by rw [hstays]; rfl
    rw [if_neg hall, if_neg hall]
    refine ⟨hmem.trans hxmem, hbank.trans hxbank, hqueue.trans hxqueue, hdispatch.trans hxdispatch, hyswap.trans hswap',
      fun e he => absurd he hall, workEnds_events ?_ hxshadow, fun _ _ hempty => absurd (by simp [hempty]) hall⟩
    rw [hstays]
    exact hsilent (eventsWritten_nil rfl (.refl _))

/-! ### An update is written -/

/-- The state in which the last write of update `u` is done, the update has left the queue, and a swap has counted it. -/
def updated (b : Burst) (u : TallyUpdate) (rest : List TallyUpdate) (s : State) : State :=
  { landBurst b s with tally := { s.tally with engine := none, queue := rest, swap := countOldBank u s.tally } }

/-- The waiting sort reads are judged when the update has brought the queue below 32. -/
def updateJudged (rest : List TallyUpdate) (s x : State) : State :=
  if rest.length < 32 ∧ 32 ≤ s.tally.queue.length then judgeWaiting x.dispatch.waiting.length x else x

theorem exec_tallyUpdateComplete {s : State} {b : Burst} {r : TallyRun} {u : TallyUpdate} {rest : List TallyUpdate}
    (hport : s.bus.port = some b) (hpurpose : b.purpose = .tallyWrite true) (hengine : s.tally.engine = some r)
    (hqueue : s.tally.queue = u :: rest) : exec .tallyUpdateComplete s =
      .next (finish (drainStep (settle (landBurst b s) (updateJudged rest s (endSwapIfDone (updated b u rest s)))))) := by
  show Machine.done (completeIf (fun _ b => b.purpose == .tallyWrite true) s) = _
  rw [completeIf_of_port hport (by simp [hpurpose])]
  have hland : (landBurst b s).tally = s.tally := rfl
  have hlimit : Config.tallySortLimit = 32 := rfl
  simp only [afterBurst, hpurpose, tallyUpdateDone, hland, hengine, hqueue, updateJudged, hlimit, if_true, Bool.and_eq_true,
    decide_eq_true_eq]
  rfl

theorem updated_swap (b : Burst) (u : TallyUpdate) (rest : List TallyUpdate) (s : State) : (updated b u rest s).tally.swap =
    s.tally.swap.map fun w => { w with done := if u.bank = s.tally.bank then w.done else w.done + 1 } := by
  have hcount : ∀ w : Swap, (if u.bank = s.tally.bank then w else { w with done := w.done + 1 }) =
      { w with done := if u.bank = s.tally.bank then w.done else w.done + 1 } := fun w => by split <;> rfl
  simp only [updated, countOldBank, hcount]

theorem updateJudged_of_none {rest : List TallyUpdate} {s x : State} (hwaiting : x.dispatch.waiting = s.dispatch.waiting)
    (h : s.dispatch.waiting = [] ∨ rest.length ≥ 32 ∨ s.tally.queue.length < 32) : updateJudged rest s x = x := by
  unfold updateJudged
  split
  · next hfell =>
    have hempty : x.dispatch.waiting = [] := hwaiting.trans (h.resolve_right (by omega))
    rw [hempty]
    rfl
  · rfl

theorem updateJudged_judgedFrom (rest : List TallyUpdate) (s x : State) : JudgedFrom x (updateJudged rest s x) := by
  unfold updateJudged
  split
  · obtain ⟨n, hfold, -⟩ := judgeWaiting_turns x.dispatch.waiting.length (s := x) le_rfl
    rw [hfold]
    exact foldl_judgedFrom ..
  · exact .refl x

theorem updateJudged_frame (rest : List TallyUpdate) (s x : State) : (updateJudged rest s x).bus.mem = x.bus.mem ∧
    (updateJudged rest s x).tally.bank = x.tally.bank ∧ (updateJudged rest s x).tally.swap = x.tally.swap := by
  unfold updateJudged
  split <;> simp

theorem updateJudged_keeps (b : Nat) (rest : List TallyUpdate) (s x : State) : Keeps b x (updateJudged rest s x) := by
  unfold updateJudged
  split
  · exact judgeWaiting_keeps ..
  · exact .refl b x

/-- What stands once the update has left the queue and the swap has been seen to. -/
theorem endSwapIfDone_updated (b : Burst) (u : TallyUpdate) (rest : List TallyUpdate) (s : State) :
    (endSwapIfDone (updated b u rest s)).bus.mem = (Burst.perform s.bus.mem b).1 ∧
    (endSwapIfDone (updated b u rest s)).tally.bank = s.tally.bank ∧ (endSwapIfDone (updated b u rest s)).tally.queue = rest ∧
    (endSwapIfDone (updated b u rest s)).tally.engine = none ∧ (endSwapIfDone (updated b u rest s)).dispatch = s.dispatch ∧
    (endSwapIfDone (updated b u rest s)).shadow = s.shadow ∧ (endSwapIfDone (updated b u rest s)).tracker = s.tracker ∧
    (endSwapIfDone (updated b u rest s)).overrides = s.overrides ∧ (endSwapIfDone (updated b u rest s)).optimizer = s.optimizer ∧
    (endSwapIfDone (updated b u rest s)).bus.answers = s.bus.answers := by
  simp [updated, landBurst]

/-- The swap behind an update, its header and its event. -/
theorem endSwapIfDone_counted (b : Burst) (u : TallyUpdate) (rest : List TallyUpdate) (s : State) :
    (s.tally.swap = none → (endSwapIfDone (updated b u rest s)).tally.swap = none ∧
      EventsWritten [] s (endSwapIfDone (updated b u rest s))) ∧
    ∀ w, s.tally.swap = some w →
      (endSwapIfDone (updated b u rest s)).tally.swap = (if w.zeroing = .ended ∧ (∀ x ∈ rest, x.bank = s.tally.bank) then none
        else some { w with done := if u.bank = s.tally.bank then w.done else w.done + 1 }) ∧
      EventsWritten (if w.zeroing = .ended ∧ (∀ x ∈ rest, x.bank = s.tally.bank) then [event .tally 2 s.tracker.lug
        (single s.tally.bank.toNat) (single (if u.bank = s.tally.bank then w.done else w.done + 1))] else [])
        s (endSwapIfDone (updated b u rest s)) ∧
      ∀ e, w.zeroing = .ended → (∀ x ∈ rest, x.bank = s.tally.bank) → s.window .tally = some e →
        writeBurst (windowAddr e 0) [tallyHeaderWord { s.tally with swap := none }] .plain ∈
          (endSwapIfDone (updated b u rest s)).bus.internal := by
  have hswap := updated_swap b u rest s
  have hsilent : ∀ {es t}, EventsWritten es (updated b u rest s) t → EventsWritten es s t := fun he => he.after rfl rfl (.refl _)
  refine ⟨fun hnone => ?_, fun w hsome => ?_⟩
  · rw [hnone, Option.map_none] at hswap
    rw [endSwapIfDone_goes_on fun w hw => by rw [hswap] at hw; cases hw]
    exact ⟨hswap, hsilent (eventsWritten_nil rfl (.refl _))⟩
  · rw [hsome, Option.map_some] at hswap
    by_cases hends : w.zeroing = .ended ∧ ∀ x ∈ rest, x.bank = s.tally.bank
    · obtain ⟨hnone, hevents, hheader⟩ := endSwapIfDone_ends hswap hends
      rw [if_pos hends, if_pos hends]
      exact ⟨hnone, hsilent hevents, fun e _ _ hw => hheader e hw⟩
    · have hstays := endSwapIfDone_goes_on (x := updated b u rest s) fun w' hw' he => hends (by
        rw [hswap] at hw'
        cases hw'
        exact he)
      rw [if_neg hends, if_neg hends, hstays]
      exact ⟨hswap, hsilent (eventsWritten_nil rfl (.refl _)), fun e hz hall => absurd ⟨hz, hall⟩ hends⟩

/-- The first of the reads that are judged in turn. -/
theorem judged_first {x z : State} {w : WaitingSort} {behind : List WaitingSort} {n : Nat} (hwaiting : x.dispatch.waiting = w :: behind)
    (hn : 1 ≤ n) (hz : z = (x.dispatch.waiting.take n).foldl judgeNext x) :
    JudgedFrom (judgeNext x w) z ∧ ∀ k, Freed k (judgeNext x w) → Freed k z := by
  obtain ⟨n, rfl⟩ : ∃ m, n = m + 1 := ⟨n - 1, by omega⟩
  rw [hwaiting, List.take_succ_cons, List.foldl_cons] at hz
  subst hz
  exact ⟨foldl_judgedFrom .., fun k hk => foldl_judgeNext_freed _ hk⟩

/-- R144: the first waiting read of a FREE slot. -/
theorem judgeNext_of_free {x : State} {w : WaitingSort} (hfree : (x.record w.slot).state = .free) :
    (judgeNext x w).bus.answers = x.bus.answers ++
      [{ txn := w.txn, master := w.master, reply := .data [sortWord 0 .empty (freeSlotLug x.tracker.lug w.slot)] }] := by
  exact congrArg (fun t : State => t.bus.answers)
    (judgeSort_of_free (s := { x with dispatch := { x.dispatch with waiting := x.dispatch.waiting.tail } }) hfree)

/-- R144, R149: the first waiting read of a live record. -/
theorem judgeNext_of_live {x : State} {w : WaitingSort} (hlive : (x.record w.slot).state ≠ .free) :
    Freed w.slot (judgeNext x w) ∧ ∃ bin status key forced, SortOutcome x (x.record w.slot) bin status key forced ∧
      (judgeNext x w).bus.answers = x.bus.answers ++
        [{ txn := w.txn, master := w.master, reply := .data [sortWord bin status (x.record w.slot).lug] }] ++
        fallbackAnswers x w.slot (x.record w.slot) ∧
      (judgeNext x w).tally.queue = x.tally.queue ++
        [{ bank := x.tally.bank, key := key, forced := forced, lug := (x.record w.slot).lug }] := by
  have hslot : w.slot < x.tracker.records.length := by
    by_contra hno
    exact hlive (by simp [State.record, List.getElem?_eq_none (Nat.le_of_not_lt hno), Record.blank])
  have hjudged := judgeSort_spec (txn := w.txn) (m := w.master) (k := w.slot)
    (s := { x with dispatch := { x.dispatch with waiting := x.dispatch.waiting.tail } }) hlive
  refine ⟨⟨?_, ?_⟩, _, _, _, _, sortOutcome_of_choice x (x.record w.slot), hjudged.answers, hjudged.queue⟩
  · rw [State.record, judgeNext, hjudged.records]
    simp [hslot]
  · intro e he
    rw [judgeNext, hjudged.decisions] at he
    simpa using (List.mem_filter.1 he).2

/-- The outcome of a sort answer lies in the setup in force and the bins. -/
theorem sortOutcome_congr {s x : State} {r : Record} {bin : Nat} {status : SortStatus} {key : TallyKey} {forced : Bool}
    (h : SortOutcome x r bin status key forced) (hshadow : x.shadow = s.shadow) (hdispatch : x.dispatch = s.dispatch) :
    SortOutcome s r bin status key forced := by
  have hfull : ∀ b, binFull x b = binFull s b := fun b => by simp [binFull, binCount, hshadow, hdispatch]
  obtain ⟨huntrimmed, hreject, hfallback, hpiece, hkey⟩ := h
  simp only [hshadow, hfull] at huntrimmed hreject hfallback hpiece
  exact ⟨huntrimmed, hreject, hfallback, hpiece, hkey⟩

/-- Settles O58. -/
theorem tallyWorkCompletes : Obligations.TallyWorkCompletes := by
  unfold Obligations.TallyWorkCompletes
  refine ⟨fun s b r u rest hport hpurpose hengine hqueue => ?_, fun s b base done hport hpurpose hswap =>
    zeroingDone_completes hport hpurpose hswap⟩
  refine ⟨_, exec_tallyUpdateComplete hport hpurpose hengine hqueue, ?_⟩
  obtain ⟨hxmem, hxbank, hxqueue, hxengine, hxdispatch, hxshadow, hxtracker, hxoverrides, hxoptimizer, hxanswers⟩ :=
    endSwapIfDone_updated b u rest s
  obtain ⟨hnoswap, hsomeswap⟩ := endSwapIfDone_counted b u rest s
  have hkeeps : Keeps 30 s (endSwapIfDone (updated b u rest s)) := keeps_of_eq (by simp [updated, State.lengths, landBurst])
    (by rw [hxtracker]) (by rw [hxtracker]) (by rw [hxoptimizer])
  generalize endSwapIfDone (updated b u rest s) = x at *
  have hfrom := updateJudged_judgedFrom rest s x
  obtain ⟨hzmem, hzbank, hzswap⟩ := updateJudged_frame rest s x
  have hsame := updateJudged_of_none (rest := rest) (s := s) (x := x) (by rw [hxdispatch])
  have hzkeeps := hkeeps.trans (updateJudged_keeps 30 rest s x)
  have hturns := judgeWaiting_turns x.dispatch.waiting.length (s := x) le_rfl
  have hfell : 32 ≤ s.tally.queue.length → rest.length < 32 → updateJudged rest s x = judgeWaiting x.dispatch.waiting.length x :=
    fun hfull hroom => if_pos ⟨hroom, hfull⟩
  generalize hz : updateJudged rest s x = z at *
  obtain ⟨hymem, hybank, hyswap, hyqueue, hydispatch, hyanswers, hyrecord⟩ := workEnds_frame (landBurst b s) z
  have hzshadow : z.shadow = s.shadow := hfrom.shadow.trans hxshadow
  refine ⟨hymem.trans (hzmem.trans hxmem), hybank.trans (hzbank.trans hxbank),
    fun hnone => hyswap.trans (hzswap.trans (hnoswap hnone).1), fun w e hw hz hall hwin => ?_, fun hphase => ?_,
    fun hphase hpart hempty hzeroed => ?_, fun w hw => hyswap.trans (hzswap.trans (hsomeswap w hw).1), fun hno => ?_,
    fun w behind hwaiting hfull hroom => ?_⟩
  · obtain ⟨es, hes⟩ := hfrom.events
    obtain ⟨-, more, hmore, -⟩ := (eventsWritten_iff _ _ _).1 hes
    refine workEnds_internal _ ?_ rfl
    rw [hmore]
    exact List.mem_append_left _ ((hsomeswap w hw).2.2 e hz hall hwin)
  · have hx : EventsWritten (match s.tally.swap with
        | some w => if w.zeroing = .ended ∧ (∀ x ∈ rest, x.bank = s.tally.bank) then [event .tally 2 s.tracker.lug
            (single s.tally.bank.toNat) (single (if u.bank = s.tally.bank then w.done else w.done + 1))] else []
        | none => []) s x := by
      cases hw : s.tally.swap with
      | none => exact (hnoswap hw).2
      | some w => exact (hsomeswap w hw).2.1
    by_cases hno : s.dispatch.waiting = [] ∨ rest.length ≥ 32 ∨ s.tally.queue.length < 32
    · obtain rfl := hsame hno
      refine ⟨[], ?_, fun _ => rfl⟩
      rw [List.append_nil]
      exact workEnds_events hx hxshadow hphase
    · obtain ⟨es, hes⟩ := hfrom.events
      exact ⟨es, workEnds_events (hx.append hes (window_of_shadow hxshadow _)) hzshadow hphase, fun h => absurd h hno⟩
  · obtain rfl := hsame (.inr (.inr (by rw [hqueue, hempty]; simp)))
    have hswap : z.tally.swap = none := by
      cases hw : s.tally.swap with
      | none => exact (hnoswap hw).1
      | some w => rw [(hsomeswap w hw).1, if_pos ⟨hzeroed w hw, by simp [hempty]⟩]
    obtain ⟨old, more, hproceeds, hbus⟩ := workEnds_proceeds (landBurst b s) (hzshadow ▸ hphase) (hzshadow ▸ hpart)
      (hxqueue.trans hempty) hswap hxengine
    exact ⟨z, old, more, hzshadow, hxtracker, hproceeds, hbus⟩
  · obtain rfl := hsame hno
    exact ⟨hyqueue.trans hxqueue, hydispatch.trans hxdispatch, hyanswers.trans hxanswers⟩
  · have hxwaiting : x.dispatch.waiting = w :: behind := by rw [hxdispatch, hwaiting]
    have hxrecord : ∀ k, x.record k = s.record k := record_of_records (congrArg Tracker.records hxtracker)
    obtain ⟨n, hfold, hstop, hleft, hfirst⟩ := hturns
    have hn := hfirst w behind hxwaiting ((sortReady_iff _ _).2 (.inr (by rw [hxqueue]; exact hroom)))
    rw [← hfell hfull hroom] at hfold hstop hleft
    obtain ⟨hlater, hfreed⟩ := judged_first hxwaiting hn hfold
    have hwlist : x.dispatch.waiting = s.dispatch.waiting := by rw [hxdispatch]
    rw [hwlist] at hfold hstop hleft
    refine ⟨⟨n, x, z, hn, hxtracker, hxshadow, hxoverrides, hxdispatch, hxanswers, hxqueue, hxbank, hfold, fun h hh => ?_, hleft,
      hydispatch, hyqueue, hyanswers, fun hs j _ hnone hstate => ?_⟩, fun hfree hslot => ?_, fun hlive => ⟨?_, ?_⟩⟩
    · have hready := Bool.eq_false_iff.1 (hstop h hh)
      rw [ne_eq, sortReady_iff] at hready
      exact ⟨fun hf => hready (.inl hf), Nat.not_lt.1 fun hl => hready (.inr hl)⟩
    · have hzrecord : z.record j = s.record j := by
        rw [hfold, foldl_judgeNext_record _ _ hnone, hxrecord]
      rw [hyrecord, (hzkeeps.within ((tableSound_iff s).1 hs)).1.settled_eq _ (by rwa [hzrecord]), hzrecord]
    · obtain ⟨more, hmore⟩ := hlater.answers
      obtain ⟨hplace, hposition⟩ := freeSlotLug_spec s.tracker.lug w.slot hslot
      have hxfree : (x.record w.slot).state = .free := by rw [hxrecord, hfree]
      refine ⟨_, more, hplace, hposition, ?_⟩
      rw [hyanswers, hmore, judgeNext_of_free hxfree, hxanswers, hxtracker, List.append_assoc]
      rfl
    · have hxlive : (x.record w.slot).state ≠ .free := by rwa [hxrecord]
      rw [hyrecord]
      exact (hfreed _ (judgeNext_of_live hxlive).1).settled _
    · have hxlive : (x.record w.slot).state ≠ .free := by rwa [hxrecord]
      obtain ⟨-, bin, status, key, forced, houtcome, hans, hque⟩ := judgeNext_of_live hxlive
      obtain ⟨more, hmore⟩ := hlater.answers
      obtain ⟨later, hlater⟩ := hlater.queue
      have hfallback : fallbackAnswers x w.slot (s.record w.slot) = fallbackAnswers s w.slot (s.record w.slot) := by
        simp only [fallbackAnswers, hxdispatch, hxshadow]
      rw [hxrecord] at houtcome hans hque
      refine ⟨bin, status, key, forced, more, later, sortOutcome_congr houtcome hxshadow hxdispatch, ?_, ?_⟩
      · rw [hyanswers, hmore, hans, hxanswers, hfallback]
        simp
      · rw [hyqueue, hlater, hque, hxqueue, hxbank]
        simp

end Sys2Proof.Machine
end

section
/-! The record mirrors and the line status block: their layouts and their writes (O34). -/

namespace Sys2Proof.Machine

/-! ### The body of a record mirror, bit by bit -/

theorem heldByte_lt (held : List (Nat × Nat)) (j : Nat) : heldByte held j < 256 := by
  unfold heldByte
  split
  · simp only [place_eq]
    omega
  · decide

theorem toNat_heldWord (held : List (Nat × Nat)) (w : Nat) : (heldWord held w).toNat =
    heldByte held (4 * w) + 2 ^ 8 * heldByte held (4 * w + 1) + 2 ^ 16 * heldByte held (4 * w + 2) +
      2 ^ 24 * heldByte held (4 * w + 3) := by
  have hlt := fun j => heldByte_lt held (4 * w + j)
  have h0 : heldByte held (4 * w) < 256 := hlt 0
  have h1 := hlt 1
  have h2 := hlt 2
  have h3 := hlt 3
  have hsum : ((List.range 4).map fun j => place (heldByte held (4 * w + j)) (8 * j) 8).sum =
      heldByte held (4 * w) + 2 ^ 8 * heldByte held (4 * w + 1) + 2 ^ 16 * heldByte held (4 * w + 2) +
        2 ^ 24 * heldByte held (4 * w + 3) := by
    show [place (heldByte held (4 * w + 0)) 0 8, place (heldByte held (4 * w + 1)) 8 8, place (heldByte held (4 * w + 2)) 16 8,
      place (heldByte held (4 * w + 3)) 24 8].sum = _
    simp only [List.sum_cons, List.sum_nil, place_eq, Nat.add_zero]
    omega
  rw [heldWord, toNat_wordOf (by omega), hsum]

theorem recordBody_length (r : Record) : (recordBody r).length = 63 := by
  unfold recordBody decisionWords
  split <;> rfl

/-- The words of a record mirror behind the decision, which takes two words whether present or absent. -/
theorem recordBody_tail (r : Record) : (recordBody r).drop 6 =
    [wordOf [place r.held.length 0 4], heldWord r.held 0, heldWord r.held 1, heldWord r.held 2] ++
      ((List.range Config.segments).flatMap fun i => segmentWords (r.segment i)) ++ List.replicate 17 0 := by
  unfold recordBody decisionWords
  split <;> rfl

theorem getD_of_drop (l : List Word) (m n : Nat) : (l.drop m).getD n 0 = l.getD (m + n) 0 := by
  simp [List.getD_eq_getElem?_getD, List.getElem?_drop]

theorem recordBody_heldWord (r : Record) {w : Nat} (hw : w < 3) : (recordBody r).getD (7 + w) 0 = heldWord r.held w := by
  have hdrop := getD_of_drop (recordBody r) 6 (1 + w)
  rw [recordBody_tail] at hdrop
  rw [show 7 + w = 6 + (1 + w) by omega, ← hdrop]
  interval_cases w <;> rfl

theorem recordBody_segment (r : Record) {i : Nat} (hi : i < 12) :
    (recordBody r).getD (10 + 3 * i) 0 = (segmentWords (r.segment i)).getD 0 0 ∧
    (recordBody r).getD (11 + 3 * i) 0 = (segmentWords (r.segment i)).getD 1 0 ∧
    (recordBody r).getD (12 + 3 * i) 0 = (segmentWords (r.segment i)).getD 2 0 := by
  have hdrop := fun n => getD_of_drop (recordBody r) 6 n
  simp only [recordBody_tail] at hdrop
  refine ⟨(congrArg (fun n => (recordBody r).getD n 0) (by omega)).trans (hdrop (4 + 3 * i)).symm |>.trans ?_,
    (congrArg (fun n => (recordBody r).getD n 0) (by omega)).trans (hdrop (5 + 3 * i)).symm |>.trans ?_,
    (congrArg (fun n => (recordBody r).getD n 0) (by omega)).trans (hdrop (6 + 3 * i)).symm |>.trans ?_⟩ <;>
    interval_cases i <;> rfl

theorem recordBody_rest (r : Record) {n : Nat} (hn : 46 ≤ n) (h : n < 63) : (recordBody r).getD n 0 = 0 := by
  obtain ⟨m, rfl⟩ : ∃ m, n = 6 + (40 + m) := ⟨n - 46, by omega⟩
  rw [← getD_of_drop, recordBody_tail]
  have hm : m < 17 := by omega
  interval_cases m <;> rfl

theorem verdict_code_lt (v : Verdict) : v.code < 4 := by cases v <;> decide

theorem recordState_code_lt (st : RecordState) : st.code < 8 := by cases st <;> decide

/-- Two numbers below the chip bit's word, with chip and marks in their bits. -/
theorem toNat_parts (x y : Nat) (chip : Bool) (marks : BitVec 12) (h : x + y < 2 ^ 31 + 2 ^ 30 + 2 ^ 16) :
    (wordOf [x, y, placeBit chip 29, place marks.toNat 16 12]).toNat = x + y + 2 ^ 29 * chip.toNat + 2 ^ 16 * marks.toNat := by
  have hchip := chip.toNat_le
  have hmarks := marks.isLt
  simp only [place_eq, placeBit_eq]
  rw [toNat_wordOf (by simp only [List.sum_cons, List.sum_nil]; omega)]
  simp only [List.sum_cons, List.sum_nil]
  omega

theorem gradePart_eq (g : Nat) : place g 0 3 + placeBit true 31 = g % 8 + 2 ^ 31 := by
  rw [place_eq, placeBit_eq, Bool.toNat_true]
  omega

theorem trimPart_eq (a b : Nat) : place a 8 4 + place b 12 4 + placeBit true 30 = 2 ^ 8 * (a % 16) + 2 ^ 12 * (b % 16) + 2 ^ 30 := by
  rw [place_eq, place_eq, placeBit_eq, Bool.toNat_true]
  omega

theorem toNat_partsWord (r : Record) : (partsWord r).toNat = (match r.forcedGrade with
      | some g => g % 8 + 2 ^ 31
      | none => 0) + (match r.forcedTrim with
      | some (a, b) => 2 ^ 8 * (a % 16) + 2 ^ 12 * (b % 16) + 2 ^ 30
      | none => 0) + 2 ^ 29 * r.chip.toNat + 2 ^ 16 * r.marks.toNat := by
  unfold partsWord
  cases r.forcedGrade <;> cases r.forcedTrim <;> simp only [gradePart_eq, trimPart_eq] <;> exact toNat_parts _ _ _ _ (by omega)

theorem toNat_decisionWords (d : Decision) :
    ((decisionWords (some d)).getD 0 0).toNat = d.a % 16 + 2 ^ 4 * (d.b % 16) + 2 ^ 8 * (d.grade % 8) + 2 ^ 24 * d.verdict.code ∧
    ((decisionWords (some d)).getD 1 0).toNat = d.value % 65536 + 2 ^ 16 * d.saws.toNat := by
  have hcode := verdict_code_lt d.verdict
  have hsaws := d.saws.isLt
  constructor
  · show (wordOf [place d.verdict.code 24 2, place d.a 0 4, place d.b 4 4, place d.grade 8 3]).toNat = _
    simp only [place_eq]
    rw [toNat_wordOf (by simp only [List.sum_cons, List.sum_nil]; omega)]
    simp only [List.sum_cons, List.sum_nil]
    omega
  · show (wordOf [place d.value 0 16, place d.saws.toNat 16 13]).toNat = _
    simp only [place_eq]
    rw [toNat_wordOf (by simp only [List.sum_cons, List.sum_nil]; omega)]
    simp only [List.sum_cons, List.sum_nil]
    omega

theorem toNat_segmentWords (g : Segment) :
    ((segmentWords g).getD 0 0).toNat = g.wood % 256 + 2 ^ 8 * (g.knots % 256) + 2 ^ 16 * (g.defects % 65536) ∧
    ((segmentWords g).getD 1 0).toNat = g.minThickness % 2048 + 2 ^ 16 * (g.minWidth % 4096) + 2 ^ 28 * (g.grade % 8) +
      2 ^ 31 * g.unseen.toNat ∧
    ((segmentWords g).getD 2 0).toNat = g.maxWane % 2048 := by
  have hunseen := g.unseen.toNat_le
  refine ⟨?_, ?_, ?_⟩
  · show (wordOf [place g.wood 0 8, place g.knots 8 8, place g.defects 16 16]).toNat = _
    simp only [place_eq]
    rw [toNat_wordOf (by simp only [List.sum_cons, List.sum_nil]; omega)]
    simp only [List.sum_cons, List.sum_nil]
    omega
  · show (wordOf [place g.minThickness 0 11, place g.minWidth 16 12, place g.grade 28 3, placeBit g.unseen 31]).toNat = _
    simp only [place_eq, placeBit_eq]
    rw [toNat_wordOf (by simp only [List.sum_cons, List.sum_nil]; omega)]
    simp only [List.sum_cons, List.sum_nil]
    omega
  · show (wordOf [place g.maxWane 0 11]).toNat = _
    simp only [place_eq]
    rw [toNat_wordOf (by simp only [List.sum_cons, List.sum_nil]; omega)]
    simp only [List.sum_cons, List.sum_nil]
    omega

/-- R203: the head of a record mirror. -/
theorem toNat_recordHead (r : Record) :
    (wordOf [place r.lug.toNat 0 16, place r.state.code 16 3]).toNat = r.lug.toNat + 2 ^ 16 * r.state.code ∧
    (wordOf [placeBit r.committed 0, placeBit r.forced 1, placeBit r.fallback 2, placeBit r.untrimmed 3, placeBit r.long 4,
      placeBit r.short 5, placeBit r.rescanFailed 6, place r.contributed.toNat 8 6, place r.silent.toNat 16 6]).toNat =
      r.committed.toNat + 2 * r.forced.toNat + 4 * r.fallback.toNat + 8 * r.untrimmed.toNat + 16 * r.long.toNat +
        32 * r.short.toNat + 64 * r.rescanFailed.toNat + 2 ^ 8 * r.contributed.toNat + 2 ^ 16 * r.silent.toNat ∧
    (wordOf [place r.length 0 13, place r.present 16 4]).toNat = r.length % 8192 + 2 ^ 16 * (r.present % 16) := by
  have hstate := recordState_code_lt r.state
  have hlug := r.lug.isLt
  have hcontributed := r.contributed.isLt
  have hsilent := r.silent.isLt
  have hflag := Bool.toNat_le
  have h0 := hflag r.committed
  have h1 := hflag r.forced
  have h2 := hflag r.fallback
  have h3 := hflag r.untrimmed
  have h4 := hflag r.long
  have h5 := hflag r.short
  have h6 := hflag r.rescanFailed
  refine ⟨?_, ?_, ?_⟩
  · simp only [place_eq]
    rw [toNat_wordOf (by simp only [List.sum_cons, List.sum_nil]; omega)]
    simp only [List.sum_cons, List.sum_nil]
    omega
  · simp only [place_eq, placeBit_eq]
    rw [toNat_wordOf (by simp only [List.sum_cons, List.sum_nil]; omega)]
    simp only [List.sum_cons, List.sum_nil]
    omega
  · simp only [place_eq]
    rw [toNat_wordOf (by simp only [List.sum_cons, List.sum_nil]; omega)]
    simp only [List.sum_cons, List.sum_nil]
    omega

theorem mirrorLayout (r : Record) : MirrorLayout r fun n => (recordBody r).getD (n - 1) 0 where
  lug := (toNat_recordHead r).1
  flags := (toNat_recordHead r).2.1
  length := (toNat_recordHead r).2.2
  parts := toNat_partsWord r
  absent h := by
    simp only [recordBody, h]
    exact ⟨rfl, rfl⟩
  decision d h := by
    simp only [recordBody, h]
    exact toNat_decisionWords d
  heldCount := by
    have hdrop := getD_of_drop (recordBody r) 6 0
    rw [recordBody_tail] at hdrop
    have hword : (recordBody r).getD 6 0 = wordOf [place r.held.length 0 4] := hdrop.symm
    show ((recordBody r).getD 6 0).toNat = _
    rw [hword]
    simp only [place_eq]
    rw [toNat_wordOf (by simp only [List.sum_cons, List.sum_nil]; omega)]
    simp
  held j hj := by
    have hbyte : heldByte r.held j = match r.held[j]? with
        | some (h, i) => 2 ^ 5 * (h % 8) + i % 32
        | none => 0 := by
      simp only [heldByte, place_eq, Nat.pow_zero, Nat.one_mul]
      rfl
    suffices hword : ((recordBody r).getD (8 + j / 4 - 1) 0).toNat / 256 ^ (j % 4) % 256 = heldByte r.held j from
      hword.trans hbyte
    rw [show 8 + j / 4 - 1 = 7 + j / 4 by omega, recordBody_heldWord r (by omega), toNat_heldWord]
    obtain ⟨w, q, hq, rfl⟩ : ∃ w q, q < 4 ∧ j = 4 * w + q := ⟨j / 4, j % 4, by omega, by omega⟩
    have hlt := fun j => heldByte_lt r.held (4 * w + j)
    have h0 := hlt 0
    have h1 := hlt 1
    have h2 := hlt 2
    have h3 := hlt 3
    rw [show (4 * w + q) / 4 = w by omega, show (4 * w + q) % 4 = q by omega]
    simp only [Nat.add_zero] at h0
    interval_cases q <;> simp only [Nat.add_zero, Nat.reducePow] <;> omega
  segment i hi := by
    obtain ⟨h0, h1, h2⟩ := recordBody_segment r hi
    obtain ⟨v0, v1, v2⟩ := toNat_segmentWords (r.segment i)
    refine ⟨?_, ?_, ?_⟩
    · exact (congrArg (fun n => ((recordBody r).getD n 0).toNat) (by omega)).trans ((congrArg BitVec.toNat h0).trans v0)
    · exact (congrArg (fun n => ((recordBody r).getD n 0).toNat) (by omega)).trans ((congrArg BitVec.toNat h1).trans v1)
    · exact (congrArg (fun n => ((recordBody r).getD n 0).toNat) (by omega)).trans ((congrArg BitVec.toNat h2).trans v2)
  rest n hn h := recordBody_rest r (by omega) (by omega)

/-! ### The body of the line status block, bit by bit -/

theorem partState_code_lt (p : PartState) : p.code < 4 := by cases p <;> decide

theorem statusBody_length (s : State) : (statusBody s).length = 63 := rfl

theorem statusBody_line (s : State) : ((statusBody s).getD 0 0).toNat =
    s.tracker.lug.toNat + 2 ^ 16 * s.shadow.part.code + 2 ^ 20 * s.tally.bank.toNat + 2 ^ 24 * s.lineGuard.force.toNat +
      2 ^ 25 * s.inputs.almin.filtered.toNat + 2 ^ 26 * s.overrides.sawTimer.isSome.toNat := by
  have hlug := s.tracker.lug.isLt
  have hpart := partState_code_lt s.shadow.part
  have h0 := s.tally.bank.toNat_le
  have h1 := s.lineGuard.force.toNat_le
  have h2 := s.inputs.almin.filtered.toNat_le
  have h3 := s.overrides.sawTimer.isSome.toNat_le
  show (wordOf [_, _, _, _, _, _]).toNat = _
  simp only [place_eq, placeBit_eq]
  rw [toNat_wordOf (by simp only [List.sum_cons, List.sum_nil]; omega)]
  simp only [List.sum_cons, List.sum_nil]
  omega

theorem statusLayout (s : State) : StatusLayout s fun n => (statusBody s).getD (n - 1) 0 where
  line := statusBody_line s
  pacing := by
    refine ⟨freeSlotMask s, ?_, fun h hh => ?_⟩
    · have hfree := (freeSlotMask s).isLt
      show (wordOf [_, _, _]).toNat = _
      simp only [place_eq]
      rw [toNat_wordOf (by simp only [List.sum_cons, List.sum_nil]; omega)]
      simp only [List.sum_cons, List.sum_nil]
      omega
    · rw [freeSlotMask, getLsbD_maskOf, decide_eq_true hh, Bool.true_and]
      unfold frameSlot
      cases s.intake.tables.getD h none with
      | none => simp
      | some slots => simp [List.mem_iff_getElem?]
  saws := by
    have hsaws := s.overrides.sawMask.isLt
    show (wordOf [_]).toNat = _
    simp only [place_eq]
    rw [toNat_wordOf (by simp only [List.sum_cons, List.sum_nil]; omega)]
    simp only [List.sum_cons, List.sum_nil]
    omega
  flags := by
    refine ⟨maskOf 6 fun i => (s.flag i).shown, maskOf 6 fun i => (s.flag i).latched, ?_, fun i hi => ?_⟩
    · have h0 := (maskOf 6 fun i => (s.flag i).shown).isLt
      have h1 := (maskOf 6 fun i => (s.flag i).latched).isLt
      show (wordOf [_, _]).toNat = _
      simp only [place_eq]
      rw [toNat_wordOf (by simp only [List.sum_cons, List.sum_nil]; omega)]
      simp only [List.sum_cons, List.sum_nil]
      omega
    · rw [getLsbD_maskOf, getLsbD_maskOf, decide_eq_true hi]
      exact ⟨rfl, rfl⟩
  rest n hn h := by
    obtain ⟨m, rfl⟩ : ∃ m, n = 5 + m := ⟨n - 5, by omega⟩
    have hm : m < 59 := by omega
    have hrest : (statusBody s).drop 4 = List.replicate 59 0 := rfl
    show (statusBody s).getD (5 + m - 1) 0 = 0
    rw [show 5 + m - 1 = 4 + m by omega, ← getD_of_drop, hrest, List.getD_replicate]
    exact hm

end Sys2Proof.Machine
end

section
/-! The writes of record mirrors and of the line status block, and what every command publishes (O34). -/

namespace Sys2Proof.Machine

/-! ### The accesses of a write of an area -/

theorem wordsWritten_writeBurst (addr : Word) (ws : List Word) (p : Purpose) : wordsWritten (writeBurst addr ws p) =
    (List.range ws.length).map fun i => (addr + BitVec.ofNat 32 (4 * i), ws.getD i 0) := by
  have hdata : (ws.map Beat.full).map Beat.data = ws := by
    rw [List.map_map]
    exact List.map_id'' (fun _ => rfl) ws
  simp only [wordsWritten, writeBurst, hdata, List.length_map]

/-- A burst of a write's body: `c` words from body word `m` on. -/
theorem wordsWritten_body (base : Nat) (body : List Word) (m c : Nat) (k : Nat) (h : m + c ≤ body.length) :
    wordsWritten (writeBurst (BitVec.ofNat 32 (base + 4 * (m + 1))) ((body.drop m).take c) (.mirror k false)) =
      (List.range' m c).map fun n => (BitVec.ofNat 32 (base + 4 * (n + 1)), body.getD n 0) := by
  have hlength : ((body.drop m).take c).length = c := by simp; omega
  rw [wordsWritten_writeBurst, hlength, List.range'_eq_map_range, List.map_map]
  refine List.map_congr_left fun i hi => ?_
  have hic : i < c := by simpa using hi
  refine Prod.ext ?_ ?_
  · show BitVec.ofNat 32 (base + 4 * (m + 1)) + BitVec.ofNat 32 (4 * i) = BitVec.ofNat 32 (base + 4 * (m + i + 1))
    rw [← BitVec.ofNat_add]
    congr 1
    omega
  · simp [List.getD_eq_getElem?_getD, hic, List.getElem?_drop]

/-- R16: word by word, the count raised by 1, the body, and the count raised by 2. -/
theorem mirrorBursts_words (w : WindowEntry) (k : Nat) (count : Word) (body : List Word) (a : Nat → Word) (hbody : body.length = 63)
    (ha : ∀ n, a n = BitVec.ofNat 32 (w.start + (if k = 32 then 0 else 256 * (k + 1)) + 4 * n)) :
    (mirrorBursts w k count body).flatMap wordsWritten =
      (a 0, count + 1) :: (List.range 63).map (fun n => (a (n + 1), body.getD n 0)) ++ [(a 0, count + 2)] := by
  generalize hbase : w.start + (if k = 32 then 0 else 256 * (k + 1)) = base at ha
  have haddr : ∀ off, windowAddr w (areaOffset k + off) = BitVec.ofNat 32 (base + off) := fun off =>
    congrArg (BitVec.ofNat 32) (by rw [← Nat.add_assoc]; exact congrArg (· + off) hbase)
  have hcount : ∀ c : Word, ∀ closing, wordsWritten (writeBurst (BitVec.ofNat 32 (base + 0)) [c] (.mirror k closing)) = [(a 0, c)] :=
    fun c closing => by
      rw [wordsWritten_writeBurst, ha]
      simp
  have hchunk := fun m c h => wordsWritten_body base body m c k h
  have hranges : List.range 63 = List.range' 0 16 ++ List.range' 16 16 ++ List.range' 32 16 ++ List.range' 48 15 := rfl
  have h0 := hchunk 0 16 (by omega)
  have h1 := hchunk 16 16 (by omega)
  have h2 := hchunk 32 16 (by omega)
  have h3 := hchunk 48 15 (by omega)
  simp only [List.drop_zero] at h0
  simp only [mirrorBursts, haddr, List.flatMap_cons, List.flatMap_nil, hcount, List.append_nil, hranges, List.map_append, ha]
  rw [h0, h1, h2, h3]
  simp

/-! ### One area -/

theorem areaBody_congr {s t : State} (hstatus : statusBody t = statusBody s) (hrecords : t.tracker.records = s.tracker.records) (k : Nat) :
    areaBody t k = areaBody s k := by
  unfold areaBody
  split
  · exact hstatus
  · rw [record_of_records hrecords]

theorem statusBody_setArea (s : State) (k : Nat) (a : Area) : statusBody (s.setArea k a) = statusBody s :=
  statusBody_congr rfl rfl rfl rfl rfl rfl rfl rfl rfl

theorem area_setArea_self {s : State} {k : Nat} (hk : k < s.tracker.areas.length) (a : Area) : (s.setArea k a).area k = a := by
  simp [State.setArea, State.area, List.getD_eq_getElem?_getD, hk]

/-- R16: a write of an area begins, with a RECORD window in force. -/
theorem beginMirror_begins {s : State} {k : Nat} {w : WindowEntry} (hw : s.window .record = some w) (hk : k < s.tracker.areas.length) :
    (beginMirror k s).area k = { count := (s.area k).count + 2, pub := .writing } ∧
    (beginMirror k s).bus.internal = s.bus.internal ++ mirrorBursts w k (s.area k).count (areaBody s k) := by
  simp only [beginMirror, hw]
  exact ⟨(area_of_areas (by simp) k).trans (area_setArea_self hk _), by simp [State.setArea, issueAll]⟩

theorem beginMirror_without {s : State} {k : Nat} (hw : s.window .record = none) : beginMirror k s = s := by
  simp [beginMirror, hw]

theorem publishArea_area_ne (s : State) {k j : Nat} (h : j ≠ k) : (publishArea k s).area j = s.area j := by
  unfold publishArea
  split
  · exact beginMirror_area_ne s h
  · exact area_setArea_ne s _ h

/-- R17: a change taken to one area. -/
theorem publishArea_spec {s : State} {k : Nat} (hs : s.Sized) (hk : k ≤ 32) :
    (∀ w, (s.area k).pub = .idle → s.window .record = some w →
      (publishArea k s).area k = { count := (s.area k).count + 2, pub := .writing } ∧
      (publishArea k s).bus.internal = s.bus.internal ++ mirrorBursts w k (s.area k).count (areaBody s k)) ∧
    ((s.area k).pub = .idle → s.window .record = none → publishArea k s = s) ∧
    ((s.area k).pub ≠ .idle → (publishArea k s).area k = { count := (s.area k).count, pub := .writingDirty } ∧
      (publishArea k s).bus = s.bus) := by
  have hlen : k < s.tracker.areas.length := by
    rw [hs.areas]
    exact Nat.lt_succ_of_le hk
  refine ⟨fun w hidle hw => ?_, fun hidle hw => ?_, fun hbusy => ?_⟩
  · simp only [publishArea, hidle]
    exact beginMirror_begins hw hlen
  · simp only [publishArea, hidle]
    exact beginMirror_without hw
  · have hnoted : publishArea k s = s.setArea k { s.area k with pub := .writingDirty } := by
      unfold publishArea
      split
      · next hidle => exact absurd hidle hbusy
      · rfl
    rw [hnoted]
    exact ⟨area_setArea_self hlen _, rfl⟩

/-! ### The end of a write -/

theorem mirrorClosed_area_ne (s : State) {k j : Nat} (h : j ≠ k) : (mirrorClosed k s).area j = s.area j := by
  simp only [mirrorClosed]
  split
  · rfl
  · exact area_setArea_ne s _ h
  · split
    · rw [area_of_areas (s := beginMirror k (s.setArea k { s.area k with pub := .idle })) (by simp), beginMirror_area_ne _ h,
        area_setArea_ne s _ h]
    · rw [beginMirror_area_ne _ h, area_setArea_ne s _ h]

/-- R17: the closing count word of an area, while no load waits for it. -/
theorem mirrorClosed_spec {s : State} {k : Nat} (hk : k < s.tracker.areas.length) (hdue : s.shadow.phase = .statusDue → k ≠ 32) :
    ((s.area k).pub = .writing → (mirrorClosed k s).area k = { count := (s.area k).count, pub := .idle } ∧
      (mirrorClosed k s).bus.internal = s.bus.internal) ∧
    (∀ w, (s.area k).pub = .writingDirty → s.window .record = some w →
      (mirrorClosed k s).area k = { count := (s.area k).count + 2, pub := .writing } ∧
      (mirrorClosed k s).bus.internal = s.bus.internal ++ mirrorBursts w k (s.area k).count (areaBody s k)) ∧
    ((s.area k).pub = .writingDirty → s.window .record = none →
      (mirrorClosed k s).area k = { count := (s.area k).count, pub := .idle } ∧ (mirrorClosed k s).bus.internal = s.bus.internal) ∧
    (mirrorClosed k s).shadow = s.shadow := by
  have hidle : (s.setArea k { s.area k with pub := .idle }).area k = { count := (s.area k).count, pub := .idle } := area_setArea_self hk _
  have hdirty : (s.area k).pub = .writingDirty →
      mirrorClosed k s = beginMirror k (s.setArea k { s.area k with pub := .idle }) := fun h => by
    simp only [mirrorClosed, h]
    exact if_neg fun hb => hdue hb.2 hb.1
  have hwriting : (s.area k).pub = .writing → mirrorClosed k s = s.setArea k { s.area k with pub := .idle } := fun h => by
    simp only [mirrorClosed, h]
  refine ⟨fun h => ?_, fun w h hw => ?_, fun h hw => ?_, ?_⟩
  · rw [hwriting h]
    exact ⟨hidle, rfl⟩
  · rw [hdirty h]
    obtain ⟨harea, hinternal⟩ := beginMirror_begins (s := s.setArea k { s.area k with pub := .idle }) (k := k) hw
      (by simpa [State.setArea] using hk)
    rw [hidle, areaBody_congr (statusBody_setArea ..) rfl] at hinternal
    rw [hidle] at harea
    exact ⟨harea, hinternal⟩
  · rw [hdirty h, beginMirror_without (s := s.setArea k { s.area k with pub := .idle }) hw]
    exact ⟨hidle, rfl⟩
  · cases hpub : (s.area k).pub with
    | idle => simp only [mirrorClosed, hpub]
    | writing => rw [hwriting hpub]; rfl
    | writingDirty => rw [hdirty hpub]; simp [State.setArea]

/-- R15, R190: the closing count word of the status block that a line reset waits for. -/
theorem mirrorClosed_due {s : State} {w : WindowEntry} (hk : 32 < s.tracker.areas.length) (hdue : s.shadow.phase = .statusDue)
    (hdirty : (s.area 32).pub = .writingDirty) (hw : s.window .record = some w) :
    (mirrorClosed 32 s).bus.internal = s.bus.internal.map loadOrphan ++ mirrorBursts w 32 (s.area 32).count (statusBody s) ++
      [readBurst 0 1 .loadFormat] ∧
    (mirrorClosed 32 s).area 32 = { count := (s.area 32).count + 2, pub := .writing } ∧
    (mirrorClosed 32 s).shadow.part = .starting ∧ (mirrorClosed 32 s).shadow.phase = .none ∧
    (mirrorClosed 32 s).shadow.load = some { cause := .lineReset, words := [], awaitEvent := false, awaitTally := false } ∧
    (mirrorClosed 32 s).bus.mem = s.bus.mem := by
  have hstep : mirrorClosed 32 s = beginLoad .lineReset (beginMirror 32 (s.setArea 32 { s.area 32 with pub := .idle })) := by
    simp only [mirrorClosed, hdirty]
    exact if_pos ⟨trivial, hdue⟩
  have hidle : (s.setArea 32 { s.area 32 with pub := .idle }).area 32 = { count := (s.area 32).count, pub := .idle } :=
    area_setArea_self hk _
  obtain ⟨harea, hinternal⟩ := beginMirror_begins (s := s.setArea 32 { s.area 32 with pub := .idle }) (k := 32) hw
    (by simpa [State.setArea] using hk)
  have hbody : areaBody (s.setArea 32 { s.area 32 with pub := .idle }) 32 = statusBody s := statusBody_setArea ..
  rw [hidle, hbody] at hinternal
  rw [hidle] at harea
  have hmem : (beginMirror 32 (s.setArea 32 { s.area 32 with pub := .idle })).bus.mem = s.bus.mem := by simp [State.setArea]
  generalize beginMirror 32 (s.setArea 32 { s.area 32 with pub := .idle }) = t at *
  obtain ⟨hshadow, -⟩ := beginLoad_values .lineReset t
  have hmirror : (mirrorBursts w 32 (s.area 32).count (statusBody s)).map loadOrphan =
      mirrorBursts w 32 (s.area 32).count (statusBody s) := mirrorBursts_orphan _ (fun _ _ => rfl) ..
  have hlist : s.bus.internal.map loadOrphan ++ mirrorBursts w 32 (s.area 32).count (statusBody s) =
      t.bus.internal.map loadOrphan := by
    rw [hinternal, List.map_append, hmirror]
    rfl
  rw [hstep, hlist]
  exact ⟨beginLoad_internal .lineReset t, (area_of_areas (by simp) 32).trans harea, congrArg Shadow.part hshadow,
    congrArg Shadow.phase hshadow, congrArg Shadow.load hshadow, (by simp : (beginLoad .lineReset t).bus.mem = t.bus.mem).trans hmem⟩

theorem exec_mirrorWriteComplete {s : State} {addr : Word} {beats : List Beat} {k : Nat}
    (hport : s.bus.port = some { addr := addr, access := .write beats, purpose := .mirror k true }) : exec .mirrorWriteComplete s =
      .next (finish (mirrorClosed k (landBurst { addr := addr, access := .write beats, purpose := .mirror k true } s))) :=
  congrArg done (completeIf_of_port hport rfl)

end Sys2Proof.Machine
end

section
/-! Every command publishes what it changes (O34). -/

namespace Sys2Proof.Machine

/-! ### What has been published -/

/-- R15, R16: in a part that is left RUNNING with a RECORD window, what changed has a write of its area begun or noted. -/
structure Shown (s t : State) : Prop where
  records : t.shadow.part = .running → t.window .record ≠ none → ∀ k, k < 32 → t.record k ≠ s.record k → (t.area k).pub ≠ .idle
  status : t.shadow.part = .running → t.window .record ≠ none → statusBody t ≠ statusBody s → (t.area 32).pub ≠ .idle

/-- A change of a RUNNING part that publishes what it changes and ends no write; a RECORD window that takes force has every area
written. -/
structure Publishes (s t : State) : Prop where
  part : t.shadow.part = s.shadow.part
  areas : t.tracker.areas.length = s.tracker.areas.length
  shown : Shown s t
  busy : s.shadow.part = .running → ∀ k, (s.area k).pub ≠ .idle → (t.area k).pub ≠ .idle
  appears : s.shadow.part = .running → s.window .record = none → t.window .record ≠ none → ∀ k, k ≤ 32 → (t.area k).pub ≠ .idle

theorem Shown.of_not_running {s t : State} (h : t.shadow.part ≠ .running) : Shown s t :=
  ⟨fun hrun => absurd hrun h, fun hrun => absurd hrun h⟩

theorem Shown.of_same {s t : State} (hrecords : t.tracker.records = s.tracker.records) (hstatus : statusBody t = statusBody s) :
    Shown s t :=
  ⟨fun _ _ k _ h => absurd (record_of_records hrecords k) h, fun _ _ h => absurd hstatus h⟩

/-- What a change has published of a state, it has published of one with the same records and status block. -/
theorem Shown.from_same {s s' t : State} (h : Shown s' t) (hrecords : s'.tracker.records = s.tracker.records)
    (hstatus : statusBody s' = statusBody s) : Shown s t :=
  ⟨fun hrun hw k hk hne => h.records hrun hw k hk (by rwa [record_of_records hrecords]),
    fun hrun hw hne => h.status hrun hw (by rwa [hstatus])⟩

/-- A command that leaves nothing of the records and the status block changed publishes nothing. -/
theorem Shown.to_same {s t t' : State} (h : Shown s t) (htracker : t'.tracker = t.tracker) (hstatus : statusBody t' = statusBody t)
    (hshadow : t'.shadow = t.shadow) : Shown s t' := by
  have hwindow : t'.window .record = t.window .record := congrArg (fun x : Shadow => windowOf x.entries .record) hshadow
  refine ⟨fun hrun hw k hk hne => ?_, fun hrun hw hne => ?_⟩
  · rw [area_of_areas (congrArg _ htracker)]
    exact h.records (hshadow ▸ hrun) (hwindow ▸ hw) k hk (by rwa [← record_of_records (congrArg _ htracker) k])
  · rw [area_of_areas (congrArg _ htracker)]
    exact h.status (hshadow ▸ hrun) (hwindow ▸ hw) (by rwa [← hstatus])

/-- What was published stays published through a further change that publishes what it changes. -/
theorem Shown.then {s t u : State} (h : Shown s t) (h' : Publishes t u) : Shown s u := by
  have hpart : u.shadow.part = .running → t.shadow.part = .running := fun hrun => h'.part ▸ hrun
  refine ⟨fun hrun hw k hk hne => ?_, fun hrun hw hne => ?_⟩
  · by_cases hbare : t.window .record = none
    · exact h'.appears (hpart hrun) hbare hw k (Nat.le_of_lt hk)
    · by_cases hkept : u.record k = t.record k
      · exact h'.busy (hpart hrun) k (h.records (hpart hrun) hbare k hk (hkept ▸ hne))
      · exact h'.shown.records hrun hw k hk hkept
  · by_cases hbare : t.window .record = none
    · exact h'.appears (hpart hrun) hbare hw 32 (Nat.le_refl _)
    · by_cases hkept : statusBody u = statusBody t
      · exact h'.busy (hpart hrun) 32 (h.status (hpart hrun) hbare (hkept ▸ hne))
      · exact h'.shown.status hrun hw hkept

theorem Publishes.of_same {s t : State} (htracker : t.tracker = s.tracker) (hstatus : statusBody t = statusBody s)
    (hpart : t.shadow.part = s.shadow.part) (hentries : t.shadow.entries = s.shadow.entries) : Publishes s t := by
  have hwindow : t.window .record = s.window .record := congrArg (fun es => windowOf es .record) hentries
  exact ⟨hpart, congrArg (fun x => x.areas.length) htracker, .of_same (congrArg _ htracker) hstatus,
    fun _ k h => by rwa [area_of_areas (congrArg _ htracker)], fun _ h hn => absurd (hwindow.trans h) hn⟩

theorem Publishes.refl (s : State) : Publishes s s := .of_same rfl rfl rfl rfl

theorem Publishes.trans {s t u : State} (h : Publishes s t) (h' : Publishes t u) : Publishes s u where
  part := h'.part.trans h.part
  areas := h'.areas.trans h.areas
  shown := h.shown.then h'
  busy hrun k hk := h'.busy (h.part.trans hrun) k (h.busy hrun k hk)
  appears hrun hbare hw k hk := by
    by_cases hmiddle : t.window .record = none
    · exact h'.appears (h.part.trans hrun) hmiddle hw k hk
    · exact h'.busy (h.part.trans hrun) k (h.appears hrun hbare hmiddle k hk)

/-! ### Publication -/

theorem publishAreas_busy {ks : List Nat} {k : Nat} (hk : k ∈ ks) {s : State} (hw : s.window .record ≠ none)
    (hlen : k < s.tracker.areas.length) : ((ks.foldl (fun s k => publishArea k s) s).area k).pub ≠ .idle := by
  induction ks generalizing s with
  | nil => cases hk
  | cons j rest ih =>
    simp only [List.foldl_cons]
    rcases List.mem_cons.1 hk with rfl | hrest
    · exact publishAreas_keep_busy rest (publishArea_busy hw hlen)
    · exact ih hrest (by simpa [State.window] using hw) (by rwa [publishArea_areas_length])

theorem publishAll_busy {s : State} {k : Nat} (hk : k ≤ 32) (hw : s.window .record ≠ none) (hlen : s.tracker.areas.length = 33) :
    ((publishAll s).area k).pub ≠ .idle := by
  unfold publishAll
  rcases Nat.lt_or_eq_of_le hk with hlt | rfl
  · refine publishAreas_busy (List.mem_range.2 hlt) (by simpa [State.window] using hw) ?_
    rw [publishArea_areas_length]
    omega
  · exact publishAreas_keep_busy _ (publishArea_busy hw (by rw [hlen]; decide))

theorem statusBody_publish (s0 s1 : State) : statusBody (publish s0 s1) = statusBody s1 :=
  statusBody_congr (by simp) (by simp) (by simp) (by simp) (by simp) (by simp) (by simp) (by simp) (by simp)

theorem publishesAll_busy {s0 s1 : State} (hrun : s1.shadow.part = .running) (hall : publishesAll s0 s1 = true) {k : Nat} (hk : k ≤ 32)
    (hw : s1.window .record ≠ none) (hlen : s1.tracker.areas.length = 33) : ((publish s0 s1).area k).pub ≠ .idle := by
  simp only [publish, hrun, if_true, hall]
  exact publishAll_busy hk hw hlen

/-- R15, R16: publication begins or notes a write of every area that the change has altered. -/
theorem publish_shown {s0 s1 : State} (hlen : s1.tracker.areas.length = 33) : Shown s0 (publish s0 s1) := by
  have hwindow : (publish s0 s1).window .record = s1.window .record := by simp [State.window]
  have hrecord : ∀ k, (publish s0 s1).record k = s1.record k := record_of_records (by simp)
  refine ⟨fun hrun hw k hk hne => ?_, fun hrun hw hne => ?_⟩
  · have hrun : s1.shadow.part = .running := by simpa using hrun
    rw [hwindow] at hw
    rw [hrecord] at hne
    by_cases hall : publishesAll s0 s1 = true
    · exact publishesAll_busy hrun hall (Nat.le_of_lt hk) hw hlen
    · have hmem : k ∈ changedSlots s0 s1 :=
        List.mem_filter.2 ⟨List.mem_range.2 hk, bne_iff_ne.2 (Ne.symm hne)⟩
      have hbusy := publishAreas_busy hmem hw (by omega)
      simp only [publish, hrun, if_true, hall, if_false, Bool.false_eq_true]
      split
      · exact publishArea_keeps_busy _ hbusy
      · exact hbusy
  · have hrun : s1.shadow.part = .running := by simpa using hrun
    rw [hwindow] at hw
    rw [statusBody_publish] at hne
    exact publish_status_busy hrun hw (by rw [hlen]; decide) (Ne.symm hne)

theorem window_none_iff (s : State) (k : WindowKind) : s.window k = none ↔ windowKey s.shadow.entries k = none := by
  simp [State.window, windowOf, windowKey]

theorem publish_publishes {s0 s1 : State} (hareas : s1.tracker.areas = s0.tracker.areas) (hlen : s0.tracker.areas.length = 33)
    (hpart : s1.shadow.part = s0.shadow.part) : Publishes s0 (publish s0 s1) where
  part := by simpa using hpart
  areas := by rw [publish_areas_length, hareas]
  shown := publish_shown (hareas ▸ hlen)
  busy _ k hk := publish_keeps_busy s0 (by rwa [area_of_areas hareas])
  appears hrun hbare hw k hk := by
    have hw' : s1.window .record ≠ none := by simpa [State.window] using hw
    refine publishesAll_busy (hpart.trans hrun) ?_ hk hw' (hareas ▸ hlen)
    have hkey : windowKey s0.shadow.entries .record ≠ windowKey s1.shadow.entries .record := fun heq => by
      rw [ne_eq, window_none_iff, ← heq, ← window_none_iff] at hw'
      exact hw' hbare
    simp [publishesAll, hrun, hkey]

/-- What ends every change publishes what the change altered, and what the idle optimizer's start alters. -/
theorem settle_publishes {s0 s1 : State} (hareas : s1.tracker.areas = s0.tracker.areas) (hlen : s0.tracker.areas.length = 33)
    (hpart : s1.shadow.part = s0.shadow.part) : Publishes s0 (settle s0 s1) := by
  have hfirst : Publishes s0 (publish s0 (startTally s1)) := publish_publishes (by simpa using hareas) hlen (by simpa using hpart)
  exact hfirst.trans (publish_publishes (by simp) (hfirst.areas.trans hlen) (by simp))

/-- The entry to RUNNING is a change of the status block. -/
theorem statusBody_part {s t : State} (h : statusBody t = statusBody s) : t.shadow.part = s.shadow.part := by
  have hword : ((statusBody t).getD 0 0).toNat = ((statusBody s).getD 0 0).toNat := by rw [h]
  rw [statusBody_line, statusBody_line] at hword
  have hs := s.tracker.lug.isLt
  have ht := t.tracker.lug.isLt
  have hps := partState_code_lt s.shadow.part
  have hpt := partState_code_lt t.shadow.part
  have hcode : t.shadow.part.code = s.shadow.part.code := by omega
  revert hcode
  cases t.shadow.part <;> cases s.shadow.part <;> simp [PartState.code]

/-- What a load that ends in RUNNING publishes does not depend on the status block it began with. -/
theorem Shown.from_starting {s s' t : State} (h : Shown s' t) (hrecords : s'.tracker.records = s.tracker.records)
    (hpart : s'.shadow.part ≠ .running) : Shown s t :=
  ⟨fun hrun hw k hk hne => h.records hrun hw k hk (by rwa [record_of_records hrecords]),
    fun hrun hw _ => h.status hrun hw fun heq => hpart ((statusBody_part heq).symm.trans hrun)⟩

/-! ### The changes of the part -/

theorem judge_publishes (txn : Nat) (x : Transaction) {s : State} (hlen : s.tracker.areas.length = 33) : Publishes s (judge txn x s) := by
  unfold judge
  split
  · exact settle_publishes (by simp) hlen (by simp)
  · exact settle_publishes (by simp) hlen (by simp)

theorem releaseHeld_publishes (hs : List HeldWrite) {s : State} (hlen : s.tracker.areas.length = 33) : Publishes s (releaseHeld hs s) := by
  unfold releaseHeld
  induction hs generalizing s with
  | nil => exact .refl s
  | cons h rest ih =>
    have hjudge := judge_publishes h.txn (.write h.write) hlen
    exact hjudge.trans (ih (hjudge.areas.trans hlen))

theorem statusBody_of_blocksKept {s t : State} (h : BlocksKept s t) : statusBody t = statusBody s :=
  statusBody_congr (congrArg _ h.tracker) (congrArg _ h.tracker) (congrArg _ h.shadow) (congrArg _ h.tally) h.lineGuard h.inputs
    h.overrides h.skip h.intake

theorem startEvents_publishes (cause : StartCause) (s : State) : Publishes s (startEvents cause s) := by
  rw [startEvents_eq]
  have hkept := emitAll_blocksKept (entryEvents s.tracker.lug s.shadow.words s.shadow.entries cause s.shadow.report) s.withoutReport
  have hbody : statusBody s.withoutReport = statusBody s := rfl
  generalize emitAll (entryEvents s.tracker.lug s.shadow.words s.shadow.entries cause s.shadow.report) s.withoutReport = t at *
  exact .of_same hkept.tracker ((statusBody_of_blocksKept hkept).trans hbody) ((congrArg Shadow.part hkept.shadow).trans rfl)
    ((congrArg Shadow.entries hkept.shadow).trans rfl)

theorem enterRunning_shown (ld : Load) {s : State} (hlen : s.tracker.areas.length = 33) : Shown s (enterRunning ld s) := by
  have hentered : (entered s).tracker.areas.length = 33 := by simpa [entered] using hlen
  rw [enterRunning_eq]
  generalize entered s = e at *
  have hfirst : Shown s (publish s (startTally e)) := publish_shown (by simpa using hentered)
  have hareas : (publish s (startTally e)).tracker.areas.length = 33 := by
    rw [publish_areas_length]
    simpa using hentered
  have hrun : Publishes (publish s (startTally e)) (settle s e) := publish_publishes (by simp) hareas (by simp)
  have hevents := startEvents_publishes ld.cause (settle s e)
  exact ((hfirst.then hrun).then hevents).then (releaseHeld_publishes _ (hevents.areas.trans (hrun.areas.trans hareas)))

theorem endLoad_shown {s : State} (hlen : s.tracker.areas.length = 33) : Shown s (endLoad s) := by
  unfold endLoad
  split
  · split
    · exact .of_same rfl rfl
    · exact enterRunning_shown _ hlen
  · exact .of_same rfl rfl

theorem setupRead_shown (ld : Load) {s : State} (hlen : s.tracker.areas.length = 33) (hpart : s.shadow.part = .starting) :
    Shown s (setupRead ld s) := by
  simp only [setupRead]
  split <;> exact (endLoad_shown (by simpa using hlen)).from_starting (by simp) (by simp [hpart])

theorem headerReturned_shown (tally : Bool) {s : State} (hlen : s.tracker.areas.length = 33) : Shown s (headerReturned tally s) := by
  unfold headerReturned
  split
  · exact (endLoad_shown (by simpa using hlen)).from_same rfl rfl
  · exact .of_same rfl rfl

theorem eventHeaderRead_shown (p c : Word) {s : State} (hlen : s.tracker.areas.length = 33) : Shown s (eventHeaderRead p c s) := by
  have hstatus : statusBody (takeEventHeader p c s) = statusBody s :=
    statusBody_congr (by simp) (by simp) (by simp) (by simp) (by simp) (by simp) (by simp) (by simp) (by simp)
  simp only [eventHeaderRead]
  split
  · exact (headerReturned_shown false (by simpa using hlen)).from_same (by simp) hstatus
  · exact .of_same (by simp) hstatus

theorem tallyHeaderRead_shown (w : Word) {s : State} (hlen : s.tracker.areas.length = 33)
    (hload : s.shadow.load ≠ none → s.shadow.part = .starting) : Shown s (tallyHeaderRead w s) := by
  unfold tallyHeaderRead
  split
  · next ld hld =>
    have hpart : s.shadow.part = .starting := hload (by simp [hld])
    exact (headerReturned_shown true (by simpa using hlen)).from_starting (by simp) (by simp [hpart])
  · exact .of_same rfl rfl

theorem finishReset_publishes (s : State) : (finishReset s).shadow.part ≠ .running ∨ Publishes s (finishReset s) := by
  unfold finishReset
  split
  · exact .inl (by simp [(beginLoad_values ..).1])
  · exact .inl (by simp [(beginLoad_values ..).1])
  · refine .inr ⟨rfl, by simp [State.setArea], .of_same rfl rfl, fun _ k hk => ?_,
      fun _ h hn => absurd h hn⟩
    rcases area_of_set (s := s) (t := s.setArea 32 { s.area 32 with pub := .writingDirty }) rfl k with h | ⟨-, h⟩
    · exact fun hidle => hk ((congrArg Area.pub h).symm.trans hidle)
    · exact fun hidle => by cases (congrArg Area.pub h).symm.trans hidle

/-- R164: a line reset that goes on leaves the part in start-up, or notes the status block. -/
theorem drainStep_shown {s t : State} (h : Shown s t) : Shown s (drainStep t) := by
  unfold drainStep
  split
  · rcases finishReset_publishes t with hpart | hpublishes
    · exact .of_not_running hpart
    · exact h.then hpublishes
  · exact h

theorem startLineReset_shown (m : Master) (s : State) : Shown s (startLineReset m s) :=
  .of_not_running (by simp [(startLineReset_cleared m s).1])

theorem lugEvent_publishes (o : LugOrder) {s : State} (hlen : s.tracker.areas.length = 33) : Publishes s (lugEvent o s) := by
  rw [lugEvent_eq]
  have hareas : (lugBlocks o s).tracker.areas = s.tracker.areas := by simp [lugBlocks]
  have hpart : (lugBlocks o s).shadow.part = s.shadow.part := by simp [lugBlocks]
  generalize lugBlocks o s = x at *
  exact (settle_publishes hareas hlen hpart).trans (.of_same (by simp) (statusBody_congr (by simp) (by simp) (by simp) (by simp) (by simp)
    (by simp) (by simp) (by simp) (by simp)) (by simp) (by simp))

theorem filterStep_shown (p : Input) (f : Filter) (o : LugOrder) {s : State} (hlen : s.tracker.areas.length = 33) :
    Shown s (filterStep p f o s) := by
  unfold filterStep
  split
  · next hbrings =>
    have hp : p = .lug := by
      simp only [bringsLugEvent, Bool.and_eq_true, beq_iff_eq] at hbrings
      exact hbrings.1.1.1
    subst hp
    exact (lugEvent_publishes o (s := s.setFilter .lug f) hlen).shown.from_same rfl rfl
  · exact (settle_publishes (s0 := s) (s1 := s.setFilter p f) rfl hlen rfl).shown

theorem completeIntake_shown {s : State} (hlen : s.tracker.areas.length = 33) : Shown s (completeIntake s) := by
  unfold completeIntake
  split
  · exact .of_same rfl rfl
  · simp only
    split
    · exact .of_same rfl rfl
    · split <;> exact (settle_publishes (by simp) hlen (by simp)).shown

theorem completeReadback_shown (w0 w1 w2 : Word) {s : State} (hlen : s.tracker.areas.length = 33) :
    Shown s (completeReadback w0 w1 w2 s) := by
  unfold completeReadback
  split
  · next p rest _ _ =>
    simp only
    generalize hx : ({ s with overrides := { s.overrides with fifo := rest, readback := .idle } } : State) = x
    have hareas : x.tracker.areas = s.tracker.areas := hx ▸ rfl
    have hpart : x.shadow.part = s.shadow.part := hx ▸ rfl
    have hsettle : Publishes s (settle s (judgeEntry p w0 w1 w2 x).1) := settle_publishes (by simp [hareas]) hlen (by simp [hpart])
    exact hsettle.shown.then (.of_same (by simp) (statusBody_congr (by simp) (by simp) (by simp) (by simp) (by simp)
      (by simp) (by simp) (by simp) (by simp)) (by simp) (by simp))
  · exact .of_same rfl rfl

theorem tallyReadsDone_bank (s : State) : (tallyReadsDone s).tally.bank = s.tally.bank := by
  have hset : ∀ (t : Tally) b v, (t.setSaturated b v).bank = t.bank := fun t b v => by
    unfold Tally.setSaturated
    split <;> rfl
  unfold tallyReadsDone markSaturated
  split
  · split
    · split
      · simp
      · simp [hset]
    · simp
  · rfl

theorem tallyRead_shown (last : Bool) (ws : List Word) (s : State) : Shown s (tallyRead last ws s) := by
  unfold tallyRead
  split
  · simp only
    split
    · refine .of_same (by simp) (statusBody_congr (by simp) (by simp) (by simp) ?_ (by simp) (by simp) (by simp) (by simp) (by simp))
      exact (tallyReadsDone_bank _).trans rfl
    · exact .of_same rfl rfl
  · exact .of_same rfl rfl

theorem tallyUpdateDone_shown {s : State} (hlen : s.tracker.areas.length = 33) : Shown s (tallyUpdateDone s) := by
  unfold tallyUpdateDone
  split
  · simp only
    split
    · exact drainStep_shown (settle_publishes (by simp) hlen (by simp)).shown
    · exact drainStep_shown (settle_publishes (by simp) hlen (by simp)).shown
  · exact .of_same rfl rfl

theorem zeroingWritten_shown (i : Nat) {s : State} (hlen : s.tracker.areas.length = 33) : Shown s (zeroingWritten i s) := by
  unfold zeroingWritten
  split
  · split
    · split
      · exact .of_same rfl rfl
      · exact drainStep_shown (settle_publishes (by simp) hlen (by simp)).shown
    · exact .of_same rfl rfl
  · exact .of_same rfl rfl

theorem formatWordRead_shown (w : Word) (s : State) : Shown s (formatWordRead w s) := by
  unfold formatWordRead
  split
  · split
    · exact .of_same rfl rfl
    · exact .of_not_running (by simp [enterTransparent])
  · exact .of_same rfl rfl

theorem loadSetupRead_shown (last : Bool) (ws : List Word) {s : State} (hlen : s.tracker.areas.length = 33)
    (hload : s.shadow.load ≠ none → s.shadow.part = .starting) : Shown s (loadSetupRead last ws s) := by
  unfold loadSetupRead
  split
  · next ld hld =>
    have hpart : s.shadow.part = .starting := hload (by simp [hld])
    simp only
    generalize ({ ld with words := ld.words ++ ws } : Load) = ld'
    have hx : ∀ x : State, x = { s with shadow := { s.shadow with load := some ld' } } →
        x.tracker = s.tracker ∧ x.shadow.part = s.shadow.part ∧ statusBody x = statusBody s := fun x h => h ▸ ⟨rfl, rfl, rfl⟩
    generalize ({ s with shadow := { s.shadow with load := some ld' } } : State) = x at *
    obtain ⟨htracker, hsame, hbody⟩ := hx x rfl
    split
    · exact (setupRead_shown _ (htracker ▸ hlen) (hsame.trans hpart)).from_same (congrArg _ htracker) hbody
    · exact .of_same (congrArg _ htracker) hbody
  · exact .of_same rfl rfl

theorem statusBody_beginMirror (k : Nat) (s : State) : statusBody (beginMirror k s) = statusBody s :=
  statusBody_congr (by simp) (by simp) (by simp) (by simp) (by simp) (by simp) (by simp) (by simp) (by simp)

theorem mirrorClosed_shown (k : Nat) (s : State) : Shown s (mirrorClosed k s) := by
  have hbegun : ∀ x : State, x.tracker.records = s.tracker.records → statusBody x = statusBody s → Shown s (beginMirror k x) :=
    fun x hrecords hbody => .of_same (by simp [hrecords]) ((statusBody_beginMirror k x).trans hbody)
  simp only [mirrorClosed]
  split
  · exact .of_same rfl rfl
  · exact .of_same rfl rfl
  · split
    · exact .of_not_running (by simp [(beginLoad_values ..).1])
    · exact hbegun _ rfl rfl

theorem frameTrailerRead_shown (t : Word) {s : State} (hlen : s.tracker.areas.length = 33) : Shown s (frameTrailerRead t s) := by
  unfold frameTrailerRead
  split
  · next e _ =>
    simp only
    split
    · exact (completeIntake_shown (s := setEngine { e with trailer := t } s) hlen).from_same rfl rfl
    · exact .of_same rfl rfl
  · exact .of_same rfl rfl

theorem frameSlicesRead_shown (last : Bool) (ws : List Word) {s : State} (hlen : s.tracker.areas.length = 33) :
    Shown s (frameSlicesRead last ws s) := by
  unfold frameSlicesRead
  split
  · next e _ =>
    simp only
    split
    · exact (completeIntake_shown (s := setEngine { e with slices := e.slices ++ ws } s) hlen).from_same rfl rfl
    · exact .of_same rfl rfl
  · exact .of_same rfl rfl

theorem chassisDone_shown (txn : Nat) (m : Master) (format : Bool) (reply : Reply) (s : State) :
    Shown s (chassisDone txn m format reply s) := by
  simp only [chassisDone]
  split
  · unfold formatWordWritten
    split
    · exact .of_not_running (by simp [(beginLoad_values ..).1])
    · exact .of_same rfl rfl
  · exact .of_same rfl rfl

/-- R181: what a completed burst means to its block is published. -/
theorem afterBurst_shown (b : Burst) (ws : List Word) {s : State} (hlen : s.tracker.areas.length = 33)
    (hload : s.shadow.load ≠ none → s.shadow.part = .starting) : Shown s (afterBurst b ws s) := by
  unfold afterBurst
  split
  case h_1 => exact chassisDone_shown ..
  case h_2 => exact .of_same rfl rfl
  case h_3 k closing _ =>
    split
    · exact mirrorClosed_shown k s
    · exact .of_same rfl rfl
  case h_4 =>
    unfold lineResetDone
    split
    · exact startLineReset_shown ..
    · exact .of_same rfl rfl
  case h_5 => exact formatWordRead_shown ..
  case h_6 => exact loadSetupRead_shown _ _ hlen hload
  case h_7 => exact eventHeaderRead_shown _ _ hlen
  case h_8 => exact tallyHeaderRead_shown _ hlen hload
  case h_9 =>
    unfold frameHeadRead
    split <;> exact .of_same rfl rfl
  case h_10 => exact frameTrailerRead_shown _ hlen
  case h_11 => exact frameSlicesRead_shown _ _ hlen
  case h_12 => exact completeReadback_shown _ _ _ hlen
  case h_13 => exact tallyRead_shown ..
  case h_14 =>
    split
    · exact tallyUpdateDone_shown hlen
    · exact .of_same rfl rfl
  case h_15 => exact zeroingWritten_shown _ hlen

theorem completeClose_shown {s : State} (hlen : s.tracker.areas.length = 33) : Shown s (completeClose s) := by
  unfold completeClose
  split
  · exact .of_same rfl rfl
  · simp only
    split
    · split <;> exact (settle_publishes (by simp) hlen (by simp)).shown
    · exact .of_same rfl rfl

theorem completeRun_shown {s : State} (hlen : s.tracker.areas.length = 33) : Shown s (completeRun s) := by
  unfold completeRun
  split
  · exact .of_same rfl rfl
  · simp only
    split
    · split <;> exact (settle_publishes (by simp) hlen (by simp)).shown
    · exact (settle_publishes (by exact rfl) hlen (by exact rfl)).shown

theorem arrive_shown (x : Transaction) {s : State} (hlen : s.tracker.areas.length = 33) : Shown s (arrive x s) := by
  have hpass : ∀ watched, Shown s (pass s.bus.nextTxn x watched s.numbered) := fun _ => .of_same rfl rfl
  have hrefused : (refuse s.bus.nextTxn x s.numbered).tracker.records = s.tracker.records ∧
      statusBody (refuse s.bus.nextTxn x s.numbered) = statusBody s := ⟨rfl, rfl⟩
  rw [arrive_eq]
  split
  · exact .of_same hrefused.1 hrefused.2
  · split
    · split
      · split
        · exact .of_same rfl rfl
        · exact hpass _
      · exact hpass _
    · split <;> exact hpass _
    · exact (judge_publishes _ x (s := s.numbered) hlen).shown.from_same rfl rfl

theorem effect_shown {s y : State} (hs : s.Sized) (hload : s.shadow.load ≠ none → s.shadow.part = .starting) (h : Effect s y) :
    Shown s y := by
  have hlen : s.tracker.areas.length = 33 := hs.areas
  cases h with
  | idle => exact .of_same rfl rfl
  | rawLevel p l _ => exact .of_same rfl (by cases p <;> rfl)
  | filter p f o => exact filterStep_shown p f o hlen
  | assertReset =>
    unfold assertReset
    split
    · exact .of_same rfl rfl
    · exact .of_not_running (by simp)
  | releaseReset =>
    unfold releaseReset
    split
    · exact .of_not_running (by simp [State.reset, Shadow.powerOn])
    · exact .of_same rfl rfl
  | arrive x _ => exact arrive_shown x hlen
  | startIntake =>
    unfold startIntake
    repeat' split
    all_goals exact .of_same rfl rfl
  | startReadback =>
    unfold startReadback
    repeat' split
    all_goals exact .of_same rfl rfl
  | port b _ => exact (afterBurst_shown b _ (s := landBurst b s) hlen hload).from_same rfl rfl
  | close _ => exact completeClose_shown hlen
  | run _ => exact completeRun_shown hlen
  | hold _ h _ => exact (settle_publishes (by simp) hlen (by simp)).shown
  | sawTest _ => exact (settle_publishes (by simp) hlen (by simp)).shown

/-- R15, R16: every command that leaves the part RUNNING with a RECORD window has begun or noted a write of what it changed. -/
theorem exec_shown {c : Instr} {s t : State} (hs : s.Sized) (hload : s.shadow.load ≠ none → s.shadow.part = .starting)
    (h : exec c s = .next t) : Shown s t := by
  obtain ⟨y, heffect, rfl⟩ := exec_effect h
  exact (effect_shown hs hload heffect).to_same (by simp)
    (statusBody_congr (by simp) (by simp) (by simp) (by simp) (by simp) (by simp) (by simp) (by simp) (by simp)) (by simp)

/-- Settles O34: `mirrorClosed_spec` and `mirrorClosed_due` for the end of a write, `publishArea_spec` for one area, `exec_shown` for every
command, `mirrorLayout`, `statusLayout` and `mirrorBursts_words` for what is written. -/
theorem mirrorWriteCompletes : Obligations.MirrorWriteCompletes := by
  unfold Obligations.MirrorWriteCompletes
  refine ⟨fun s addr beats k hs hk hport hdue => ?_, fun s addr beats w hs hport hdue hdirty hw => ?_, fun s k hs hk => ?_,
    fun c s t hs hload hexec hrun hw => ?_, ⟨rfl, rfl, rfl⟩, fun r => ⟨recordBody_length r, mirrorLayout r⟩,
    fun s => ⟨statusBody_length s, statusLayout s⟩, fun _ _ => rfl,
    fun w k count body a hbody ha => mirrorBursts_words w k count body a hbody ha⟩
  · have hlen : k < s.tracker.areas.length := by
      rw [hs.areas]
      exact Nat.lt_succ_of_le hk
    refine ⟨_, exec_mirrorWriteComplete hport, ?_⟩
    have hspec := mirrorClosed_spec (s := landBurst { addr := addr, access := .write beats, purpose := .mirror k true } s) hlen hdue
    have hother := fun j (hj : j ≠ k) =>
      mirrorClosed_area_ne (landBurst { addr := addr, access := .write beats, purpose := .mirror k true } s) hj
    have hl : ∀ l : State, l = landBurst { addr := addr, access := .write beats, purpose := .mirror k true } s →
        l.bus.mem = Memory.writeBeats s.bus.mem addr.toNat beats ∧ l.tracker = s.tracker ∧ l.shadow = s.shadow ∧
        l.bus.answers = s.bus.answers ∧ l.bus.internal = s.bus.internal ∧ areaBody l k = areaBody s k := fun l hl => by
      subst hl
      exact ⟨rfl, rfl, rfl, rfl, rfl, rfl⟩
    generalize landBurst { addr := addr, access := .write beats, purpose := .mirror k true } s = l at *
    obtain ⟨hmem, htracker, hshadow, hanswers, hinternal, hbody⟩ := hl l rfl
    obtain ⟨hwriting, hdirty, hbare, hkept⟩ := hspec
    have harea : ∀ j, l.area j = s.area j := area_of_areas (congrArg _ htracker)
    simp only [harea, hinternal, hbody] at hwriting hdirty hbare hother
    have hwindow : l.window .record = s.window .record := congrArg (fun x : Shadow => windowOf x.entries .record) hshadow
    rw [hwindow] at hdirty hbare
    exact ⟨by simpa using hmem, hwriting, hdirty, hbare, hother, by simpa using congrArg Tracker.records htracker, hkept.trans hshadow,
      by simpa using hanswers⟩
  · have hlen : 32 < s.tracker.areas.length := by
      rw [hs.areas]
      decide
    obtain ⟨hinternal, harea, hpart, hphase, hload, hmem⟩ := mirrorClosed_due
      (s := landBurst { addr := addr, access := .write beats, purpose := .mirror 32 true } s) hlen hdue hdirty hw
    refine ⟨_, s.bus.internal.map loadOrphan, exec_mirrorWriteComplete hport, hmem.trans rfl, hinternal, ?_, harea, hpart, hphase, hload⟩
    simp [Function.comp_def]
  · obtain ⟨hbegins, hbare, hnoted⟩ := publishArea_spec hs hk
    exact ⟨hbegins, hbare, hnoted, fun j hj => publishArea_area_ne s hj, by simp⟩
  · have hshown := exec_shown hs hload hexec
    exact ⟨hshown.records hrun hw, hshown.status hrun hw⟩

end Sys2Proof.Machine
end

section
/-! The last read of an intake judges the frame (O39). -/

namespace Sys2Proof.Machine

/-! ### The words of a frame slot -/

theorem lugTag_toNat (w : Word) : (lugTag w).toNat = w.toNat % 65536 := by
  simp [lugTag, bits]

theorem slicesOf_getElem? (ws : List Word) (i : Nat) (h : 2 * i + 1 < ws.length) :
    (slicesOf ws)[i]? = some (sliceOf (ws.getD (2 * i) 0) (ws.getD (2 * i + 1) 0)) := by
  induction i generalizing ws with
  | zero =>
    match ws, h with
    | w0 :: w1 :: rest, _ => rfl
  | succ i ih =>
    match ws, h with
    | w0 :: w1 :: rest, h =>
      have hrest := ih rest (by simp only [List.length_cons] at h; omega)
      have hfirst : 2 * (i + 1) = 2 * i + 2 := by omega
      simpa [slicesOf, hfirst] using hrest

theorem frameLayout : FrameLayout where
  lug := lugTag_toNat
  count w := by simp [headerCount, bits]
  complete w := by
    simp only [trailerComplete, bit, BitVec.getLsbD, Nat.testBit_eq_decide_div_mod_eq]
    have := w.isLt
    congr 1
    refine propext ⟨fun h => ?_, fun h => ?_⟩ <;> omega
  form h x y := by
    have hx := x.isLt
    have hmarker : headerMarker x = x.toNat / 65536 := by
      simp only [headerMarker, bits]
      omega
    simp [badFrame, hmarker, headerHead, trailerCount, headerCount, bits, Config.frameMarker]
  slice x y := by
    have hx := x.isLt
    have hy := y.isLt
    have hsize : bits y 20 12 = y.toNat / 2 ^ 20 := by
      simp only [bits]
      omega
    have hstart : bit x 31 = decide (2 ^ 31 ≤ x.toNat) := by
      simp only [bit, BitVec.getLsbD, Nat.testBit_eq_decide_div_mod_eq]
      congr 1
      refine propext ⟨fun h => ?_, fun h => ?_⟩ <;> omega
    rw [sliceOf, hsize, hstart]
    simp [bits]
  frame e i hi hcount := by
    have hused : slicesUsed e.header = min (e.header.toNat % 256) 120 := by simp [slicesUsed, headerCount, bits, Config.maxSlices]
    rw [IntakeRun.frame, slicesOf_getElem?]
    · simp only [List.getD_eq_getElem?_getD, List.getElem?_take, hused]
      rw [if_pos (by omega), if_pos (by omega)]
    · rw [List.length_take, hused]
      omega

/-! ### The judgement of an entry -/

/-- What the last read of an intake finds: the port free, and the engine idle. -/
def State.intakeTaken (s : State) : State :=
  { s with bus := { s.bus with port := none }, intake := { s.intake with engine := none } }

/-- R31-R36, R40: the judgement of an entry of either kind. -/
def judgeFrame (e : IntakeRun) (s : State) : State := match e.kind with
  | .fresh => judgeFresh e s
  | .readBack lug => judgeReadBack e lug s

theorem completeIntake_eq {s : State} {e : IntakeRun} (h : s.intake.engine = some e) : completeIntake s =
    if e.dropped then { s with intake := { s.intake with engine := none } }
    else settle s (judgeFrame e { s with intake := { s.intake with engine := none } }) := by
  simp only [completeIntake, h]
  rfl

theorem exec_intakeComplete {s : State} {e : IntakeRun} (h : IntakeEnds s e) : ∃ s0, exec .intakeComplete s =
    .next (finish (if e.dropped then s.intakeTaken else settle s0 (judgeFrame e s.intakeTaken))) := by
  obtain ⟨b, g, hport, hengine, hlast⟩ := h
  refine ⟨setEngine e (landBurst b s), ?_⟩
  have hmem : landBurst b s = { s with bus := { s.bus with port := none } } := by
    obtain ⟨n, hread⟩ : ∃ n, b.access = .read n := by
      rcases hlast with ⟨n, -, h, -⟩ | ⟨-, h, -⟩
      · exact ⟨n, h⟩
      · exact ⟨1, h⟩
    simp [landBurst, Burst.perform, hread]
  have hcomplete : completeIf endsIntake s = completeIntake (setEngine e (landBurst b s)) := by
    rcases hlast with ⟨n, hpurpose, haccess, he⟩ | ⟨hpurpose, haccess, he, hno⟩
    · rw [completeIf_of_port hport (by simp [endsIntake, hpurpose, hengine])]
      simp only [afterBurst, hpurpose, frameSlicesRead, landBurst_frame, hengine, if_true, he]
      simp [Burst.perform, haccess]
    · have hword : (Burst.perform s.bus.mem b).2.getD 0 0 = e.trailer := by
        simp [Burst.perform, haccess, readWords_one, he]
      rw [completeIf_of_port hport (by simp only [endsIntake, hpurpose, hengine, returnedWord, hword]; exact hno)]
      simp only [afterBurst, hpurpose, hword, frameTrailerRead, landBurst_frame, hengine]
      rw [if_pos hno, he]
  show done (completeIf endsIntake s) = _
  rw [hcomplete, completeIntake_eq rfl, hmem]
  rfl

theorem judgeFrame_bad {e : IntakeRun} {cause : Nat} (x : State) (hkind : e.kind = .fresh)
    (hbad : badFrame e.head e.header e.trailer = some cause) : judgeFrame e x =
      emit (event .frame 3 (lugTag e.lugWord) (pair e.head e.slot) (single cause))
        (leaveByJudgement e (setFrameSlot e.head e.slot .free x)) := by
  simp only [judgeFrame, hkind, judgeFresh, hbad]

theorem judgeFrame_merged {e : IntakeRun} {x : State} (hkind : e.kind = .fresh) (hform : badFrame e.head e.header e.trailer = none)
    (htakes : mergesInto x (lugTag e.lugWord) = true) : judgeFrame e x =
      leaveByJudgement e (emitTruncated e (lugTag e.lugWord) (mergeFresh e (lugTag e.lugWord) x)) := by
  simp only [judgeFrame, hkind, judgeFresh, hform, htakes, if_true]

theorem judgeFrame_discarded {e : IntakeRun} {x : State} (hkind : e.kind = .fresh) (hform : badFrame e.head e.header e.trailer = none)
    (htakes : ¬ mergesInto x (lugTag e.lugWord) = true) : judgeFrame e x =
      leaveByJudgement e (discardFresh e (lugTag e.lugWord) x) := by
  simp only [judgeFrame, hkind, judgeFresh, hform, htakes, if_false, Bool.false_eq_true]

theorem judgeFrame_again {e : IntakeRun} {x : State} {lug : Lug} (hkind : e.kind = .readBack lug)
    (hclosing : (x.record (slotOf lug)).state = .closing ∧ (x.record (slotOf lug)).lug = lug)
    (hform : badFrame e.head e.header e.trailer = none ∧ lugTag e.lugWord = lug) : judgeFrame e x =
      leaveByJudgement e (emitTruncated e lug
        (x.setRecord (slotOf lug) (mergeFrame x.shadow.words e.head e.frame (x.record (slotOf lug))))) := by
  simp only [judgeFrame, hkind, judgeReadBack]
  rw [if_pos hclosing, if_pos hform]

theorem judgeFrame_failed {e : IntakeRun} {x : State} {lug : Lug} (hkind : e.kind = .readBack lug)
    (hclosing : (x.record (slotOf lug)).state = .closing ∧ (x.record (slotOf lug)).lug = lug)
    (hform : ¬ (badFrame e.head e.header e.trailer = none ∧ lugTag e.lugWord = lug)) : judgeFrame e x =
      leaveByJudgement e (failReadBack e lug x) := by
  simp only [judgeFrame, hkind, judgeReadBack]
  rw [if_pos hclosing, if_neg hform]

theorem judgeFrame_gone {e : IntakeRun} {x : State} {lug : Lug} (hkind : e.kind = .readBack lug)
    (hclosing : ¬ ((x.record (slotOf lug)).state = .closing ∧ (x.record (slotOf lug)).lug = lug)) : judgeFrame e x =
      leaveByJudgement e x := by
  simp only [judgeFrame, hkind, judgeReadBack]
  rw [if_neg hclosing]

/-! ### What every judgement does -/

theorem leaveByJudgement_congr (e : IntakeRun) {x z : State} (hqueue : z.intake.queue = x.intake.queue) (hmeasure : z.measure = x.measure)
    (hlug : z.tracker.lug = x.tracker.lug) : (leaveByJudgement e z).intake.queue = (leaveByJudgement e x).intake.queue ∧
      (leaveByJudgement e z).measure = (leaveByJudgement e x).measure := by
  simp [leaveByJudgement, leaveIntakeQueue, hqueue, hmeasure, hlug]

theorem leaveByJudgement_queue (e : IntakeRun) (x : State) :
    (leaveByJudgement e x).intake.queue = x.intake.queue.filter fun y => y.key != (e.head, e.slot) := rfl

/-- R30: whatever the judgement, the entries of the frame slot leave the intake queue, and the marks pass on. -/
theorem judgeFrame_leaves (e : IntakeRun) (x : State) : (judgeFrame e x).intake.queue = (leaveByJudgement e x).intake.queue ∧
    (judgeFrame e x).measure = (leaveByJudgement e x).measure := by
  unfold judgeFrame
  split
  · simp only [judgeFresh]
    split
    · simp only [emit_frame]
      exact leaveByJudgement_congr e (by simp) (by simp) (by simp)
    · split <;> exact leaveByJudgement_congr e (by simp) (by simp) (by simp)
  · simp only [judgeReadBack]
    split
    · split
      · exact leaveByJudgement_congr e (by simp) (by simp) (by simp)
      · exact leaveByJudgement_congr e (by simp) (by simp) (by simp)
    · exact ⟨rfl, rfl⟩

theorem mergesInto_iff (s : State) (lug : Lug) : mergesInto s lug = true ↔ (s.record (slotOf lug)).lug = lug ∧
    ((s.record (slotOf lug)).state = .scanning ∨ ((s.record (slotOf lug)).state = .closing ∧
      ∃ c ∈ s.measure.awaiting, c.slot = slotOf lug ∧ c.lug = lug ∧ c.rescan = false)) := by
  simp [mergesInto, and_assoc]

theorem mergeFresh_room {e : IntakeRun} {lug : Lug} {s : State} (h : (s.record (slotOf lug)).held.length < 12) : mergeFresh e lug s =
    s.setRecord (slotOf lug) { mergeFrame s.shadow.words e.head e.frame (s.record (slotOf lug)) with
      held := (s.record (slotOf lug)).held ++ [(e.head, e.slot)] } := by
  obtain ⟨-, -, hheld⟩ := mergeFrame_state s.shadow.words e.head e.frame (s.record (slotOf lug))
  simp only [mergeFresh, hheld]
  exact if_pos h

theorem mergeFresh_full {e : IntakeRun} {lug : Lug} {s : State} (h : 12 ≤ (s.record (slotOf lug)).held.length) : mergeFresh e lug s =
    setFrameSlot e.head e.slot .free
      (s.setRecord (slotOf lug) (mergeFrame s.shadow.words e.head e.frame (s.record (slotOf lug)))) := by
  obtain ⟨-, -, hheld⟩ := mergeFrame_state s.shadow.words e.head e.frame (s.record (slotOf lug))
  simp only [mergeFresh, hheld]
  exact if_neg (Nat.not_lt.2 h)

/-- A judgement writes at most the record of its lug, and leaves that record in its state. -/
theorem judgeFrame_record {e : IntakeRun} {lug : Lug} {s : State} (hlen : s.tracker.records.length = 32)
    (hfresh : e.kind = .fresh → lug = lugTag e.lugWord) (hagain : e.kind ≠ .fresh → e.kind = .readBack lug) :
    ∃ r, r.state = (s.record (slotOf lug)).state ∧ (judgeFrame e s).tracker.records = (s.setRecord (slotOf lug) r).tracker.records := by
  have hmerged := (mergeFrame_state s.shadow.words e.head e.frame (s.record (slotOf lug))).1
  have hsame : ∀ t : State, t.tracker.records = s.tracker.records →
      t.tracker.records = (s.setRecord (slotOf lug) (s.record (slotOf lug))).tracker.records := fun t h => by
    have hk : slotOf lug < s.tracker.records.length := hlen ▸ slotOf_lt lug
    rw [h]
    simp [State.setRecord, State.record, List.getD_eq_getElem?_getD, hk]
  by_cases hkind : e.kind = .fresh
  · obtain rfl := hfresh hkind
    cases hbad : badFrame e.head e.header e.trailer with
    | some cause => exact ⟨_, rfl, hsame _ (by simp [judgeFrame_bad s hkind hbad])⟩
    | none =>
      by_cases htakes : mergesInto s (lugTag e.lugWord) = true
      · rw [judgeFrame_merged hkind hbad htakes]
        rcases Nat.lt_or_ge (s.record (slotOf (lugTag e.lugWord))).held.length 12 with hroom | hfull
        · refine ⟨{ mergeFrame s.shadow.words e.head e.frame (s.record (slotOf (lugTag e.lugWord))) with
            held := (s.record (slotOf (lugTag e.lugWord))).held ++ [(e.head, e.slot)] }, hmerged, ?_⟩
          rw [mergeFresh_room hroom]
          simp
        · exact ⟨_, hmerged, by rw [mergeFresh_full hfull]; simp⟩
      · exact ⟨_, rfl, hsame _ (by simp [judgeFrame_discarded hkind hbad htakes])⟩
  · have hkind := hagain hkind
    by_cases hclosing : (s.record (slotOf lug)).state = .closing ∧ (s.record (slotOf lug)).lug = lug
    · by_cases hform : badFrame e.head e.header e.trailer = none ∧ lugTag e.lugWord = lug
      · exact ⟨_, hmerged, by simp [judgeFrame_again hkind hclosing hform]⟩
      · refine ⟨{ s.record (slotOf lug) with
          rescanFailed := true, held := (s.record (slotOf lug)).held.filter fun p => p != (e.head, e.slot) }, rfl, ?_⟩
        simp [judgeFrame_failed hkind hclosing hform, failReadBack]
    · exact ⟨_, rfl, hsame _ (by simp [judgeFrame_gone hkind hclosing])⟩

/-- A record that is not QUEUED holds, once the change is settled, what the change wrote. -/
theorem settle_record_written {s0 s y : State} {k : Nat} {r : Record} (hs : s.TableSound) (hk : k < 32)
    (hstate : (s.record k).state ≠ .queued) (hr : r.state = (s.record k).state)
    (hrecords : y.tracker.records = (s.setRecord k r).tracker.records) (hqueue : y.optimizer.queue = s.optimizer.queue) :
    (settle s0 y).record k = r := by
  refine (settle_after_record hs.sized.records hk hs.queue hrecords (hqueue ▸ .refl _) fun d hd hslot => ?_).2.2.1 (hr ▸ hstate)
  rw [hr, ← hslot]
  exact (hs.queue.2 d (hqueue ▸ hd)).2

theorem frameSlot_settle (s0 y : State) (h i : Nat) : frameSlot (settle s0 y) h i = frameSlot y h i :=
  frameSlot_congr (by simp) h i

theorem frameSlot_freed {s t : State} {e : IntakeRun} (h : t.intake.tables = (setFrameSlot e.head e.slot .free s).intake.tables) :
    frameSlot t e.head e.slot = (frameSlot s e.head e.slot).map (fun _ => .free) ∧
      ∀ h' i', (h', i') ≠ (e.head, e.slot) → frameSlot t h' i' = frameSlot s h' i' := by
  have heq : ∀ h' i', frameSlot t h' i' = frameSlot (setFrameSlot e.head e.slot .free s) h' i' := frameSlot_congr h
  refine ⟨?_, fun h' i' hne => ?_⟩
  · rw [heq, frameSlot_setFrameSlot_eq, if_pos ⟨rfl, rfl⟩]
  · rw [heq, frameSlot_setFrameSlot_eq, if_neg fun hb => hne (Prod.ext hb.1 hb.2)]

theorem setFrameSlot_tables_congr {s t : State} (h : t.intake.tables = s.intake.tables) (a i : Nat) (x : SlotState) :
    (setFrameSlot a i x t).intake.tables = (setFrameSlot a i x s).intake.tables := by
  rw [setFrameSlot_tables, setFrameSlot_tables, h]

/-- A judgement touches no frame slot but that of its entry. -/
theorem judgeFrame_otherSlots (e : IntakeRun) (s : State) {h i : Nat} (hne : (h, i) ≠ (e.head, e.slot)) :
    frameSlot (judgeFrame e s) h i = frameSlot s h i := by
  have hcases : (judgeFrame e s).intake.tables = s.intake.tables ∨
      (judgeFrame e s).intake.tables = (setFrameSlot e.head e.slot .free s).intake.tables := by
    unfold judgeFrame
    split
    · simp only [judgeFresh]
      split
      · exact .inr (by simp)
      · split
        · simp only [leaveByJudgement_frame, emitTruncated_frame, mergeFresh]
          split
          · exact .inl (by simp)
          · exact .inr (setFrameSlot_tables_congr (by simp) ..)
        · simp only [leaveByJudgement_frame, discardFresh]
          split <;> exact .inr (by simp)
    · simp only [judgeReadBack]
      split
      · split
        · exact .inl (by simp)
        · simp only [leaveByJudgement_frame, failReadBack, emit_frame]
          exact .inr (setFrameSlot_tables_congr (by simp) ..)
      · exact .inl (by simp)
  rcases hcases with htables | htables
  · exact frameSlot_congr htables h i
  · exact (frameSlot_freed htables).2 h i hne

theorem emitTruncated_events (e : IntakeRun) (lug : Lug) (s : State) : EventsWritten (if 120 < headerCount e.header
    then [event .frame 4 lug (pair e.head e.slot) (single (headerCount e.header))] else []) s (emitTruncated e lug s) := by
  have htruncated : truncated e.header = true ↔ 120 < headerCount e.header := by simp [truncated, Config.maxSlices]
  unfold emitTruncated
  by_cases h : 120 < headerCount e.header
  · rw [if_pos h, if_pos (htruncated.2 h)]
    exact eventsWritten_emit _ s
  · rw [if_neg h, if_neg fun ht => h (htruncated.1 ht)]
    exact eventsWritten_nil rfl (.refl s)

theorem leaveByJudgement_events {es : List Event} {s t : State} (e : IntakeRun) (h : EventsWritten es s t)
    (hwindow : t.window .event = s.window .event) : EventsWritten es s (leaveByJudgement e t) :=
  h.before rfl hwindow (grows_of_eq rfl)

/-- R34: a frame that is not merged gives one event and a note on the MISSYNC flag. -/
theorem discardFresh_spec {e : IntakeRun} {lug : Lug} {s : State} (hflags : s.lineGuard.flags.length = 6) :
    EventsWritten [if (s.record (slotOf lug)).live = true ∧ (s.record (slotOf lug)).lug = lug
      then event .frame 5 lug (pair e.head e.slot) (single (s.record (slotOf lug)).state.code)
      else event .frame 6 lug (pair e.head e.slot) (single s.tracker.lug.toNat)] s (discardFresh e lug s) ∧
    s.tracker.lug ∈ ((discardFresh e lug s).flag 1).notes := by
  have hstep : discardFresh e lug s = report .missync (emit (if (s.record (slotOf lug)).live = true ∧ (s.record (slotOf lug)).lug = lug
      then event .frame 5 lug (pair e.head e.slot) (single (s.record (slotOf lug)).state.code)
      else event .frame 6 lug (pair e.head e.slot) (single s.tracker.lug.toNat)) (setFrameSlot e.head e.slot .free s)) := by
    simp only [discardFresh, Bool.and_eq_true, beq_iff_eq, setFrameSlot_frame]
    split <;> rfl
  rw [hstep]
  generalize (if (s.record (slotOf lug)).live = true ∧ (s.record (slotOf lug)).lug = lug
    then event .frame 5 lug (pair e.head e.slot) (single (s.record (slotOf lug)).state.code)
    else event .frame 6 lug (pair e.head e.slot) (single s.tracker.lug.toNat)) = ev
  refine ⟨report_eventsWritten _ ((eventsWritten_emit ev _).after (by simp) (by simp [State.window]) (grows_of_eq (by simp)))
    (by simp [State.window]), ?_⟩
  rw [report_flag (by simpa using hflags)]
  have hindex : (1 : Nat) = GuardName.missync.index := rfl
  rw [if_pos hindex, mem_report_notes]
  exact .inr (by simp)

/-- Settles O39. -/
theorem intakeCompleteJudges : Obligations.IntakeCompleteJudges := by
  unfold Obligations.IntakeCompleteJudges
  refine ⟨⟨fun s e h hdropped => ?_, fun s e k lug takes hs h hdropped hfresh hagain hk htakes => ?_⟩, frameLayout⟩
  · obtain ⟨s0, hexec⟩ := exec_intakeComplete h
    rw [hdropped] at hexec
    exact ⟨_, hexec, rfl, rfl, rfl, rfl, rfl, rfl⟩
  obtain ⟨s0, hexec⟩ := exec_intakeComplete h
  simp only [hdropped, if_false, Bool.false_eq_true] at hexec
  have hx : ∀ x : State, x = s.intakeTaken → x.tracker = s.tracker ∧ x.shadow = s.shadow ∧ x.intake.queue = s.intake.queue ∧
      x.intake.tables = s.intake.tables ∧ x.intake.engine = none ∧ x.measure = s.measure ∧ x.lineGuard = s.lineGuard ∧
      x.events = s.events ∧ x.bus.internal = s.bus.internal ∧ x.bus.mem = s.bus.mem ∧ x.dispatch = s.dispatch ∧
      x.optimizer = s.optimizer := fun x h => h ▸ ⟨rfl, rfl, rfl, rfl, rfl, rfl, rfl, rfl, rfl, rfl, rfl, rfl⟩
  generalize s.intakeTaken = x at *
  obtain ⟨htracker, hshadow, hqueue, htables, hengine, hmeasure, hguard, hevents, hinternal, hmem, hdispatch, hoptimizer⟩ := hx x rfl
  subst hk
  have hrecord : ∀ j, x.record j = s.record j := record_of_records (congrArg _ htracker)
  have hset : ∀ r, (x.setRecord (slotOf lug) r).tracker.records = (s.setRecord (slotOf lug) r).tracker.records := fun r => by
    simp [State.setRecord, htracker]
  have htakes : takes ↔ mergesInto x lug = true := by rw [mergesInto_iff, hrecord, hmeasure]; exact htakes
  have hopen : takes → (s.record (slotOf lug)).state ≠ .queued := fun ht => by
    rcases ((mergesInto_iff ..).1 (htakes.1 ht)).2 with h | ⟨h, -⟩ <;> rw [hrecord] at h <;> simp [h]
  have hwindow : x.window .event = s.window .event := window_of_shadow hshadow _
  have heventsAfter : ∀ {es : List Event} {w : State}, EventsWritten es x w → w.shadow = x.shadow → EventsWritten es s (settle s0 w) :=
    fun h hw => (h.after hevents hwindow (grows_of_eq hinternal)).settle s0 (window_of_shadow (hw.trans hshadow) _)
  have hwritten : ∀ (r : Record) (w : State), (s.record (slotOf lug)).state ≠ .queued → r.state = (s.record (slotOf lug)).state →
      w.tracker.records = (x.setRecord (slotOf lug) r).tracker.records → w.optimizer.queue = x.optimizer.queue →
      (settle s0 w).record (slotOf lug) = r := fun r w hstate hr hrecords hq =>
    settle_record_written hs (slotOf_lt lug) hstate hr (hrecords.trans (hset r)) (hq.trans (congrArg _ hoptimizer))
  have hnone : ∀ w : State, w.tracker.records = x.tracker.records → w.optimizer.queue = x.optimizer.queue →
      othersKept s (settle s0 w) 32 := fun w hrecords hq j _ _ hj =>
    settle_after_none hs.sized.records hs.queue (hrecords.trans (congrArg _ htracker)) (hq.trans (congrArg _ hoptimizer)) j hj
  have hmerge := (mergeFrame_state s.shadow.words e.head e.frame (s.record (slotOf lug))).1
  have hslot : ∀ w : State, w.intake.tables = (setFrameSlot e.head e.slot .free x).intake.tables →
      frameSlot (settle s0 w) e.head e.slot = (frameSlot s e.head e.slot).map fun _ => .free := fun w hw => by
    rw [frameSlot_settle]
    exact (frameSlot_freed (hw.trans (setFrameSlot_tables_congr htables ..))).1
  have hclosing : (s.record (slotOf lug)).state = .closing → (s.record (slotOf lug)).lug = lug →
      (x.record (slotOf lug)).state = .closing ∧ (x.record (slotOf lug)).lug = lug := fun h1 h2 => by
    rw [hrecord]
    exact ⟨h1, h2⟩
  have hfailed : (badFrame e.head e.header e.trailer ≠ none ∨ lugTag e.lugWord ≠ lug) →
      ¬ (badFrame e.head e.header e.trailer = none ∧ lugTag e.lugWord = lug) := fun h hb => h.elim (· hb.1) (· hb.2)
  obtain ⟨hleft, hmarks⟩ := judgeFrame_leaves e x
  refine ⟨_, hexec, ?_, ?_, ?_, ?_, ?_, ?_, ?_, fun hkind hform ht hroom => ?_, fun hkind hform ht hfull => ?_, fun hkind hnot => ?_,
    fun hkind h1 h2 hform hlug => ?_, fun hkind h1 h2 hnot => ?_, fun hkind hnot => ?_, fun cause hkind hbad => ?_,
    fun hkind hform ht => ?_, fun hform hmerges => ?_, fun hkind h1 h2 hnot => ?_, fun h i hne => ?_⟩
  · unfold judgeFrame
    split <;> simp [hengine]
  · simp only [settle_frame, hleft, leaveByJudgement_queue, hqueue]
  · unfold judgeFrame
    split <;> simp [hmem]
  · unfold judgeFrame
    split <;> simp [hshadow]
  · unfold judgeFrame
    split <;> simp [hdispatch]
  · obtain ⟨r, hr, hrecords⟩ := judgeFrame_record (s := x) (htracker ▸ hs.sized.records) hfresh hagain
    rw [hrecord] at hr
    have hq : (judgeFrame e x).optimizer.queue = s.optimizer.queue := by
      unfold judgeFrame
      split <;> simp [hoptimizer]
    refine (settle_after_record hs.sized.records (slotOf_lt lug) hs.queue (hrecords.trans (hset r)) (hq ▸ .refl _) fun d hd hdk => ?_).2.1
    rw [hr, ← hdk]
    exact (hs.queue.2 d (hq ▸ hd)).2
  · have hpassed := leaveIntakeQueue_marksPassed (fun y => y.key == (e.head, e.slot)) x
    rw [hqueue, htracker, hmeasure] at hpassed
    simp only [settle_frame, hmarks]
    exact hpassed
  · obtain rfl := hfresh hkind
    rw [judgeFrame_merged hkind hform (htakes.1 ht), mergeFresh_room (by rwa [hrecord])]
    refine ⟨hwritten _ _ (hopen ht) ?_ ?_ (by simp), by simp [htables]⟩
    · exact hmerge
    · rw [hrecord, hshadow]
      simp
  · obtain rfl := hfresh hkind
    rw [judgeFrame_merged hkind hform (htakes.1 ht), mergeFresh_full (by rwa [hrecord])]
    refine ⟨hwritten _ _ (hopen ht) hmerge ?_ (by simp), hslot _ ?_⟩
    · rw [hrecord, hshadow]
      simp
    · simp only [leaveByJudgement_frame, emitTruncated_frame]
      exact setFrameSlot_tables_congr (by simp) ..
  · obtain rfl := hfresh hkind
    cases hbad : badFrame e.head e.header e.trailer with
    | some cause =>
      rw [judgeFrame_bad x hkind hbad]
      refine ⟨hslot _ (by simp), hnone _ (by simp) (by simp), ?_, fun _ => by simp [hguard], fun h => by cases h⟩
      simp [emit_classes, event, EventClass.code]
    | none =>
      have ht : ¬ takes := hnot.elim (absurd hbad) id
      rw [judgeFrame_discarded hkind hbad (mt htakes.2 ht)]
      obtain ⟨hwrote, hnote⟩ := discardFresh_spec (e := e) (lug := lugTag e.lugWord) (s := x) (by rw [hguard]; exact hs.sized.flags)
      have hflag : (settle s0 (leaveByJudgement e (discardFresh e (lugTag e.lugWord) x))).flag 1 =
          (discardFresh e (lugTag e.lugWord) x).flag 1 := flag_of_flags (by simp) 1
      refine ⟨hslot _ ?_, hnone _ (by simp) (by simp), ?_, fun h => absurd rfl h, fun _ => ?_⟩
      · simp only [leaveByJudgement_frame, discardFresh]
        split <;> simp
      · simp only [settle_frame, leaveByJudgement_frame]
        refine (hwrote.pending_iff (by decide)).2 (.inr ⟨_, List.mem_singleton_self _, ?_⟩)
        split <;> rfl
      · rw [hflag, ← congrArg Tracker.lug htracker]
        exact hnote
  · rw [judgeFrame_again hkind (hclosing h1 h2) ⟨hform, hlug⟩]
    refine ⟨hwritten _ _ (by simp [h1]) hmerge ?_ (by simp), by simp [htables]⟩
    rw [hrecord, hshadow]
    simp
  · rw [judgeFrame_failed hkind (hclosing h1 h2) (hfailed hnot)]
    refine ⟨hwritten _ _ (by simp [h1]) ?_ ?_ (by simp), hslot _ ?_, ?_⟩
    · rfl
    · simp [failReadBack, hrecord]
    · simp only [leaveByJudgement_frame, failReadBack, emit_frame]
      exact setFrameSlot_tables_congr (by simp) ..
    · simp [failReadBack, emit_classes, event, EventClass.code]
  · rw [judgeFrame_gone hkind (by rw [hrecord]; exact fun hb => hnot.elim (· hb.1) (· hb.2))]
    exact ⟨hnone _ (by simp) (by simp), by simp [htables], by simp [hevents], by simp [hguard]⟩
  · obtain rfl := hfresh hkind
    rw [judgeFrame_bad x hkind hbad]
    exact heventsAfter ((eventsWritten_emit _ _).after (by simp) (by simp [State.window]) (grows_of_eq (by simp))) (by simp)
  · obtain rfl := hfresh hkind
    rw [judgeFrame_discarded hkind hform (mt htakes.2 ht), ← hrecord, ← congrArg Tracker.lug htracker]
    exact heventsAfter (leaveByJudgement_events e (discardFresh_spec (by rw [hguard]; exact hs.sized.flags)).1 (by simp [State.window]))
      (by simp)
  · rcases hmerges with ⟨hkind, ht⟩ | ⟨hkind, h1, h2, hlug⟩
    · obtain rfl := hfresh hkind
      rw [judgeFrame_merged hkind hform (htakes.1 ht)]
      exact heventsAfter (leaveByJudgement_events e ((emitTruncated_events e _ _).after (by simp) (by simp [State.window])
        (grows_of_eq (by simp))) (by simp [State.window])) (by simp)
    · rw [judgeFrame_again hkind (hclosing h1 h2) ⟨hform, hlug⟩]
      exact heventsAfter (leaveByJudgement_events e ((emitTruncated_events e _ _).after (by simp) (by simp [State.window])
        (grows_of_eq (by simp))) (by simp [State.window])) (by simp)
  · rw [judgeFrame_failed hkind (hclosing h1 h2) (hfailed hnot)]
    exact heventsAfter (leaveByJudgement_events e ((eventsWritten_emit _ _).after (by simp) (by simp [State.window])
      (grows_of_eq (by simp))) (by simp [State.window])) (by simp)
  · rw [frameSlot_settle, judgeFrame_otherSlots e x hne]
    exact frameSlot_congr htables h i

end Sys2Proof.Machine
end

section
/-! The end of a load: the entry to RUNNING with its entry work, and the header reads (O21, O22, O23). -/

namespace Sys2Proof.Machine

/-! ### The entry work -/

/-- What the entry to RUNNING leaves before its events: every block has taken its entry work, and the notice of a line reset is taken. -/
def atEntry (x : State) : State := (settle x (entered x)).withoutReport

/-- `x` differs from `s` in nothing but what a load changes before it ends: the shadow's words, entries and load, the event writer, the
tally unit, the port and the internal stream. -/
structure Loaded (s x : State) : Prop where
  part : x.shadow.part = .starting
  held : x.shadow.held = s.shadow.held
  report : x.shadow.report = s.shadow.report
  inputs : x.inputs = s.inputs
  tracker : x.tracker = s.tracker
  measure : x.measure = s.measure
  optimizer : x.optimizer = s.optimizer
  skip : x.skip = s.skip
  overrides : x.overrides = s.overrides
  dispatch : x.dispatch = s.dispatch
  lineGuard : x.lineGuard = s.lineGuard
  mem : x.bus.mem = s.bus.mem
  through : x.bus.through = s.bus.through
  answers : x.bus.answers = s.bus.answers

theorem atEntry_shadow (x : State) : (atEntry x).shadow =
    { x.shadow with part := .running, load := none, held := [], report := none } := by
  have hsettle : (settle x (entered x)).shadow = (entered x).shadow := by simp
  have hentered : (entered x).shadow = { x.shadow with part := .running, load := none, held := [] } := by simp [entered]
  show { (settle x (entered x)).shadow with report := none } = _
  rw [hsettle, hentered]

theorem enterRunning_afterEntry {s x : State} (h : Loaded s x) (ld : Load) : enterRunning ld x = afterEntry s (atEntry x) ld.cause := by
  have hreport : (settle x (entered x)).shadow.report = s.shadow.report := by
    rw [← h.report]
    simp [entered]
  rw [enterRunning_eq, startEvents_eq, hreport, h.held]
  rfl

theorem atEntry_areas (x : State) {k : Nat} (h : ((publish x (startTally (entered x))).area k).pub ≠ .idle) :
    ((atEntry x).area k).pub ≠ .idle := by
  refine publish_keeps_busy _ ?_
  rwa [area_of_areas (s := publish x (startTally (entered x))) (by simp)]

theorem entryWork {s x : State} (h : Loaded s x) : EntryWork s (atEntry x) := by
  have hshadow := atEntry_shadow x
  have hentered : ∀ e : State, e = entered x → e.shadow.part = .running ∧ e.shadow.entries = x.shadow.entries ∧
      e.tracker = { x.tracker with everRan := true } ∧ e.optimizer = x.optimizer ∧
      e.intake.tables = (List.range Config.heads).map (freshTable x.shadow.entries) ∧
      (∀ p, e.inputs.get p = { x.inputs.get p with time := filterTime x.shadow.words p }) ∧ e.overrides = x.overrides ∧
      e.dispatch = x.dispatch ∧ e.lineGuard = x.lineGuard ∧ e.skip = x.skip ∧ e.measure = x.measure ∧ e.bus.mem = x.bus.mem ∧
      e.bus.through = x.bus.through ∧ e.bus.answers = x.bus.answers := fun e he => by
    subst he
    refine ⟨rfl, by simp [entered], by simp [entered], by simp [entered], by simp [entered], fun p => ?_, by simp [entered],
      by simp [entered], by simp [entered], by simp [entered], by simp [entered], by simp [entered], by simp [entered], by simp [entered]⟩
    cases p <;> simp [entered, Inputs.get]
  have hbusy : ∀ k, ((publish x (startTally (entered x))).area k).pub ≠ .idle → ((atEntry x).area k).pub ≠ .idle :=
    fun k hk => atEntry_areas x hk
  have hfields : ∀ z e : State, z = atEntry x → e = entered x → z.tracker.records = (startOptimizer e).tracker.records ∧
      z.tracker.lug = e.tracker.lug ∧ z.tracker.everRan = e.tracker.everRan ∧ z.intake = e.intake ∧ z.inputs = e.inputs ∧
      z.overrides = e.overrides ∧ z.dispatch = e.dispatch ∧ z.lineGuard = e.lineGuard ∧ z.skip = e.skip ∧ z.measure = e.measure ∧
      z.bus.mem = e.bus.mem ∧ z.bus.through = e.bus.through ∧ z.bus.answers = e.bus.answers := fun z e hz he => by
    subst hz he
    have hsettle := settle_records x (entered x)
    simp [atEntry, State.withoutReport, hsettle]
  generalize atEntry x = z at *
  generalize entered x = e at *
  obtain ⟨hrun, hentries, htracker, hoptimizer, htables, htimes, heo, hed, heg, hes, hem, hemem, hethrough, heanswers⟩ := hentered e rfl
  obtain ⟨hrecords, hlug, hever, hintake, hinputs, hzo, hzd, hzg, hzs, hzm, hmem, hthrough, hanswers⟩ := hfields z e rfl rfl
  have hwindow : z.window .record = e.window .record := by simp [State.window, hshadow, hentries]
  have hlen : s.tracker.areas.length = 33 → (startTally e).tracker.areas.length = 33 := fun hl => by
    simpa [htracker, h.tracker] using hl
  exact {
    running := by rw [hshadow]
    load := by rw [hshadow]
    held := by rw [hshadow]
    report := by rw [hshadow]
    ever := by rw [hever, htracker]
    tables := fun k hk => by
      have hk' : k < (List.range Config.heads).length := by rwa [List.length_range]
      rw [hintake, htables, hshadow]
      simp only [List.getD_eq_getElem?_getD, List.getElem?_map, List.getElem?_range hk]
      rfl
    times := fun p => by rw [hinputs, htimes, hshadow, h.inputs]
    status := fun hl hw => by
      refine hbusy 32 ((publish_shown (s0 := x) (hlen hl)).status (by simpa using hrun) ?_ fun heq => ?_)
      · rw [hwindow] at hw
        simpa [State.window] using hw
      · have hpart := statusBody_part heq
        simp [hrun, h.part] at hpart
    images := fun hl hw hfirst k hk => by
      refine hbusy k (publishesAll_busy (by simpa using hrun) ?_ (Nat.le_of_lt hk) ?_ (hlen hl))
      · simp [publishesAll, htracker, h.tracker, hfirst]
      · rw [hwindow] at hw
        simpa [State.window] using hw
    records := fun hs j _ _ hj => by
      refine (record_of_records (hrecords.trans (settle_records s e).symm) j).trans ?_
      exact settle_after_none hs.sized.records hs.queue (by rw [htracker, h.tracker]) (by rw [hoptimizer, h.optimizer]) j hj
    lug := by rw [hlug, htracker, h.tracker]
    others := ⟨hzo.trans (heo.trans h.overrides), hzd.trans (hed.trans h.dispatch), hzg.trans (heg.trans h.lineGuard),
      hzs.trans (hes.trans h.skip), hzm.trans (hem.trans h.measure)⟩
    bus := ⟨hmem.trans (hemem.trans h.mem), hthrough.trans (hethrough.trans h.through), hanswers.trans (heanswers.trans h.answers)⟩ }

/-! ### The tally unit at the entry -/

theorem tallyWrites_congr {t u : Tally} (hbank : t.bank = u.bank) (hswap : t.swap = u.swap) (h0 : t.saturated0 = u.saturated0)
    (h1 : t.saturated1 = u.saturated1) (w : Option WindowEntry) : tallyWrites t w = tallyWrites u w := by
  simp only [tallyWrites, tallyHeaderWord, hbank, hswap, h0, h1]

/-- R154, R164: the tally unit at the entry to RUNNING, and what it writes. -/
theorem tallyAtRunning_values (x : State) :
    (x.tally.kept = true → (tallyAtRunning x).tally = { x.tally.takenUp (x.window .tally) with kept := false } ∧
      (tallyAtRunning x).bus.internal = x.bus.internal ++ tallyWrites (x.tally.takenUp (x.window .tally)) (x.window .tally)) ∧
    (x.tally.kept = false → (tallyAtRunning x).bus.internal = x.bus.internal ∧
      (x.window .tally = none → (tallyAtRunning x).tally =
        { x.tally with bank := false, swap := none, saturated0 := false, saturated1 := false }) ∧
      (x.window .tally ≠ none → (tallyAtRunning x).tally = x.tally)) := by
  refine ⟨fun hkept => ?_, fun hkept => ?_⟩
  · obtain ⟨htally, hinternal⟩ := beginZeroing_header x
    simp only [tallyAtRunning, hkept, if_true]
    exact ⟨by rw [htally], hinternal⟩
  · have hclear : ({ x.tally with kept := false } : Tally) = x.tally := by rw [← hkept]
    cases hw : x.window .tally with
    | none =>
      simp [tallyAtRunning, hkept, hw]
    | some e =>
      simp [tallyAtRunning, hkept, hw, hclear]

/-- What the entry keeps of the tally unit, but for an update engine that takes up work, and what it has issued. -/
theorem atEntry_tally (x : State) : (atEntry x).tally = { (tallyAtRunning x).tally with engine := (atEntry x).tally.engine } ∧
    (atEntry x).events = x.events ∧
    ∃ more, (atEntry x).bus.internal = (tallyAtRunning x).bus.internal ++ more ∧ ∀ b ∈ more, EngineAccess b := by
  have htally : (entered x).tally = (tallyAtRunning x).tally := rfl
  have hinternal : (entered x).bus.internal = (tallyAtRunning x).bus.internal := rfl
  have hevents : (entered x).events = x.events := by simp [entered]
  refine ⟨?_, ?_, ?_⟩
  · rw [← htally]
    show (settle x (entered x)).tally = { (entered x).tally with engine := (settle x (entered x)).tally.engine }
    exact tally_eq_of_fields (by simp) (by simp) (by simp) (by simp) (by simp) (by simp)
  · exact (settle_events x (entered x)).trans hevents
  · rw [← hinternal]
    exact settle_engineGrows x (entered x)

theorem entryTally {s x : State} (htally : x.tally = s.tally) : EntryTally s (atEntry x) := by
  obtain ⟨hz, -, -⟩ := atEntry_tally x
  obtain ⟨hkept, hread⟩ := tallyAtRunning_values x
  have hwindow : (atEntry x).window .tally = x.window .tally := by simp [State.window, atEntry_shadow]
  rw [htally] at hkept hread
  refine ⟨fun hk => ?_, fun hk hw => ?_, fun hk hw => ?_⟩
  · rw [hz, (hkept hk).1, hwindow]
    rfl
  · rw [hz, (hread hk).2.1 (hwindow ▸ hw)]
  · rw [hz, (hread hk).2.2 (hwindow ▸ hw)]

/-- The internal stream at the entry: the tally unit's writes after a line reset that began without a TALLY window, and behind them
accesses of the engines only. -/
theorem atEntry_internal (x : State) : ∃ more, (atEntry x).bus.internal = x.bus.internal ++
    (if x.tally.kept then tallyWrites (atEntry x).tally ((atEntry x).window .tally) else []) ++ more ∧ ∀ b ∈ more, EngineAccess b := by
  obtain ⟨hz, -, more, hinternal, haccess⟩ := atEntry_tally x
  obtain ⟨hkept, hread⟩ := tallyAtRunning_values x
  have hwindow : (atEntry x).window .tally = x.window .tally := by simp [State.window, atEntry_shadow]
  refine ⟨more, ?_, haccess⟩
  rw [hinternal, hwindow]
  cases hk : x.tally.kept with
  | true =>
    obtain ⟨htally, hwrites⟩ := hkept hk
    rw [if_pos rfl, hwrites, hz, htally]
    exact congrArg (x.bus.internal ++ · ++ more) (tallyWrites_congr rfl rfl rfl rfl _)
  | false =>
    rw [if_neg (by decide), (hread hk).1, List.append_nil]

/-! ### The header of the event ring (O22) -/

/-- R195: what the event writer takes from the header of a ring in force, and what it writes back. -/
theorem takeEventHeader_values {x : State} {e : WindowEntry} {prod cons : Word} {c p : Nat} {o : Bool} (hw : x.window .event = some e)
    (hc : c = (if cons.toNat < ringCapacity e then cons.toNat else if bits prod 0 16 < ringCapacity e then bits prod 0 16 else 0))
    (hp : p = (if bits prod 0 16 < ringCapacity e then bits prod 0 16 else c))
    (ho : o = (if x.shadow.part = .running then x.events.overflow || bit prod 31 else bit prod 31)) :
    (takeEventHeader prod cons x).events = { ring := some { producer := p, consumer := c }, overflow := o, classes := x.events.classes } ∧
    (takeEventHeader prod cons x).bus.internal = x.bus.internal ++ (if p = bits prod 0 16 ∧ o = bit prod 31 then []
      else [writeBurst (windowAddr e 0) [producerWord p o] .plain]) := by
  simp only [takeEventHeader, hw, ← hc, ← hp, ← ho]
  split <;> simp [issue]

theorem exec_eventHeaderReadDone {s : State} {addr pw cw : Word}
    (hport : s.bus.port = some { addr := addr, access := .read 2, purpose := .eventHeader })
    (hpw : pw = Memory.readWord s.bus.mem addr.toNat) (hcw : cw = Memory.readWord s.bus.mem (addr.toNat + 4)) :
    exec .eventHeaderReadDone s = .next (finish (eventHeaderRead pw cw { s with bus := { s.bus with port := none } })) := by
  show done (completeIf (fun _ b => b.purpose == .eventHeader) s) = _
  rw [completeIf_of_port hport rfl]
  simp only [afterBurst, perform_read, readWords_two, List.getD_cons_zero, List.getD_cons_succ, ← hpw, ← hcw, landBurst]
  rfl

/-- Settles O22: `takeEventHeader_values` for the ring; a load that ends enters RUNNING by `entryWork` and `entryTally`. -/
theorem eventHeaderReadSetsRing : Obligations.EventHeaderReadSetsRing := by
  unfold Obligations.EventHeaderReadSetsRing
  intro s e addr pw cw c p hport hw hpw hcw hc hp
  rw [exec_eventHeaderReadDone hport hpw hcw]
  have hl : ∀ l : State, l = { s with bus := { s.bus with port := none } } →
      Loaded s { l with shadow := { s.shadow with part := .starting } } ∧ l.shadow = s.shadow ∧ l.tally = s.tally ∧
      l.events = s.events ∧ l.bus.internal = s.bus.internal ∧ l.tracker = s.tracker ∧ l.bus.mem = s.bus.mem := fun l hl => by
    subst hl
    exact ⟨⟨rfl, rfl, rfl, rfl, rfl, rfl, rfl, rfl, rfl, rfl, rfl, rfl, rfl, rfl⟩, rfl, rfl, rfl, rfl, rfl, rfl⟩
  generalize ({ s with bus := { s.bus with port := none } } : State) = l at *
  obtain ⟨hloaded, hshadow, htally, hevents, hinternal, htracker, hmem⟩ := hl l rfl
  have hring := fun o ho => takeEventHeader_values (x := l) (prod := pw) (cons := cw) (o := o)
    (by rw [window_of_shadow hshadow, hw]) hc hp ho
  rw [hshadow, hevents, hinternal] at hring
  have hread : ∀ t : State, t = takeEventHeader pw cw l → t.shadow = s.shadow ∧ t.tracker = s.tracker ∧ t.tally = s.tally ∧
      t.bus.mem = s.bus.mem ∧ Loaded s { t with shadow := { s.shadow with part := .starting } } := fun t ht => by
    subst ht
    refine ⟨by simp [hshadow], by simp [htracker], by simp [htally], by simp [hmem],
      ⟨rfl, rfl, rfl, ?_, ?_, ?_, ?_, ?_, ?_, ?_, ?_, ?_, ?_, ?_⟩⟩
    · simpa using hloaded.inputs
    · simpa using hloaded.tracker
    · simpa using hloaded.measure
    · simpa using hloaded.optimizer
    · simpa using hloaded.skip
    · simpa using hloaded.overrides
    · simpa using hloaded.dispatch
    · simpa using hloaded.lineGuard
    · simpa using hloaded.mem
    · simpa using hloaded.through
    · simpa using hloaded.answers
  have hstep : eventHeaderRead pw cw l = if s.shadow.part = .starting then headerReturned false (takeEventHeader pw cw l)
      else takeEventHeader pw cw l := by
    simp only [eventHeaderRead, hshadow]
  generalize takeEventHeader pw cw l = t at *
  obtain ⟨htshadow, httracker, httally, htmem, htloaded⟩ := hread t rfl
  rw [hstep]
  refine ⟨fun hrun => ?_, fun hpart hload => ?_, fun ld hpart hload => ⟨fun hawait => ?_, fun hawait => ?_⟩⟩
  · obtain ⟨hev, hbus⟩ := hring _ rfl
    simp only [hrun, if_true] at hev hbus
    rw [if_neg (by simp [hrun])]
    exact ⟨t, _, rfl, rfl, hev, hbus, htshadow, httracker, htmem⟩
  all_goals
    obtain ⟨hev, hbus⟩ := hring (bit pw 31) (by simp [hpart])
    simp only [and_true] at hbus
    rw [if_pos hpart]
  · refine ⟨t, ?_, hev, hbus, htshadow, httracker, httally, htmem⟩
    simp [headerReturned, htshadow, hload]
  · refine ⟨{ t with shadow := { t.shadow with load := some { ld with awaitEvent := false } } }, ?_, hev, by rw [htshadow], hbus, htmem⟩
    simp [headerReturned, endLoad, htshadow, hload, hawait]
  · have hstart : ({ s.shadow with part := .starting } : Shadow) = s.shadow := by rw [← hpart]
    rw [hstart] at htloaded
    have hx : ∀ x : State, x = { t with shadow := { s.shadow with load := some { ld with awaitEvent := false } } } → Loaded s x ∧
        x.tally = s.tally ∧ x.events = t.events ∧ x.bus.internal = t.bus.internal ∧ x.shadow.words = s.shadow.words ∧
        x.shadow.entries = s.shadow.entries := fun x hx => by
      subst hx
      exact ⟨{ htloaded with }, httally, rfl, rfl, rfl, rfl⟩
    have hends : headerReturned false t = enterRunning { ld with awaitEvent := false }
        { t with shadow := { s.shadow with load := some { ld with awaitEvent := false } } } := by
      simp [headerReturned, endLoad, htshadow, hload, hawait]
    rw [hends]
    generalize ({ t with shadow := { s.shadow with load := some { ld with awaitEvent := false } } } : State) = x at *
    obtain ⟨hxloaded, hxtally, hxevents, hxinternal, hxwords, hxentries⟩ := hx x rfl
    obtain ⟨more, hmore, haccess⟩ := atEntry_internal x
    refine ⟨atEntry x, more, by rw [enterRunning_afterEntry hxloaded], entryWork hxloaded, entryTally hxtally, ?_, haccess,
      by rw [atEntry_shadow, ← hxwords], by rw [atEntry_shadow, ← hxentries], ?_⟩
    · rw [hmore, hxinternal, hbus, hxtally]
    · rw [(atEntry_tally x).2.1, hxevents, hev]

/-! ### The tally header (O23) -/

theorem toNat_tallyHeaderWord (ty : Tally) : (tallyHeaderWord ty).toNat =
    ty.bank.toNat + 2 ^ 8 * ty.swap.isSome.toNat + 2 ^ 9 * ty.saturated0.toNat + 2 ^ 10 * ty.saturated1.toNat := by
  have h0 := ty.bank.toNat_le
  have h1 := ty.swap.isSome.toNat_le
  have h2 := ty.saturated0.toNat_le
  have h3 := ty.saturated1.toNat_le
  rw [tallyHeaderWord]
  simp only [place_eq, placeBit_eq]
  rw [toNat_wordOf (by simp only [List.sum_cons, List.sum_nil]; omega)]
  simp only [List.sum_cons, List.sum_nil]
  omega

/-- R154: the tally unit as its header has it, with a swap's zeroing begun from the first burst. -/
def Tally.fromHeader (t : Tally) (w : Word) (start : Nat) : Tally := { t with
  bank := bits w 0 8 == 1, swap := if bit w 8 then some { zeroing := .running start, done := 0 } else none
  saturated0 := bit w 9 && !(bit w 8 && !(bits w 0 8 == 1)), saturated1 := bit w 10 && !(bit w 8 && (bits w 0 8 == 1)) }

theorem takeTallyHeader_values {x : State} {e : WindowEntry} {w : Word} (hw : x.window .tally = some e) :
    (takeTallyHeader w x).tally = x.tally.fromHeader w e.start ∧
    (takeTallyHeader w x).bus.internal = x.bus.internal ++ tallyWrites (x.tally.fromHeader w e.start) (some e) := by
  have hheader : ∃ t : Tally, takeTallyHeader w x = beginZeroing (writeTallyHeader { x with tally := t }) ∧
      t.takenUp (some e) = x.tally.fromHeader w e.start := by
    refine ⟨_, rfl, ?_⟩
    cases hswap : bit w 8 <;> cases hbank : bits w 0 8 == 1 <;>
      simp [Tally.fromHeader, Tally.takenUp, Tally.setSaturated, resumed, hswap, hbank]
  obtain ⟨t, hstep, htaken⟩ := hheader
  have hvalues := beginZeroing_header { x with tally := t }
  have hwindow : State.window { x with tally := t } .tally = some e := hw
  rw [hwindow, htaken] at hvalues
  rw [hstep]
  exact hvalues

theorem exec_tallyHeaderReadDone {s : State} {addr w : Word}
    (hport : s.bus.port = some { addr := addr, access := .read 1, purpose := .tallyHeader })
    (hw : w = Memory.readWord s.bus.mem addr.toNat) :
    exec .tallyHeaderReadDone s = .next (finish (tallyHeaderRead w { s with bus := { s.bus with port := none } })) := by
  show done (completeIf (fun _ b => b.purpose == .tallyHeader) s) = _
  rw [completeIf_of_port hport rfl]
  simp only [afterBurst, perform_read, readWords_one, List.getD_cons_zero, ← hw, landBurst]
  rfl

/-- Settles O23. -/
theorem tallyHeaderReadSetsTally : Obligations.TallyHeaderReadSetsTally := by
  unfold Obligations.TallyHeaderReadSetsTally
  refine ⟨fun s ld e addr w ty hport hload hpart hw hkept hword hty => ?_, toNat_tallyHeaderWord⟩
  rw [exec_tallyHeaderReadDone hport hword]
  have hl : ∀ l : State, l = { s with bus := { s.bus with port := none } } → Loaded s l ∧ l.shadow = s.shadow ∧ l.tally = s.tally ∧
      l.events = s.events ∧ l.bus.internal = s.bus.internal ∧ l.tracker = s.tracker ∧ l.bus.mem = s.bus.mem := fun l hl => by
    subst hl
    exact ⟨⟨hpart, rfl, rfl, rfl, rfl, rfl, rfl, rfl, rfl, rfl, rfl, rfl, rfl, rfl⟩, rfl, rfl, rfl, rfl, rfl, rfl⟩
  generalize ({ s with bus := { s.bus with port := none } } : State) = l at *
  obtain ⟨hloaded, hshadow, htally, hevents, hinternal, htracker, hmem⟩ := hl l rfl
  obtain ⟨htaken, hwrites⟩ := takeTallyHeader_values (x := l) (w := w) (by rw [window_of_shadow hshadow, hw])
  have htyEq : l.tally.fromHeader w e.start = ty := by rw [hty, htally]; rfl
  rw [htyEq] at htaken hwrites
  rw [hinternal] at hwrites
  have hread : ∀ t : State, t = takeTallyHeader w l → t.shadow = s.shadow ∧ t.tracker = s.tracker ∧ t.events = s.events ∧
      t.bus.mem = s.bus.mem ∧ Loaded s t := fun t ht => by
    subst ht
    refine ⟨by simp [hshadow], by simp [htracker], by simp [hevents], by simp [hmem],
      ⟨?_, ?_, ?_, ?_, ?_, ?_, ?_, ?_, ?_, ?_, ?_, ?_, ?_, ?_⟩⟩
    · simpa using hloaded.part
    · simpa using hloaded.held
    · simpa using hloaded.report
    · simpa using hloaded.inputs
    · simpa using hloaded.tracker
    · simpa using hloaded.measure
    · simpa using hloaded.optimizer
    · simpa using hloaded.skip
    · simpa using hloaded.overrides
    · simpa using hloaded.dispatch
    · simpa using hloaded.lineGuard
    · simpa using hloaded.mem
    · simpa using hloaded.through
    · simpa using hloaded.answers
  have hstep : tallyHeaderRead w l = headerReturned true (takeTallyHeader w l) := by
    simp only [tallyHeaderRead, hshadow, hload]
  generalize takeTallyHeader w l = t at *
  obtain ⟨htshadow, httracker, htevents, htmem, htloaded⟩ := hread t rfl
  rw [hstep]
  refine ⟨fun hawait => ?_, fun hawait => ?_⟩
  · refine ⟨{ t with shadow := { t.shadow with load := some { ld with awaitTally := false } } }, ?_, htaken, by rw [htshadow], hwrites,
      httracker, htevents, htmem⟩
    simp [headerReturned, endLoad, htshadow, hload, hawait]
  · have hx : ∀ x : State, x = { t with shadow := { s.shadow with load := some { ld with awaitTally := false } } } → Loaded s x ∧
        x.tally = ty ∧ x.events = s.events ∧ x.bus.internal = t.bus.internal ∧ x.shadow.words = s.shadow.words ∧
        x.shadow.entries = s.shadow.entries := fun x hx => by
      subst hx
      exact ⟨{ htloaded with part := hpart, held := rfl, report := rfl }, htaken, htevents, rfl, rfl, rfl⟩
    have hends : headerReturned true t = enterRunning { ld with awaitTally := false }
        { t with shadow := { s.shadow with load := some { ld with awaitTally := false } } } := by
      simp [headerReturned, endLoad, htshadow, hload, hawait]
    rw [hends]
    generalize ({ t with shadow := { s.shadow with load := some { ld with awaitTally := false } } } : State) = x at *
    obtain ⟨hxloaded, hxtally, hxevents, hxinternal, hxwords, hxentries⟩ := hx x rfl
    have hxwindow : x.window .tally = some e := by rw [State.window, hxentries, ← hw]; rfl
    have hxkept : x.tally.kept = false := by rw [hxtally, hty, ← hkept]
    obtain ⟨more, hmore, haccess⟩ := atEntry_internal x
    rw [hxkept, if_neg (by decide), List.append_nil, hxinternal, hwrites] at hmore
    refine ⟨atEntry x, more, by rw [enterRunning_afterEntry hxloaded], entryWork hxloaded, by rw [atEntry_shadow, ← hxwords],
      by rw [atEntry_shadow, ← hxentries], ?_, hmore, haccess, (atEntry_tally x).2.1.trans hxevents⟩
    rw [(atEntry_tally x).1, ((tallyAtRunning_values x).2 hxkept).2.2 (by rw [hxwindow]; exact Option.some_ne_none e), hxtally]

end Sys2Proof.Machine
end

section
/-! The setup image: its layout, and the load that takes it (O21). -/

namespace Sys2Proof.Machine

/-! ### The layout of the setup image -/

theorem toNat_bit (w : Word) : (bit w 31).toNat = w.toNat / 2 ^ 31 := by
  have hw := w.isLt
  simp only [bit, BitVec.getLsbD, Nat.testBit_eq_decide_div_mod_eq]
  by_cases h : w.toNat / 2 ^ 31 % 2 = 1
  · rw [decide_eq_true h, Bool.toNat_true]
    omega
  · rw [decide_eq_false h, Bool.toNat_false]
    omega

theorem toNat_bit_mod (w : Word) (i : Nat) : (bit w i).toNat = w.toNat / 2 ^ i % 2 := by
  simp only [bit, BitVec.getLsbD, Nat.testBit_eq_decide_div_mod_eq]
  by_cases h : w.toNat / 2 ^ i % 2 = 1
  · rw [decide_eq_true h, Bool.toNat_true, h]
  · rw [decide_eq_false h, Bool.toNat_false]
    omega

/-- Two's complement of a 10-bit offset. -/
theorem signedOffset_eq (w : Word) : signedOffset w =
    (w.toNat % 1024 : Nat) - (if w.toNat % 1024 < 512 then (0 : Int) else 1024) := by
  have hbits : (BitVec.ofNat 10 (bits w 0 10)).toNat = w.toNat % 1024 := by simp [bits]
  rw [signedOffset, BitVec.toInt_eq_toNat_cond, hbits]
  split <;> split <;> omega

theorem kind_ofCode (n : Nat) (h : n < 8) : WindowKind.ofCode n =
    [WindowKind.frame, .override, .record, .tally, .event, .trim, .sort, .guarded].getD n .guarded := by
  interval_cases n <;> rfl

/-- R198: every field of the setup image stands at its word and bits. -/
theorem setupLayout (ws : List Word) : SetupLayout ws fun n => (setupWord ws n).toNat where
  masks := ⟨by simp [writerMask, bits], by simp [classEnable, bits], by simp [guardEnable, bits]⟩
  options := ⟨by simp [decisionEventEnable, toNat_bit_mod], by simp [fallbackPass, toNat_bit_mod]⟩
  safety := by simp [safetyTime, bits]
  persistences := by
    refine ⟨fun i hi => ?_, fun i hi => ?_⟩
    · have hpow : 2 ^ (8 * i) = 256 ^ i := by rw [Nat.pow_mul]
      simp [persistence, hi, bits, hpow]
    · have hpow : 2 ^ (8 * i) = 256 ^ i := by rw [Nat.pow_mul]
      simp [persistence, bits, hpow]
  namedBins := ⟨by simp [rejectBin, bits], by simp [remanBin, bits]⟩
  calibration h _ := ⟨signedOffset_eq _, by simp [thicknessGain, bits], signedOffset_eq _, by simp [widthGain, bits]⟩
  grades g _ := ⟨by simp [limitKnots, bits], by simp [segmentBudget, bits], by simp [pieceBudget, bits], fun n _ _ => by simp [price, bits]⟩
  weights c _ := by simp [classWeight, bits]
  bins b _ := ⟨by simp [binGrades, bits], by simp [binCapacity, bits]⟩
  windows i _ := by
    have hbase := (setupWord ws (32 + 3 * i)).isLt
    have hlimit := (setupWord ws (33 + 3 * i)).isLt
    refine ⟨?_, ?_, ?_, ?_, ?_, ?_, toNat_bit _⟩
    · simp only [WindowEntry.start, entryFromWords, bits]
      omega
    · simp only [WindowEntry.top, entryFromWords, bits]
      omega
    · exact (kind_ofCode _ (by simp only [bits]; omega)).trans (by simp [entryFromWords, bits])
    · simp [WindowEntry.head, entryFromWords, bits]
    · simp [WindowEntry.readMask, entryFromWords, bits]
    · simp [WindowEntry.writeMask, entryFromWords, bits]

theorem setupWord_shadowFromLoad (read : List Word) {i : Nat} (hi : i < 336) :
    setupWord (shadowFromLoad read) i = if holdsField i then read.getD i 0 else 0 := by
  have hi' : i < Config.setupWords := hi
  simp [setupWord, shadowFromLoad, List.getD_eq_getElem?_getD, List.getElem?_range hi']

theorem entryAt_entriesFromWords (ws : List Word) {i : Nat} (hi : i < 16) : entryAt (entriesFromWords ws) i = entryFromWords ws i := by
  simp [entryAt, entriesFromWords, List.getD_eq_getElem?_getD, List.getElem?_range hi]

/-! ### The last setup read (O21) -/

/-- The load has taken the setup image `ws`: the shadow holds its fields, and the event writer's header is asked for. -/
def imageTaken (ws : List Word) (s : State) : State :=
  askEventHeader { s with shadow := { s.shadow with words := ws, entries := entriesFromWords ws } }

theorem askEventHeader_values (s : State) : (askEventHeader s).events.ring = none ∧
    (askEventHeader s).bus.internal = s.bus.internal.map loadOrphan ++ (match s.window .event with
      | some w => [readBurst (windowAddr w 0) 2 .eventHeader]
      | none => []) := by
  refine ⟨askEventHeader_ring s, ?_⟩
  have hwindow : State.window (orphanBursts (fun p => p == .eventHeader) { s with events := { s.events with ring := none } }) .event =
      s.window .event := rfl
  simp only [askEventHeader, hwindow]
  cases s.window .event with
  | none => exact (List.append_nil _).symm
  | some w => rfl

/-- R186: what is asked of the tally unit's window when the image has been taken. -/
def tallyAsked (x : State) : Option WindowEntry := if x.tally.kept then none else x.window .tally

/-- The state in which the load waits for the headers it has asked for, or ends. -/
def headersAsked (ld : Load) (x : State) : State :=
  { (match tallyAsked x with
      | some w => issue (readBurst (windowAddr w 0) 1 .tallyHeader) x
      | none => x) with
    shadow := { x.shadow with load := some { ld with
      awaitEvent := (x.window .event).isSome, awaitTally := (tallyAsked x).isSome } } }

theorem setupRead_eq {ld : Load} {ws : List Word} (s : State) (h : shadowFromLoad ld.words = ws) :
    setupRead ld s = endLoad (headersAsked ld (imageTaken ws s)) := by
  have hask : askEventHeader { s with shadow := { s.shadow with words := ws, entries := entriesFromWords ws } } = imageTaken ws s := rfl
  simp only [setupRead, h, hask, headersAsked]
  generalize imageTaken ws s = x
  cases hkept : x.tally.kept <;> cases hw : x.window .tally <;> simp only [tallyAsked, hkept, hw, if_true, if_false, Bool.false_eq_true]
  rfl

theorem exec_setupReadDone {s : State} {ld : Load} {addr : Word} {n : Nat}
    (hport : s.bus.port = some { addr := addr, access := .read n, purpose := .loadSetup true }) (hload : s.shadow.load = some ld) :
    exec .setupReadDone s = .next (finish (setupRead { ld with words := ld.words ++ Memory.readWords s.bus.mem addr.toNat n }
      { s with
        bus := { s.bus with port := none }
        shadow := { s.shadow with load := some { ld with words := ld.words ++ Memory.readWords s.bus.mem addr.toNat n } } })) := by
  show done (completeIf (fun _ b => b.purpose == .loadSetup true) s) = _
  rw [completeIf_of_port hport rfl]
  simp only [afterBurst, perform_read, loadSetupRead, landBurst, hload, if_true]
  rfl

/-- Settles O21. -/
theorem setupReadTakesEveryField : Obligations.SetupReadTakesEveryField := by
  unfold Obligations.SetupReadTakesEveryField
  intro s ld addr n hport hload hpart
  rw [exec_setupReadDone hport hload]
  generalize hread : ld.words ++ Memory.readWords s.bus.mem addr.toNat n = read
  have hwords : ∀ i, i < 336 → setupWord (shadowFromLoad read) i = if holdsField i then read.getD i 0 else 0 :=
    fun i hi => setupWord_shadowFromLoad read hi
  have hentries : ∀ i, i < 16 → entryAt (entriesFromWords (shadowFromLoad read)) i = entryFromWords (shadowFromLoad read) i :=
    fun i hi => entryAt_entriesFromWords _ hi
  rw [setupRead_eq (ws := shadowFromLoad read) _ rfl]
  generalize shadowFromLoad read = ws at *
  have hl : ∀ l : State, l = { s with
      bus := { s.bus with port := none }, shadow := { s.shadow with load := some { ld with words := read } } } →
      Loaded s (imageTaken ws l) ∧ (imageTaken ws l).tally = s.tally ∧ (imageTaken ws l).shadow.words = ws ∧
      (imageTaken ws l).shadow.entries = entriesFromWords ws ∧ (imageTaken ws l).events.ring = none ∧
      (imageTaken ws l).bus.internal = s.bus.internal.map loadOrphan ++ (match (imageTaken ws l).window .event with
        | some w => [readBurst (windowAddr w 0) 2 .eventHeader]
        | none => []) := fun l hl => by
    subst hl
    obtain ⟨hring, hinternal⟩ := askEventHeader_values { s with
      bus := { s.bus with port := none }
      shadow := { s.shadow with load := some { ld with words := read }, words := ws, entries := entriesFromWords ws } }
    refine ⟨⟨?_, ?_, ?_, ?_, ?_, ?_, ?_, ?_, ?_, ?_, ?_, ?_, ?_, ?_⟩, by simp [imageTaken], by simp [imageTaken], by simp [imageTaken],
      hring, ?_⟩
    · simpa [imageTaken] using hpart
    iterate 13 simp [imageTaken]
    · refine hinternal.trans ?_
      simp [imageTaken, State.window]
  generalize ({ s with
      bus := { s.bus with port := none }
      shadow := { s.shadow with load := some { ld with words := read } } } : State) = l at *
  obtain ⟨hloaded, htally, hxwords, hxentries, hring, hinternal⟩ := hl l rfl
  generalize imageTaken ws l = x at *
  have hwindow : ∀ k, (headersAsked { ld with words := read } x).window k = x.window k := fun _ => rfl
  by_cases hends : x.window .event = none ∧ tallyAsked x = none
  · obtain ⟨hevent, hasked⟩ := hends
    have hx : ∀ y : State, y = headersAsked { ld with words := read } x → Loaded s y ∧ y.tally = s.tally ∧ y.shadow.words = ws ∧
        y.shadow.entries = entriesFromWords ws ∧ y.bus.internal = s.bus.internal.map loadOrphan ∧
        endLoad y = enterRunning { ld with words := read, awaitEvent := false, awaitTally := false } y := fun y hy => by
      subst hy
      simp only [headersAsked, hasked, hevent, Option.isSome_none]
      refine ⟨{ hloaded with }, htally, hxwords, hxentries, ?_, ?_⟩
      · simpa [hevent] using hinternal
      · simp [endLoad]
    generalize headersAsked { ld with words := read } x = y at *
    obtain ⟨hyloaded, hytally, hywords, hyentries, hyinternal, hyends⟩ := hx y rfl
    have hshadow := atEntry_shadow y
    have hzwords : (atEntry y).shadow.words = ws := by rw [hshadow, ← hywords]
    have hzentries : (atEntry y).shadow.entries = entriesFromWords ws := by rw [hshadow, ← hyentries]
    have hwork := entryWork hyloaded
    have htallied := entryTally hytally
    obtain ⟨more, hmore, haccess⟩ := atEntry_internal y
    have hzwindow : ∀ k, (atEntry y).window k = x.window k := fun k => by
      rw [← hwindow, State.window, hshadow]
      rfl
    rw [hyends, enterRunning_afterEntry hyloaded]
    rw [hytally, hyinternal] at hmore
    generalize atEntry y = z at *
    refine ⟨z, hwork.bus.1, hzwords ▸ setupLayout ws, fun i hi => by rw [hzwords, hwords i hi],
      fun i hi => by rw [hzentries, hzwords, hentries i hi],
      fun _ _ => ⟨rfl, hwork, htallied, _, more, hmore, by simp [Function.comp_def], haccess⟩, fun hno => ?_⟩
    rw [hzwindow, hzwindow] at hno
    rcases hno with hno | ⟨hno, hkept⟩
    · exact absurd hevent hno
    · simp only [tallyAsked, htally, hkept, Bool.false_eq_true, if_false] at hasked
      exact absurd hasked hno
  · have hz : ∀ z : State, z = headersAsked { ld with words := read } x → z.shadow.part = .starting ∧ z.shadow.held = s.shadow.held ∧
        z.tally = s.tally ∧ z.events.ring = none ∧ z.bus.mem = s.bus.mem ∧ z.shadow.words = ws ∧
        z.shadow.entries = entriesFromWords ws ∧ z.shadow.load = some { ld with
          words := read, awaitEvent := (x.window .event).isSome, awaitTally := (tallyAsked x).isSome } ∧
        z.bus.internal = x.bus.internal ++ (match tallyAsked x with
          | some w => [readBurst (windowAddr w 0) 1 .tallyHeader]
          | none => []) := fun z hz => by
      subst hz
      simp only [headersAsked]
      cases tallyAsked x with
      | none => exact ⟨hloaded.part, hloaded.held, htally, hring, hloaded.mem, hxwords, hxentries, trivial, (List.append_nil _).symm⟩
      | some w => exact ⟨hloaded.part, hloaded.held, htally, hring, hloaded.mem, hxwords, hxentries, trivial, rfl⟩
    have hwaits : ∀ z : State, z = headersAsked { ld with words := read } x → endLoad z = z := fun z h => by
      have hawaits : (x.window .event).isSome = true ∨ (tallyAsked x).isSome = true := by
        rw [Option.isSome_iff_ne_none, Option.isSome_iff_ne_none]
        exact not_and_or.1 hends
      obtain ⟨-, -, -, -, -, -, -, hzload, -⟩ := hz z h
      unfold endLoad
      rw [hzload]
      rcases hawaits with h | h <;> simp [h]
    rw [hwaits _ rfl]
    generalize headersAsked { ld with words := read } x = z at *
    obtain ⟨hzpart, hzheld, hztally, hzring, hzmem, hzwords, hzentries, hzload, hzinternal⟩ := hz z rfl
    have hasked : tallyAsked x = if s.tally.kept then none else x.window .tally := by rw [tallyAsked, htally]
    refine ⟨z, hzmem, hzwords ▸ setupLayout ws, fun i hi => by rw [hzwords, hwords i hi],
      fun i hi => by rw [hzentries, hzwords, hentries i hi], fun hevent htallyNone => ?_,
      fun _ => ⟨rfl, hzpart, hzheld, hztally, hzring, ?_, ?_, ?_⟩⟩
    · rw [hwindow] at hevent htallyNone
      refine absurd ⟨hevent, ?_⟩ hends
      rw [hasked]
      rcases htallyNone with h | h <;> simp [h]
    · rw [hzload, hwindow, hwindow, hasked]
      cases s.tally.kept <;> simp
    · intro w hw
      rw [hwindow] at hw
      rw [hzinternal, hinternal, hw]
      simp
    · intro w hw hkept
      rw [hwindow] at hw
      rw [hzinternal, hasked, hkept, hw]
      simp

end Sys2Proof.Machine
end

section
/-! A setup write: what it carries, and what each block makes of it (O29, O30). -/

namespace Sys2Proof.Machine

/-! ### What a permitted setup write carries -/

/-- A permitted setup write begins at a word of the setup window. -/
theorem Admitted.setup_addr {s : State} {w : BusWrite} (h : Admitted s (.write w) .setup) :
    w.addr.toNat % 4 = 0 ∧ w.addr.toNat < 4096 := by
  have haligned := h.checks .align
  have hregion : classify s.shadow.entries (4 * (w.addr.toNat / 4)) = .setup := h.region
  simp only [checkFails, h.region] at haligned
  have hfirst : w.addr.toNat % 4 = 0 := by simpa [Transaction.addr] using haligned
  refine ⟨hfirst, ?_⟩
  by_contra hfar
  have hhigh : ¬ 4 * (w.addr.toNat / 4) < Config.setupBytes := by
    show ¬ 4 * (w.addr.toNat / 4) < 4096
    omega
  unfold classify at hregion
  rw [if_neg hhigh] at hregion
  split at hregion <;> cases hregion

theorem Admitted.setup_carried {s : State} {w : BusWrite} (h : Admitted s (.write w) .setup) :
    (carried w).map Prod.fst = (List.range w.beats.length).map fun i => w.addr.toNat + 4 * i := by
  obtain ⟨-, hlow⟩ := h.setup_addr
  have hlongest : w.beats.length ≤ 16 := h.longest
  rw [carried, List.map_fst_zip (by simp [ownWords])]
  refine List.map_congr_left fun i hi => ?_
  have hi := List.mem_range.1 hi
  simp only [Memory.wrap]
  omega

/-- The words of a permitted setup write ascend, each at a multiple of 4. -/
theorem Admitted.setup_ascending {s : State} {w : BusWrite} (h : Admitted s (.write w) .setup) :
    (carried w).Pairwise (fun p q => p.1 < q.1) ∧ ∀ p ∈ carried w, p.1 % 4 = 0 := by
  obtain ⟨haligned, -⟩ := h.setup_addr
  refine ⟨?_, fun p hp => ?_⟩
  · refine List.pairwise_map (R := fun a b => a < b) |>.1 ?_
    rw [h.setup_carried, List.pairwise_map]
    exact (List.pairwise_lt_range).imp fun hab => by omega
  · have hfst : p.1 ∈ (carried w).map Prod.fst := List.mem_map.2 ⟨p, hp, rfl⟩
    rw [h.setup_carried] at hfst
    obtain ⟨i, -, hip⟩ := List.mem_map.1 hfst
    omega

/-- R183: a word of the setup image is carried when the write has it as a full word and it holds a field. -/
theorem mem_setupCarried {s : State} {w : BusWrite} (h : Admitted s (.write w) .setup) {n : Nat} {d : Word} :
    (n, d) ∈ setupCarried w ↔ ∃ b, (4 * n, b) ∈ carried w ∧ Beat.isFull b = true ∧ holdsField n = true ∧ b.data = d := by
  simp only [setupCarried, List.mem_filterMap, Option.ite_none_right_eq_some, Option.some.injEq, Prod.mk.injEq, Bool.and_eq_true]
  constructor
  · rintro ⟨⟨a, b⟩, hb, ⟨hfull, hfield⟩, rfl, rfl⟩
    have haligned := h.setup_ascending.2 _ hb
    have ha : 4 * (a / 4) = a := by
      simp only at haligned
      omega
    exact ⟨b, ha.symm ▸ hb, hfull, hfield, rfl⟩
  · rintro ⟨b, hb, hfull, hfield, rfl⟩
    have hn : 4 * n / 4 = n := by omega
    exact ⟨(4 * n, b), hb, ⟨hfull, hn.symm ▸ hfield⟩, hn, rfl⟩

theorem setupCarried_ascending {s : State} {w : BusWrite} (h : Admitted s (.write w) .setup) :
    (setupCarried w).Pairwise fun p q => p.1 < q.1 := by
  obtain ⟨hascending, haligned⟩ := h.setup_ascending
  refine List.pairwise_filterMap.2 (hascending.imp_of_mem fun {p q} hp hq hpq p' hp' q' hq' => ?_)
  have hp := haligned p hp
  have hq := haligned q hq
  obtain ⟨-, hp'⟩ := Option.ite_none_right_eq_some.1 hp'
  obtain ⟨-, hq'⟩ := Option.ite_none_right_eq_some.1 hq'
  cases hp'
  cases hq'
  show p.1 / 4 < q.1 / 4
  omega

theorem carries_iff {s : State} {w : BusWrite} (h : Admitted s (.write w) .setup) (n : Nat) :
    Carries w n ↔ (setupCarried w).any (fun p => p.1 == n) = true := by
  rw [List.any_eq_true]
  constructor
  · rintro ⟨b, hb, hfull, hfield⟩
    exact ⟨(n, b.data), (mem_setupCarried h).2 ⟨b, hb, hfull, hfield, rfl⟩, beq_self_eq_true n⟩
  · rintro ⟨⟨m, d⟩, hm, heq⟩
    obtain rfl : m = n := by simpa using heq
    obtain ⟨b, hb, hfull, hfield, -⟩ := (mem_setupCarried h).1 hm
    exact ⟨b, hb, hfull, hfield⟩

theorem holdsField_lt {n : Nat} (h : holdsField n = true) : n < 336 := by
  simp only [holdsField, Bool.or_eq_true, Bool.and_eq_true, decide_eq_true_eq] at h
  omega

/-! ### The shadow's words and entries -/

theorem setupWord_set_ne (ws : List Word) {n m : Nat} (d : Word) (h : m ≠ n) : setupWord (ws.set m d) n = setupWord ws n := by
  simp [setupWord, List.getD_eq_getElem?_getD, h]

theorem followWords_other {ws : List Word} {c : List (Nat × Word)} {n : Nat} (h : ∀ p ∈ c, p.1 ≠ n) :
    setupWord (followWords ws c) n = setupWord ws n := by
  induction c generalizing ws with
  | nil => rfl
  | cons p c ih =>
    refine (ih fun q hq => h q (.tail _ hq)).trans ?_
    exact setupWord_set_ne ws p.2 (h p List.mem_cons_self)

theorem followWords_carried {ws : List Word} {c : List (Nat × Word)} {n : Nat} {d : Word} (hn : n < ws.length)
    (hascending : c.Pairwise fun p q => p.1 < q.1) (h : (n, d) ∈ c) : setupWord (followWords ws c) n = d := by
  induction c generalizing ws with
  | nil => cases h
  | cons p c ih =>
    obtain ⟨hfirst, hrest⟩ := List.pairwise_cons.1 hascending
    rcases List.mem_cons.1 h with rfl | hmem
    · refine (followWords_other fun q hq => Nat.ne_of_gt (hfirst q hq)).trans ?_
      exact setupWord_set ws n d hn
    · exact ih (by rwa [List.length_set]) hrest hmem

theorem entryAt_followEntries (es : List WindowEntry) (ws : List Word) (c : List (Nat × Word)) {i : Nat} (hi : i < 16) :
    entryAt (followEntries es ws c) i = if carriesControl c i then entryFromWords ws i else entryAt es i := by
  rw [entryAt, List.getD_eq_getElem?_getD, followEntries, List.getElem?_map, List.getElem?_range hi]
  rfl

/-! ### Records sent back by a grading table write -/

/-- R94: a record sent back. -/
def Record.sentBack (r : Record) : Record := { r with state := .queued, decision := none }

/-- R94, R95: the records `ks` sent back one by one: the records, the queue and the run. -/
theorem requeueAll_values {ks : List Nat} (hnodup : ks.Nodup) {s : State} (hlen : s.tracker.records.length = 32)
    (hks : ∀ k ∈ ks, k < 32 ∧ ((s.record k).state = .optimizing ∨ (s.record k).state = .decided)) {t : State}
    (ht : t = ks.foldl (fun s k => requeue k s) s) :
    (∀ k, t.record k = if k ∈ ks then (s.record k).sentBack else s.record k) ∧
    t.optimizer.queue.Perm (s.optimizer.queue ++ ks.map fun k => { slot := k, lug := (s.record k).lug }) ∧
    (∀ u, s.optimizer.run = some u → ¬ (u.slot ∈ ks ∧ (s.record u.slot).state = .optimizing) → t.optimizer.run = some u) ∧
    ((∀ u, s.optimizer.run = some u → u.slot ∈ ks ∧ (s.record u.slot).state = .optimizing) → t.optimizer.run = none) := by
  induction ks generalizing s with
  | nil =>
    rw [ht]
    refine ⟨fun k => by simp, by simp, fun u hu _ => hu, fun h => ?_⟩
    rw [List.foldl_nil]
    cases hrun : s.optimizer.run with
    | none => rfl
    | some u => exact absurd (h u hrun).1 List.not_mem_nil
  | cons k ks ih =>
    obtain ⟨hnew, hnodup⟩ := List.nodup_cons.1 hnodup
    obtain ⟨hk, hstate⟩ := hks k List.mem_cons_self
    obtain ⟨hrecords, hoptimizer⟩ := requeue_values hstate
    have hrecord : ∀ j, (requeue k s).record j = if j = k then (s.record k).sentBack else s.record j := fun j => by
      by_cases hjk : j = k
      · subst hjk
        rw [if_pos rfl]
        exact record_set_self hlen hk hrecords
      · rw [if_neg hjk]
        exact (record_of_set hrecords j).resolve_right fun h => hjk h.1
    have hother : ∀ j ∈ ks, (requeue k s).record j = s.record j := fun j hj => by
      have hjk : j ≠ k := fun h => hnew (h ▸ hj)
      rw [hrecord, if_neg hjk]
    obtain ⟨hrec, hqueue, hkeeps, hends⟩ := ih (s := requeue k s) hnodup (by rw [hrecords, List.length_set, hlen])
      (fun j hj => by rw [hother j hj]; exact hks j (.tail _ hj)) ht
    refine ⟨fun j => ?_, ?_, fun u hu hno => ?_, fun hall => ?_⟩
    · rw [hrec, hrecord]
      by_cases hjk : j = k
      · subst hjk
        simp [hnew]
      · simp [hjk]
    · have hmap : ks.map (fun j => ({ slot := j, lug := ((requeue k s).record j).lug } : QueueEntry)) =
          ks.map fun j => { slot := j, lug := (s.record j).lug } :=
        List.map_congr_left fun j hj => by rw [hother j hj]
      rw [hmap, hoptimizer] at hqueue
      refine hqueue.trans (((insertByAge_perm ..).append_right _).trans ?_)
      exact List.perm_middle.symm
    · have hrun : (requeue k s).optimizer.run = some u := by
        rw [hoptimizer]
        by_cases hopt : (s.record k).state = .optimizing
        · have hslot : u.slot ≠ k := fun h => hno ⟨h ▸ List.mem_cons_self, h ▸ hopt⟩
          simp only [hopt, if_true, abandonRun_other hu hslot]
        · simp only [hopt, if_false, hu]
      refine hkeeps u hrun fun ⟨hmem, hopt⟩ => hno ⟨.tail _ hmem, ?_⟩
      rwa [hother _ hmem] at hopt
    · refine hends fun u hu => ?_
      rw [hoptimizer] at hu
      have hsome : s.optimizer.run = some u ∧ ¬ ((s.record k).state = .optimizing ∧ u.slot = k) := by
        by_cases hopt : (s.record k).state = .optimizing
        · simp only [hopt, if_true] at hu
          cases hrun : s.optimizer.run with
          | none => simp [abandonRun, hrun] at hu
          | some v =>
            by_cases hslot : v.slot = k
            · simp [abandonRun_none (.inr ⟨v, hrun, hslot⟩)] at hu
            · rw [abandonRun_other hrun hslot] at hu
              cases hu
              exact ⟨rfl, fun h => hslot h.2⟩
        · simp only [hopt, if_false] at hu
          exact ⟨hu, fun h => hopt h.1⟩
      obtain ⟨hrun, hnot⟩ := hsome
      obtain ⟨hmem, hopt⟩ := hall u hrun
      have hmem : u.slot ∈ ks := (List.mem_cons.1 hmem).resolve_left fun h => hnot ⟨h ▸ hopt, h⟩
      exact ⟨hmem, by rwa [hother _ hmem]⟩

end Sys2Proof.Machine
end

section
/-! A setup write, window by window (O29). -/

namespace Sys2Proof.Machine

/-! ### The event writer and its window -/

theorem writerStep_congr {w w' : WindowEntry} (hstart : w.start = w'.start) (hsize : w.size = w'.size) (x : EventWriter) (e : Event) :
    writerStep (some w) x e = writerStep (some w') x e := by
  have hcapacity : ringCapacity w = ringCapacity w' := by rw [ringCapacity, hsize, ringCapacity]
  have haddr : ∀ off, windowAddr w off = windowAddr w' off := fun off => by rw [windowAddr, hstart, windowAddr]
  unfold writerStep
  cases x.ring with
  | none => rfl
  | some r => simp only [hcapacity, haddr]

theorem writerRun_congr {w w' : WindowEntry} (hstart : w.start = w'.start) (hsize : w.size = w'.size) (x : EventWriter) (es : List Event) :
    writerRun (some w) x es = writerRun (some w') x es := by
  induction es generalizing x with
  | nil => rfl
  | cons e es ih => simp only [writerRun, writerStep_congr hstart hsize, ih]

/-- R195: an EVENT window that has not changed in entry, base and size takes events as before. -/
theorem writerRun_of_key {old new : List WindowEntry} (h : eventKey old = eventKey new) (x : EventWriter) (es : List Event) :
    writerRun (windowOf old .event) x es = writerRun (windowOf new .event) x es := by
  simp only [eventKey] at h
  simp only [windowOf]
  cases hold : windowIndex old .event with
  | none =>
    cases hnew : windowIndex new .event with
    | none => rfl
    | some j => simp [hold, hnew] at h
  | some i =>
    cases hnew : windowIndex new .event with
    | none => simp [hold, hnew] at h
    | some j =>
      simp only [hold, hnew, Option.map_some, Option.some.injEq, Prod.mk.injEq] at h
      exact writerRun_congr h.2.1 h.2.2 x es

theorem emitAll_congr {s t : State} (hwindow : t.window .event = s.window .event) (hevents : t.events = s.events)
    (hinternal : t.bus.internal = s.bus.internal) (es : List Event) :
    (emitAll es t).events = (emitAll es s).events ∧ (emitAll es t).bus.internal = (emitAll es s).bus.internal := by
  rw [emitAll_eq, emitAll_eq, hwindow, hevents, hinternal]
  exact ⟨rfl, rfl⟩

theorem emitAll_ring_none {s : State} (h : s.events.ring = none) (es : List Event) : (emitAll es s).events.ring = none := by
  induction es generalizing s with
  | nil => exact h
  | cons e es ih =>
    refine ih (s := emit e s) ?_
    simp [emit_eq, writerStep, h]

theorem emitAll_classes (es : List Event) (s : State) {i : Nat} (hi : i < 8) :
    (emitAll es s).events.classes.getLsbD i = true ↔ s.events.classes.getLsbD i = true ∨ ∃ e ∈ es, e.cls.code = i :=
  (eventsWritten_emitAll es s).pending_iff hi

theorem emitAll_internal (es : List Event) (s : State) : ∃ more, (emitAll es s).bus.internal = s.bus.internal ++ more :=
  ⟨_, congrArg (fun t : State => t.bus.internal) (emitAll_eq es s)⟩

theorem emitLost_foldl (n : Nat → Nat) (hs : List Nat) (s : State) : hs.foldl (fun s h => emitLost h (n h) s) s =
    emitAll (hs.map fun h => event .frame 8 s.tracker.lug (single h) (single (n h))) s := by
  induction hs generalizing s with
  | nil => rfl
  | cons h hs ih =>
    rw [List.foldl_cons, ih]
    simp [emitAll_cons, emitLost, emitNow]

/-! ### Slot tables lost (R41) -/

/-- R41: the heads whose slot table a change of the entries takes away, in ascending order. -/
def lostHeads (old new : List WindowEntry) : List Nat := (changedHeads old new).filter fun h => (frameKey old h).isSome

theorem contains_lostHeads (old new : List WindowEntry) (h : Nat) : (lostHeads old new).contains h = losesTable old new h := by
  rw [Bool.eq_iff_iff, List.contains_iff_mem]
  simp [lostHeads, changedHeads, losesTable, and_assoc]

theorem lostHeads_eq (old new : List WindowEntry) : lostHeads old new = (List.range 6).filter fun h => losesTable old new h := by
  rw [lostHeads, changedHeads, List.filter_filter]
  refine List.filter_congr fun h hh => ?_
  have hlt : h < Config.heads := List.mem_range.1 hh
  simp [losesTable, hlt]

/-- R41: what the loss of slot tables does before its events. -/
def tablesCleared (hs : List Nat) (s : State) : State :=
  let s' := dropEngine (fun e => hs.contains e.head) (leaveIntakeQueue (fun e => hs.contains e.head) s)
  { s' with tracker := { s'.tracker with
    records := s'.tracker.records.map fun r => { r with held := r.held.filter fun p => !hs.contains p.1 } } }

/-- R41, R44: the WINDOW_LOST events of the heads `hs`. -/
def lostEvents (hs : List Nat) (s : State) : List Event :=
  hs.map fun h => event .frame 8 s.tracker.lug (single h) (single (s.intake.queue.countP fun e => e.head == h))

theorem tablesCleared_frame (hs : List Nat) (s : State) : (tablesCleared hs s).tracker.lug = s.tracker.lug ∧
    (tablesCleared hs s).events = s.events ∧ (tablesCleared hs s).bus = s.bus ∧ (tablesCleared hs s).shadow = s.shadow := by
  simp [tablesCleared]

theorem loseTables_eq {hs : List Nat} (h : hs ≠ []) (s : State) : loseTables hs s = emitAll (lostEvents hs s) (tablesCleared hs s) := by
  have hne : hs.isEmpty = false := by simpa using h
  have hlug := (tablesCleared_frame hs s).1
  simp only [loseTables, hne, Bool.false_eq_true, if_false]
  rw [emitLost_foldl]
  rw [lostEvents, ← hlug]
  rfl

theorem dropEngine_engine (gone : IntakeRun → Bool) (s : State) :
    (dropEngine gone s).intake.engine = s.intake.engine.map fun e => { e with dropped := e.dropped || gone e } := by
  unfold dropEngine
  split
  · next e he =>
    split
    · next hgone => simp [he, hgone]
    · next hgone => simp [he, hgone]
  · next he => simp [he]

/-- R41: the blocks after slot tables are lost. -/
theorem loseTables_values (hs : List Nat) (s : State) :
    (∀ k, (loseTables hs s).record k = { s.record k with held := (s.record k).held.filter fun p => !hs.contains p.1 }) ∧
    (loseTables hs s).intake.queue = s.intake.queue.filter (fun e => !hs.contains e.head) ∧
    (loseTables hs s).intake.engine = s.intake.engine.map (fun e => { e with dropped := e.dropped || hs.contains e.head }) ∧
    (hs = [] → (loseTables hs s).measure = s.measure) ∧
    (hs ≠ [] → MarksPassed s.intake.queue (fun e => hs.contains e.head) s.tracker.lug s.measure (loseTables hs s).measure) ∧
    (loseTables hs s).events = (emitAll (lostEvents hs s) s).events ∧
    (loseTables hs s).bus.internal = (emitAll (lostEvents hs s) s).bus.internal := by
  by_cases hnone : hs = []
  · subst hnone
    have hfilter : ∀ {α : Type} (l : List α), l.filter (fun _ => true) = l := fun l => List.filter_eq_self.2 fun _ _ => rfl
    have hengine : s.intake.engine.map (fun e => { e with dropped := e.dropped || ([] : List Nat).contains e.head }) = s.intake.engine := by
      cases s.intake.engine <;> simp
    have hstays : loseTables [] s = s := rfl
    rw [hstays, hengine]
    exact ⟨fun k => by simp [hfilter], by simp [hfilter], rfl, fun _ => rfl, fun h => absurd rfl h, rfl, rfl⟩
  · have hkept := emitAll_blocksKept (lostEvents hs s) (tablesCleared hs s)
    obtain ⟨-, hevents, hbus, hshadow⟩ := tablesCleared_frame hs s
    obtain ⟨hwrote, hissued⟩ := emitAll_congr (s := s) (t := tablesCleared hs s) (window_of_shadow hshadow _) hevents (congrArg _ hbus)
      (lostEvents hs s)
    rw [loseTables_eq hnone]
    generalize emitAll (lostEvents hs s) (tablesCleared hs s) = t at *
    refine ⟨fun k => ?_, ?_, ?_, fun h => absurd h hnone, fun _ => ?_, hwrote, hissued⟩
    · have hblank : Record.blank = { Record.blank with held := Record.blank.held.filter fun p => !hs.contains p.1 } := rfl
      rw [record_of_records (congrArg _ hkept.tracker)]
      simp only [State.record, tablesCleared, dropEngine_frame, leaveIntakeQueue_frame]
      rw [hblank, List.getD_map, ← hblank]
    · rw [hkept.intake]
      simp [tablesCleared, leaveIntakeQueue]
    · rw [hkept.intake]
      simp [tablesCleared, dropEngine_engine]
    · rw [hkept.measure]
      have hmeasure : (tablesCleared hs s).measure = (leaveIntakeQueue (fun e => hs.contains e.head) s).measure := by
        simp [tablesCleared]
      rw [hmeasure]
      exact leaveIntakeQueue_marksPassed (fun e => hs.contains e.head) s

/-! ### The windows of a setup write -/

theorem getD_foldl_set {α : Type} (f : Nat → α) (d : α) (hs : List Nat) (ts : List α) {h : Nat} (hlt : h < ts.length) :
    (hs.foldl (fun ts h => ts.set h (f h)) ts).getD h d = if h ∈ hs then f h else ts.getD h d := by
  induction hs generalizing ts with
  | nil => simp
  | cons j hs ih =>
    rw [List.foldl_cons, ih _ (by rwa [List.length_set])]
    by_cases hmem : h ∈ hs
    · simp [hmem]
    · by_cases hj : h = j
      · subst hj
        simp [hmem, List.getD_eq_getElem?_getD, hlt]
      · simp [hmem, hj, List.getD_eq_getElem?_getD, Ne.symm hj]

/-- R24, R41: the slot tables after a change of the entries in force. -/
theorem frameWindowsChanged_tables (old : List WindowEntry) {s : State} (hlen : s.intake.tables.length = 6) {h : Nat} (hh : h < 6) :
    (frameWindowsChanged old s).intake.tables.getD h none = if frameKey old h = frameKey s.shadow.entries h then s.intake.tables.getD h none
      else freshTable s.shadow.entries h := by
  have hmem : h ∈ changedHeads old s.shadow.entries ↔ ¬ frameKey old h = frameKey s.shadow.entries h := by
    simp [changedHeads, Config.heads, hh]
  simp only [frameWindowsChanged, loseTables_frame]
  rw [getD_foldl_set _ _ _ _ (hlen ▸ hh)]
  by_cases hkey : frameKey old h = frameKey s.shadow.entries h
  · rw [if_neg fun hm => hmem.1 hm hkey, if_pos hkey]
  · rw [if_pos (hmem.2 hkey), if_neg hkey]

/-- R163: a zeroing burst of the old window is its own no longer. -/
theorem tallyWindowChanged_values (s : State) : (tallyWindowChanged s).tally = s.tally.takenUp (s.window .tally) ∧
    ∃ old, (tallyWindowChanged s).bus.internal = old ++ tallyWrites (s.tally.takenUp (s.window .tally)) (s.window .tally) ∧
      ∀ b ∈ s.bus.internal, (∀ i, b.purpose ≠ .zeroing i) → b ∈ old := by
  obtain ⟨htally, hinternal⟩ := beginZeroing_header
    (orphanBursts (fun p => match p with | .zeroing _ => true | _ => false) s)
  refine ⟨htally, _, hinternal, fun b hb hno => List.mem_map.2 ⟨b, hb, ?_⟩⟩
  unfold Burst.orphan
  refine if_neg fun hz => ?_
  cases hp : b.purpose with
  | zeroing i => exact hno i hp
  | _ => simp [hp] at hz

end Sys2Proof.Machine
end

section
/-! A setup write in its parts: shadow and EVENT window, the events of the write, windows, grading tables (O29, O30). -/

namespace Sys2Proof.Machine

/-! ### Windows -/

theorem eventWindowChanged_of_key {old : List WindowEntry} {s : State} (h : eventKey old = eventKey s.shadow.entries) :
    eventWindowChanged old s = s := by
  simp [eventWindowChanged, h]

/-- R195: an EVENT window that changed leaves no header state, and its header is read. -/
theorem eventWindowChanged_asks {old : List WindowEntry} {s : State} (h : eventKey old ≠ eventKey s.shadow.entries) :
    (eventWindowChanged old s).events.ring = none ∧
    ∀ e, s.window .event = some e → readBurst (windowAddr e 0) 2 .eventHeader ∈ (eventWindowChanged old s).bus.internal := by
  obtain ⟨hring, hinternal⟩ := askEventHeader_values s
  rw [eventWindowChanged, if_pos h]
  refine ⟨hring, fun e he => ?_⟩
  rw [hinternal, he]
  exact List.mem_append_right _ List.mem_cons_self

theorem windowsChanged_of_tally {old : List WindowEntry} {s : State} (h : windowKey old .tally = windowKey s.shadow.entries .tally) :
    windowsChanged old s = frameWindowsChanged old s := by
  simp [windowsChanged, h]

theorem windowsChanged_of_tally_ne {old : List WindowEntry} {s : State} (h : windowKey old .tally ≠ windowKey s.shadow.entries .tally) :
    windowsChanged old s = tallyWindowChanged (frameWindowsChanged old s) := by
  simp [windowsChanged, h]

/-- What the tally unit's part of a change of windows leaves as the slot tables' part had it. -/
theorem windowsChanged_blocks (old : List WindowEntry) (s : State) :
    (windowsChanged old s).tracker = (frameWindowsChanged old s).tracker ∧
    (windowsChanged old s).intake = (frameWindowsChanged old s).intake ∧
    (windowsChanged old s).measure = (frameWindowsChanged old s).measure ∧
    (windowsChanged old s).events = (frameWindowsChanged old s).events := by
  simp only [windowsChanged]
  split <;> simp

/-- What the new slot tables leave as the loss of the old ones had it. -/
theorem frameWindowsChanged_blocks (old : List WindowEntry) (s : State) :
    (frameWindowsChanged old s).tracker = (loseTables (lostHeads old s.shadow.entries) s).tracker ∧
    (frameWindowsChanged old s).intake.queue = (loseTables (lostHeads old s.shadow.entries) s).intake.queue ∧
    (frameWindowsChanged old s).intake.engine = (loseTables (lostHeads old s.shadow.entries) s).intake.engine ∧
    (frameWindowsChanged old s).measure = (loseTables (lostHeads old s.shadow.entries) s).measure ∧
    (frameWindowsChanged old s).events = (loseTables (lostHeads old s.shadow.entries) s).events ∧
    (frameWindowsChanged old s).bus = (loseTables (lostHeads old s.shadow.entries) s).bus := ⟨rfl, rfl, rfl, rfl, rfl, rfl⟩

/-- R41: records, frame intake, close list and events after a change of the windows in force. -/
theorem windowsChanged_values (old : List WindowEntry) (s : State) :
    (∀ k, (windowsChanged old s).record k =
      { s.record k with held := (s.record k).held.filter fun p => !losesTable old s.shadow.entries p.1 }) ∧
    (windowsChanged old s).intake.queue = s.intake.queue.filter (fun e => !losesTable old s.shadow.entries e.head) ∧
    (windowsChanged old s).intake.engine =
      s.intake.engine.map (fun e => { e with dropped := e.dropped || losesTable old s.shadow.entries e.head }) ∧
    (lostHeads old s.shadow.entries = [] → (windowsChanged old s).measure = s.measure) ∧
    (lostHeads old s.shadow.entries ≠ [] → MarksPassed s.intake.queue (fun e => losesTable old s.shadow.entries e.head) s.tracker.lug
      s.measure (windowsChanged old s).measure) ∧
    (windowsChanged old s).events = (emitAll (lostEvents (lostHeads old s.shadow.entries) s) s).events := by
  obtain ⟨htracker, hintake, hmeasure, hevents⟩ := windowsChanged_blocks old s
  obtain ⟨htracker', hqueue', hengine', hmeasure', hevents', -⟩ := frameWindowsChanged_blocks old s
  have hvalues := loseTables_values (lostHeads old s.shadow.entries) s
  simp only [contains_lostHeads] at hvalues
  obtain ⟨hrecord, hqueue, hengine, hstays, hpassed, hwrote, -⟩ := hvalues
  rw [hintake, hmeasure, hevents, hqueue', hengine', hmeasure', hevents']
  exact ⟨fun k => (record_of_records (by rw [htracker, htracker']) k).trans (hrecord k), hqueue, hengine, hstays, hpassed, hwrote⟩

/-- R163: what a change of windows puts into the internal stream while the TALLY window stays. -/
theorem windowsChanged_internal {old : List WindowEntry} {s : State} (h : windowKey old .tally = windowKey s.shadow.entries .tally) :
    (windowsChanged old s).tally = s.tally ∧
    (windowsChanged old s).bus.internal = (emitAll (lostEvents (lostHeads old s.shadow.entries) s) s).bus.internal := by
  obtain ⟨-, -, -, -, -, hbus⟩ := frameWindowsChanged_blocks old s
  obtain ⟨-, -, -, -, -, -, hinternal⟩ := loseTables_values (lostHeads old s.shadow.entries) s
  rw [windowsChanged_of_tally h, hbus]
  exact ⟨by simp, hinternal⟩

/-- R163: a TALLY window that changed is given the header, and an unfinished zeroing begins again there. -/
theorem windowsChanged_tally {old : List WindowEntry} {s : State} (h : windowKey old .tally ≠ windowKey s.shadow.entries .tally) :
    (windowsChanged old s).tally = s.tally.takenUp (s.window .tally) ∧
    ∀ b ∈ tallyWrites (s.tally.takenUp (s.window .tally)) (s.window .tally), b ∈ (windowsChanged old s).bus.internal := by
  obtain ⟨htally, before, hinternal, -⟩ := tallyWindowChanged_values (frameWindowsChanged old s)
  have hwindow : (frameWindowsChanged old s).window .tally = s.window .tally := window_of_shadow (by simp) _
  have hkept : (frameWindowsChanged old s).tally = s.tally := by simp
  rw [hwindow, hkept] at htally hinternal
  rw [windowsChanged_of_tally_ne h, hinternal]
  exact ⟨htally, fun b hb => List.mem_append_right _ hb⟩

/-- A change of windows leaves in the internal stream what is no zeroing burst. -/
theorem windowsChanged_mem (old : List WindowEntry) (s : State) {b : Burst} (hb : b ∈ s.bus.internal)
    (hno : ∀ i, b.purpose ≠ .zeroing i) : b ∈ (windowsChanged old s).bus.internal := by
  have hframes : b ∈ (frameWindowsChanged old s).bus.internal := by
    obtain ⟨-, -, -, -, -, hbus⟩ := frameWindowsChanged_blocks old s
    obtain ⟨-, -, -, -, -, -, hinternal⟩ := loseTables_values (lostHeads old s.shadow.entries) s
    obtain ⟨more, hmore⟩ := emitAll_internal (lostEvents (lostHeads old s.shadow.entries) s) s
    rw [hbus, hinternal, hmore]
    exact List.mem_append_left _ hb
  by_cases h : windowKey old .tally = windowKey s.shadow.entries .tally
  · rwa [windowsChanged_of_tally h]
  · obtain ⟨-, before, hinternal, hstay⟩ := tallyWindowChanged_values (frameWindowsChanged old s)
    rw [windowsChanged_of_tally_ne h, hinternal]
    exact List.mem_append_left _ (hstay b hframes hno)

theorem windowsChanged_tables (old : List WindowEntry) {s : State} (hlen : s.intake.tables.length = 6) {h : Nat} (hh : h < 6) :
    (windowsChanged old s).intake.tables.getD h none =
      if frameKey old h = frameKey s.shadow.entries h then s.intake.tables.getD h none else freshTable s.shadow.entries h := by
  rw [(windowsChanged_blocks old s).2.1]
  exact frameWindowsChanged_tables old hlen hh

/-! ### Grading tables -/

/-- R94: the events a grading table write adds, when it sends records back. -/
def restartEvents (s : State) : List Event :=
  if sentBack s = [] then [] else [event .decision 2 s.tracker.lug (single (sentBack s).length) (abandonedLug s)]

/-- R94: the records sent back, as the record table stands before the event. -/
def allSentBack (s : State) : State := (sentBack s).foldl (fun s k => requeue k s) s

theorem allSentBack_frame (s : State) : (allSentBack s).shadow = s.shadow ∧ (allSentBack s).tracker.lug = s.tracker.lug ∧
    (allSentBack s).events = s.events ∧ (allSentBack s).bus = s.bus ∧ (allSentBack s).tracker.areas = s.tracker.areas :=
  ⟨foldl_keeps _ _ s (fun s => s.shadow) fun s k => by simp, foldl_keeps _ _ s (fun s => s.tracker.lug) fun s k => by simp,
   foldl_keeps _ _ s (fun s => s.events) fun s k => by simp, foldl_keeps _ _ s (fun s => s.bus) fun s k => by simp,
   foldl_keeps _ _ s (fun s => s.tracker.areas) fun s k => by simp⟩

theorem gradingWrite_eq (s : State) : gradingWrite s = emitAll (restartEvents s) (allSentBack s) := by
  obtain ⟨-, hlug, -⟩ := allSentBack_frame s
  unfold gradingWrite restartEvents
  by_cases h : sentBack s = []
  · simp [h, emitAll_nil, allSentBack]
  · have hne : (sentBack s).isEmpty = false := by simpa using h
    simp only [hne, Bool.false_eq_true, if_false, if_neg h]
    rw [emitAll_cons, emitAll_nil, ← hlug]
    rfl

theorem gradingWrite_events (s : State) : (gradingWrite s).events = (emitAll (restartEvents s) s).events ∧
    (gradingWrite s).bus.internal = (emitAll (restartEvents s) s).bus.internal := by
  obtain ⟨hshadow, -, hevents, hbus, -⟩ := allSentBack_frame s
  rw [gradingWrite_eq]
  exact emitAll_congr (window_of_shadow hshadow _) hevents (congrArg _ hbus) _

theorem gradingWrite_table (s : State) : (gradingWrite s).tracker.records = (allSentBack s).tracker.records ∧
    (gradingWrite s).optimizer = (allSentBack s).optimizer := by
  have hkept := emitAll_blocksKept (restartEvents s) (allSentBack s)
  rw [gradingWrite_eq]
  exact ⟨congrArg _ hkept.tracker, hkept.optimizer⟩

theorem mem_sentBack (s : State) (k : Nat) : k ∈ sentBack s ↔
    k < 32 ∧ (s.record k).committed = false ∧ ((s.record k).state = .decided ∨ (s.record k).state = .optimizing) := by
  simp [sentBack, Config.recordSlots]

/-- R94, R95: records, decision queue and run after a grading table write. -/
theorem gradingWrite_values {s : State} (hlen : s.tracker.records.length = 32) :
    (∀ k, (gradingWrite s).record k = if k ∈ sentBack s then (s.record k).sentBack else s.record k) ∧
    (gradingWrite s).optimizer.queue.Perm (s.optimizer.queue ++ (sentBack s).map fun k => { slot := k, lug := (s.record k).lug }) ∧
    (∀ u, s.optimizer.run = some u → ¬ (u.slot ∈ sentBack s ∧ (s.record u.slot).state = .optimizing) →
      (gradingWrite s).optimizer.run = some u) ∧
    ((∀ u, s.optimizer.run = some u → u.slot ∈ sentBack s ∧ (s.record u.slot).state = .optimizing) →
      (gradingWrite s).optimizer.run = none) := by
  obtain ⟨hrecords, hoptimizer⟩ := gradingWrite_table s
  obtain ⟨hrecord, hqueue, hkeeps, hends⟩ := requeueAll_values (ks := sentBack s) (s := s) (t := allSentBack s)
    (List.nodup_range.filter _) hlen (fun k hk => ⟨((mem_sentBack s k).1 hk).1, ((mem_sentBack s k).1 hk).2.2.symm⟩) rfl
  rw [hoptimizer]
  exact ⟨fun k => (record_of_records hrecords k).trans (hrecord k), hqueue, hkeeps, hends⟩

end Sys2Proof.Machine
end

section
/-! A setup write as a whole: what it leaves in each block (O29, O30). -/

namespace Sys2Proof.Machine

/-! ### The write in its parts -/

/-- The write carries a word of the grading tables. -/
def setupGraded (w : BusWrite) : Bool := (setupCarried w).any fun p => inGradingTables p.1

/-- R183: the setup words after the write. -/
def newWords (w : BusWrite) (s : State) : List Word := followWords s.shadow.words (setupCarried w)

/-- R177: the entries in force after the write. -/
def newEntries (w : BusWrite) (s : State) : List WindowEntry := followEntries s.shadow.entries (newWords w s) (setupCarried w)

/-- R183, R195: shadow, filter times and EVENT window after the write, before its events. -/
def shadowFollowed (w : BusWrite) (s : State) : State :=
  eventWindowChanged s.shadow.entries (s.withSetup (newWords w s) (newEntries w s))

/-- R177, R184: the SETUP_ERR events of the write. -/
def writeErrors (w : BusWrite) (s : State) : List Event :=
  setupErrors s.tracker.lug (newWords w s) (ignoredByWrite (newEntries w s) (setupCarried w))
    (clampedByWrite s.shadow.words (newWords w s) (setupCarried w))

/-- R177: the part before a grading table write sends records back. -/
def windowsFollowed (w : BusWrite) (s : State) : State :=
  windowsChanged s.shadow.entries (emitAll (writeErrors w s) (shadowFollowed w s))

/-- Every event of the write, in order. -/
def setupEvents (w : BusWrite) (s : State) : List Event :=
  writeErrors w s ++ lostEvents (lostHeads s.shadow.entries (newEntries w s)) s ++
    if setupGraded w then restartEvents (windowsFollowed w s) else []

theorem followSetup_parts (w : BusWrite) (s : State) :
    followSetup w s = if setupGraded w then gradingWrite (windowsFollowed w s) else windowsFollowed w s :=
  followSetup_eq rfl rfl rfl

@[simp] theorem shadowFollowed_frame (w : BusWrite) (s : State) :
    (shadowFollowed w s).shadow = { s.shadow with words := newWords w s, entries := newEntries w s } ∧
    (shadowFollowed w s).tracker = s.tracker ∧ (shadowFollowed w s).intake = s.intake ∧ (shadowFollowed w s).measure = s.measure ∧
    (shadowFollowed w s).tally = s.tally ∧ (shadowFollowed w s).optimizer = s.optimizer ∧
    (shadowFollowed w s).inputs = (s.withSetup (newWords w s) (newEntries w s)).inputs ∧
    (shadowFollowed w s).events.classes = s.events.classes := by
  simp only [shadowFollowed, eventWindowChanged_frame]
  exact ⟨rfl, rfl, rfl, rfl, rfl, rfl, trivial, rfl⟩

/-- The state in which the windows change, by its blocks. -/
theorem errorsWritten_frame (w : BusWrite) (s : State) (es : List Event) :
    (emitAll es (shadowFollowed w s)).shadow = { s.shadow with words := newWords w s, entries := newEntries w s } ∧
    (emitAll es (shadowFollowed w s)).tracker = s.tracker ∧ (emitAll es (shadowFollowed w s)).intake = s.intake ∧
    (emitAll es (shadowFollowed w s)).measure = s.measure ∧ (emitAll es (shadowFollowed w s)).tally = s.tally ∧
    (emitAll es (shadowFollowed w s)).optimizer = s.optimizer ∧
    (emitAll es (shadowFollowed w s)).inputs = (s.withSetup (newWords w s) (newEntries w s)).inputs := by
  have hkept := emitAll_blocksKept es (shadowFollowed w s)
  rw [hkept.shadow, hkept.tracker, hkept.intake, hkept.measure, hkept.tally, hkept.optimizer, hkept.inputs]
  simp only [shadowFollowed_frame]
  exact ⟨trivial, trivial, trivial, trivial, trivial, trivial, trivial⟩

@[simp] theorem windowsFollowed_frame (w : BusWrite) (s : State) :
    (windowsFollowed w s).shadow = { s.shadow with words := newWords w s, entries := newEntries w s } ∧
    (windowsFollowed w s).tracker.lug = s.tracker.lug ∧ (windowsFollowed w s).optimizer = s.optimizer ∧
    (windowsFollowed w s).inputs = (s.withSetup (newWords w s) (newEntries w s)).inputs := by
  obtain ⟨hshadow, htracker, -, -, -, hoptimizer, hinputs⟩ := errorsWritten_frame w s (writeErrors w s)
  simp only [windowsFollowed, windowsChanged_frame, hshadow, htracker, hoptimizer, hinputs]
  exact ⟨trivial, trivial, trivial, trivial⟩

/-- R41: records, frame intake, close list and events once the windows have changed. -/
theorem windowsFollowed_values (w : BusWrite) (s : State) :
    (∀ k, (windowsFollowed w s).record k =
      { s.record k with held := (s.record k).held.filter fun p => !losesTable s.shadow.entries (newEntries w s) p.1 }) ∧
    (windowsFollowed w s).intake.queue = s.intake.queue.filter (fun e => !losesTable s.shadow.entries (newEntries w s) e.head) ∧
    (windowsFollowed w s).intake.engine =
      s.intake.engine.map (fun e => { e with dropped := e.dropped || losesTable s.shadow.entries (newEntries w s) e.head }) ∧
    (lostHeads s.shadow.entries (newEntries w s) = [] → (windowsFollowed w s).measure = s.measure) ∧
    (lostHeads s.shadow.entries (newEntries w s) ≠ [] → MarksPassed s.intake.queue
      (fun e => losesTable s.shadow.entries (newEntries w s) e.head) s.tracker.lug s.measure (windowsFollowed w s).measure) ∧
    (windowsFollowed w s).events =
      (emitAll (writeErrors w s ++ lostEvents (lostHeads s.shadow.entries (newEntries w s)) s) (shadowFollowed w s)).events := by
  obtain ⟨hshadow, htracker, hintake, hmeasure, -⟩ := errorsWritten_frame w s (writeErrors w s)
  have hvalues := windowsChanged_values s.shadow.entries (emitAll (writeErrors w s) (shadowFollowed w s))
  have hrecord : ∀ k, (emitAll (writeErrors w s) (shadowFollowed w s)).record k = s.record k :=
    record_of_records (congrArg _ htracker)
  simp only [lostEvents, hshadow, htracker, hintake, hmeasure, hrecord] at hvalues
  rw [emitAll_append]
  exact hvalues

theorem windowsFollowed_tables (w : BusWrite) {s : State} (hlen : s.intake.tables.length = 6) {h : Nat} (hh : h < 6) :
    (windowsFollowed w s).intake.tables.getD h none = if frameKey s.shadow.entries h = frameKey (newEntries w s) h
      then s.intake.tables.getD h none else freshTable (newEntries w s) h := by
  obtain ⟨hshadow, -, hintake, -⟩ := errorsWritten_frame w s (writeErrors w s)
  have htables := windowsChanged_tables s.shadow.entries (s := emitAll (writeErrors w s) (shadowFollowed w s)) (by rwa [hintake]) hh
  simp only [hshadow, hintake] at htables
  exact htables

theorem windowsFollowed_keeps (b : Nat) (w : BusWrite) (s : State) : Keeps b s (windowsFollowed w s) :=
  (withSetup_keeps b (followWords_length ..) (by simp [newEntries, followEntries])).trans
    ((eventWindowChanged_keeps b s.shadow.entries _).trans ((emitAll_keeps b _ _).trans (windowsChanged_keeps b s.shadow.entries _)))

/-- R163: while the TALLY window stays, the internal stream holds the accesses of the events only. -/
theorem windowsFollowed_internal {w : BusWrite} {s : State}
    (h : windowKey s.shadow.entries .tally = windowKey (newEntries w s) .tally) : (windowsFollowed w s).tally = s.tally ∧
    (windowsFollowed w s).bus.internal = (emitAll (writeErrors w s ++ lostEvents (lostHeads s.shadow.entries (newEntries w s)) s)
      (shadowFollowed w s)).bus.internal := by
  obtain ⟨hshadow, htracker, hintake, -, htally, -⟩ := errorsWritten_frame w s (writeErrors w s)
  have hvalues := windowsChanged_internal (old := s.shadow.entries) (s := emitAll (writeErrors w s) (shadowFollowed w s))
    (by rwa [hshadow])
  simp only [lostEvents, hshadow, htracker, hintake, htally] at hvalues
  rw [emitAll_append]
  exact hvalues

theorem windowsFollowed_tally {w : BusWrite} {s : State}
    (h : windowKey s.shadow.entries .tally ≠ windowKey (newEntries w s) .tally) :
    (windowsFollowed w s).tally = s.tally.takenUp (windowOf (newEntries w s) .tally) ∧
    ∀ b ∈ tallyWrites (s.tally.takenUp (windowOf (newEntries w s) .tally)) (windowOf (newEntries w s) .tally),
      b ∈ (windowsFollowed w s).bus.internal := by
  obtain ⟨hshadow, -, -, -, htally, -⟩ := errorsWritten_frame w s (writeErrors w s)
  have hvalues := windowsChanged_tally (old := s.shadow.entries) (s := emitAll (writeErrors w s) (shadowFollowed w s))
    (by rwa [hshadow])
  simp only [State.window, hshadow, htally] at hvalues
  exact hvalues

/-! ### The whole write -/

theorem followSetup_shadow (w : BusWrite) (s : State) :
    (followSetup w s).shadow = { s.shadow with words := newWords w s, entries := newEntries w s } ∧
    (followSetup w s).inputs = (s.withSetup (newWords w s) (newEntries w s)).inputs := by
  rw [followSetup_parts]
  split <;> simp

/-- What a grading table write leaves as the windows have it. -/
theorem followSetup_blocks (w : BusWrite) (s : State) : (followSetup w s).intake = (windowsFollowed w s).intake ∧
    (followSetup w s).measure = (windowsFollowed w s).measure ∧ (followSetup w s).tally = (windowsFollowed w s).tally := by
  rw [followSetup_parts]
  split <;> simp

theorem followSetup_writes (w : BusWrite) (s : State) :
    (followSetup w s).events = (emitAll (if setupGraded w then restartEvents (windowsFollowed w s) else []) (windowsFollowed w s)).events ∧
    (followSetup w s).bus.internal =
      (emitAll (if setupGraded w then restartEvents (windowsFollowed w s) else []) (windowsFollowed w s)).bus.internal := by
  rw [followSetup_parts]
  split
  · exact gradingWrite_events (windowsFollowed w s)
  · exact ⟨rfl, rfl⟩

/-- The event writer takes every event of the write, behind the change of its window. -/
theorem followSetup_events (w : BusWrite) (s : State) : (followSetup w s).events = (emitAll (setupEvents w s) (shadowFollowed w s)).events ∧
    (windowKey s.shadow.entries .tally = windowKey (newEntries w s) .tally →
      (followSetup w s).bus.internal = (emitAll (setupEvents w s) (shadowFollowed w s)).bus.internal) := by
  obtain ⟨hwrote, hissued⟩ := followSetup_writes w s
  obtain ⟨-, -, -, -, -, hevents⟩ := windowsFollowed_values w s
  have hwindow : ∀ es, (windowsFollowed w s).window .event = (emitAll es (shadowFollowed w s)).window .event := fun es =>
    window_of_shadow (by rw [(windowsFollowed_frame w s).1, (errorsWritten_frame w s es).1]) _
  have hstep : ∀ es fs, (windowsFollowed w s).events = (emitAll es (shadowFollowed w s)).events →
      (emitAll fs (windowsFollowed w s)).events = (emitAll (es ++ fs) (shadowFollowed w s)).events := fun es fs h => by
    rw [emitAll_append, emitAll_eq, emitAll_eq fs, hwindow es, h]
  rw [hwrote, hissued, setupEvents]
  refine ⟨hstep _ _ hevents, fun hkey => ?_⟩
  rw [emitAll_append]
  exact (emitAll_congr (hwindow _) hevents (windowsFollowed_internal hkey).2 _).2

/-- What is no zeroing burst stays in the internal stream from the change of the EVENT window on. -/
theorem followSetup_mem (w : BusWrite) (s : State) {b : Burst} (hb : b ∈ (shadowFollowed w s).bus.internal)
    (hno : ∀ i, b.purpose ≠ .zeroing i) : b ∈ (followSetup w s).bus.internal := by
  obtain ⟨errors, herrors⟩ := emitAll_internal (writeErrors w s) (shadowFollowed w s)
  obtain ⟨restarts, hrestarts⟩ := emitAll_internal (if setupGraded w then restartEvents (windowsFollowed w s) else [])
    (windowsFollowed w s)
  rw [(followSetup_writes w s).2, hrestarts]
  refine List.mem_append_left _ (windowsChanged_mem s.shadow.entries _ ?_ hno)
  rw [herrors]
  exact List.mem_append_left _ hb

theorem loseTables_records_length (hs : List Nat) (s : State) :
    (loseTables hs s).tracker.records.length = s.tracker.records.length := by
  unfold loseTables
  split <;> simp

theorem windowsFollowed_records_length (w : BusWrite) {s : State} (hlen : s.tracker.records.length = 32) :
    (windowsFollowed w s).tracker.records.length = 32 := by
  obtain ⟨-, htracker, -⟩ := errorsWritten_frame w s (writeErrors w s)
  rw [windowsFollowed, (windowsChanged_blocks _ _).1, (frameWindowsChanged_blocks _ _).1, loseTables_records_length, htracker, hlen]

theorem followSetup_held (w : BusWrite) {s : State} (hlen : s.tracker.records.length = 32) (k : Nat) :
    ((followSetup w s).record k).held =
      (s.record k).held.filter fun p => !losesTable s.shadow.entries (newEntries w s) p.1 := by
  obtain ⟨hrecord, -⟩ := windowsFollowed_values w s
  rw [followSetup_parts]
  split
  · rw [(gradingWrite_values (windowsFollowed_records_length w hlen)).1, hrecord]
    split <;> rfl
  · rw [hrecord]

/-- The end of a change leaves every held-slot list. -/
theorem settle_held (s0 x : State) (k : Nat) : ((settle s0 x).record k).held = (x.record k).held := by
  rw [settle_record, startOptimizer]
  split
  · next e _ _ _ _ =>
    rcases record_of_set (s := x) (t := x.setRecord e.slot { x.record e.slot with state := .optimizing }) rfl k with h | ⟨rfl, h⟩
    all_goals
      have hheld := congrArg Record.held h
      exact hheld
  · rfl

end Sys2Proof.Machine
end

section
/-! A grading table write (O30). -/

namespace Sys2Proof.Machine

/-! ### What is sent back, by the records before the write -/

/-- From `s` to `u` records have lost held slots only, and lug number and optimizer have stayed. -/
structure HeldOnly (s u : State) : Prop where
  record : ∀ k, u.record k = { s.record k with held := (u.record k).held }
  optimizer : u.optimizer = s.optimizer
  lug : u.tracker.lug = s.tracker.lug

theorem HeldOnly.state {s u : State} (h : HeldOnly s u) (k : Nat) : (u.record k).state = (s.record k).state := by rw [h.record]

theorem HeldOnly.committed {s u : State} (h : HeldOnly s u) (k : Nat) : (u.record k).committed = (s.record k).committed := by
  rw [h.record]

theorem HeldOnly.recordLug {s u : State} (h : HeldOnly s u) (k : Nat) : (u.record k).lug = (s.record k).lug := by rw [h.record]

theorem HeldOnly.mem_sentBack {s u : State} (h : HeldOnly s u) (k : Nat) : k ∈ sentBack u ↔
    k < 32 ∧ (s.record k).committed = false ∧ ((s.record k).state = .decided ∨ (s.record k).state = .optimizing) := by
  rw [Machine.mem_sentBack, h.state, h.committed]

theorem HeldOnly.sentBack_eq {s u : State} (h : HeldOnly s u) : sentBack u = (List.range 32).filter (fun k =>
    decide ((s.record k).committed = false ∧ ((s.record k).state = .decided ∨ (s.record k).state = .optimizing))) := by
  rw [sentBack]
  refine List.filter_congr fun k _ => ?_
  rw [h.state, h.committed, Bool.eq_iff_iff]
  simp

/-- R95: the lug of the abandoned run, with the run and the records as before the write. -/
theorem HeldOnly.abandonedLug_eq {s u : State} (h : HeldOnly s u) {lost : Word}
    (hrun : ∀ r, s.optimizer.run = some r → (s.record r.slot).state = .optimizing → (s.record r.slot).committed = false →
      lost = single r.lug.toNat)
    (hnone : (∀ r, s.optimizer.run = some r → ¬ ((s.record r.slot).state = .optimizing ∧ (s.record r.slot).committed = false)) →
      lost = 0xFFFFFFFF#32) : abandonedLug u = lost := by
  rw [abandonedLug, h.optimizer]
  cases hr : s.optimizer.run with
  | none => exact (hnone fun r hsome => by simp [hr] at hsome).symm
  | some r =>
    show (if (u.record r.slot).state = .optimizing ∧ !(u.record r.slot).committed then single r.lug.toNat else 0xFFFFFFFF#32) = lost
    rw [h.state, h.committed]
    by_cases hsent : (s.record r.slot).state = .optimizing ∧ (s.record r.slot).committed = false
    · rw [if_pos (by simpa using hsent), hrun r hr hsent.1 hsent.2]
    · rw [if_neg (by simpa using hsent), hnone fun r' hr' => by cases hr.symm.trans hr'; exact hsent]

theorem HeldOnly.restartEvents_eq {s u : State} (h : HeldOnly s u) {sent : List Nat} {lost : Word} (hsent : sentBack u = sent)
    (hlost : abandonedLug u = lost) :
    restartEvents u = if sent = [] then [] else [event .decision 2 s.tracker.lug (single sent.length) lost] := by
  rw [restartEvents, hsent, hlost, h.lug]

/-! ### The record table after a grading table write -/

/-- R94: the records after a grading table write and what the idle optimizer takes. -/
theorem HeldOnly.settled_record {s0 s u : State} (h : HeldOnly s u) (hu : u.TableSound) (k : Nat) :
    (k ∈ sentBack u → ∃ st, (st = .queued ∨ st = .optimizing) ∧ (settle s0 (gradingWrite u)).record k =
      { s.record k with state := st, decision := none, held := ((settle s0 (gradingWrite u)).record k).held }) ∧
    (k ∉ sentBack u → (s.record k).state ≠ .queued → (settle s0 (gradingWrite u)).record k =
      { s.record k with held := ((settle s0 (gradingWrite u)).record k).held }) ∧
    (k ∉ sentBack u → (s.record k).state = .queued → ∃ st, (st = .queued ∨ st = .optimizing) ∧
      (settle s0 (gradingWrite u)).record k =
        { s.record k with state := st, held := ((settle s0 (gradingWrite u)).record k).held }) := by
  have hg : (gradingWrite u).TableWithin 30 := ((gradingWrite_keeps 30 u).within ((tableSound_iff u).1 hu)).1
  obtain ⟨hrecord, -⟩ := gradingWrite_values hu.sized.records
  have hrecord := hrecord k
  refine ⟨fun hk => ?_, fun hk hstate => ?_, fun hk hstate => ?_⟩
  · rw [if_pos hk, Record.sentBack, h.record k] at hrecord
    obtain ⟨st, hst, hy⟩ := settle_record_queued (s0 := s0) hg.sized.records hg.queue k (by rw [hrecord])
    exact ⟨st, hst, by rw [hy, hrecord]⟩
  · rw [if_neg hk] at hrecord
    have hy := settle_record_kept (s0 := s0) hg.sized.records hg.queue k (by rw [hrecord, h.state]; exact hstate)
    rw [hy, hrecord]
    exact h.record k
  · rw [if_neg hk, h.record k] at hrecord
    obtain ⟨st, hst, hy⟩ := settle_record_queued (s0 := s0) hg.sized.records hg.queue k (by rw [hrecord]; exact hstate)
    exact ⟨st, hst, by rw [hy, hrecord]⟩

/-- R94, R95: the decision queue and the run after a grading table write. -/
theorem HeldOnly.settled_optimizer {s0 s u y : State} (h : HeldOnly s u) (hu : u.TableSound) (hpart : u.shadow.part = .running)
    (hy : y = settle s0 (gradingWrite u)) {q : List QueueEntry} (hq : q = (gradingWrite u).optimizer.queue) :
    q.Perm (s.optimizer.queue ++ (sentBack u).map fun k => { slot := k, lug := (s.record k).lug }) ∧
    q.Pairwise (fun e f => position s.tracker.lug f.lug < position s.tracker.lug e.lug) ∧
    (∀ r, s.optimizer.run = some r → ¬ ((s.record r.slot).state = .optimizing ∧ (s.record r.slot).committed = false) →
      y.optimizer = { queue := q, run := some r }) ∧
    ((∀ r, s.optimizer.run = some r → (s.record r.slot).state = .optimizing ∧ (s.record r.slot).committed = false) →
      (q = [] → y.optimizer = { queue := [], run := none }) ∧
      ∀ e rest, q = e :: rest → ∃ r, r.state = .queued ∧ y.record e.slot = { r with state := .optimizing } ∧
        y.optimizer = { queue := rest, run := some { slot := e.slot, lug := e.lug, record := r, tables := y.shadow.words } }) := by
  have hg : (gradingWrite u).TableWithin 30 := ((gradingWrite_keeps 30 u).within ((tableSound_iff u).1 hu)).1
  obtain ⟨-, hqueue, hkeeps, hends⟩ := gradingWrite_values hu.sized.records
  have hrun : (gradingWrite u).shadow.part = .running := by simpa using hpart
  have hlug : (gradingWrite u).tracker.lug = s.tracker.lug := by simp [h.lug]
  have hmem : ∀ k, k ∈ sentBack u ∧ (u.record k).state = .optimizing → (s.record k).state = .optimizing ∧ (s.record k).committed = false :=
    fun k hk => ⟨h.state k ▸ hk.2, ((h.mem_sentBack k).1 hk.1).2.1⟩
  simp only [h.optimizer, h.recordLug] at hqueue hkeeps hends
  refine ⟨hq ▸ hqueue, ?_, fun r hr hno => ?_, fun hall => ?_⟩
  · rw [hq, ← hlug]
    exact hg.aged.older
  · have hstays := hkeeps r hr fun hk => hno (hmem _ hk)
    rw [hy, settle_optimizer, startOptimizer_of_run hstays, hq, ← hstays]
  · have hidle := hends fun r hr => by
      obtain ⟨hstate, hcommitted⟩ := hall r hr
      have hlt : r.slot < 32 := slot_of_not_free hu.sized (by simp [h.state, hstate])
      exact ⟨(h.mem_sentBack _).2 ⟨hlt, hcommitted, .inr hstate⟩, (h.state _).trans hstate⟩
    generalize gradingWrite u = g at *
    refine ⟨fun hempty => ?_, fun e rest he => ?_⟩
    · have hnoHead : startOptimizer g = g := by simp [startOptimizer, hrun, hidle, ← hq, hempty]
      rw [hy, settle_optimizer, hnoHead, ← hempty, hq, ← hidle]
    · have hhead := startOptimizer_head hrun hidle (hq ▸ he)
      have hslot := hg.queue.2 e (by rw [← hq, he]; exact List.mem_cons_self)
      refine ⟨g.record e.slot, hslot.2, ?_, ?_⟩
      · rw [hy, settle_record, hhead]
        exact (record_setRecord g e.slot e.slot _ (hg.sized.records.symm ▸ hslot.1)).trans (if_pos rfl)
      · rw [hy, settle_optimizer, hhead, (settle_frame s0 g).2.2.2.1]

/-- R94, R95: the RESTART event is the last one handed to the event writer. -/
theorem restart_last (s0 : State) {u : State} {restart : Event} (h : restartEvents u = [restart]) :
    (allSentBack u).window .event = (settle s0 (gradingWrite u)).window .event ∧
    (settle s0 (gradingWrite u)).events.classes.getLsbD restart.cls.code = true ∧
    (settle s0 (gradingWrite u)).events = (emit restart (allSentBack u)).events ∧
    ∃ more, (settle s0 (gradingWrite u)).bus.internal = (emit restart (allSentBack u)).bus.internal ++ more ∧
      ∀ b ∈ more, EngineAccess b := by
  have hg : gradingWrite u = emit restart (allSentBack u) := by rw [gradingWrite_eq, h, emitAll_cons, emitAll_nil]
  obtain ⟨more, hmore, haccess⟩ := settle_engineGrows s0 (gradingWrite u)
  have hcode : restart.cls.code < 8 := by cases restart.cls <;> decide
  refine ⟨window_of_shadow (by rw [(allSentBack_frame u).1]; simp) _, ?_, by rw [settle_events, hg], more, by rw [hmore, hg], haccess⟩
  rw [settle_events, hg]
  exact (emitAll_classes [restart] (allSentBack u) hcode).2 (.inr ⟨restart, List.mem_cons_self, rfl⟩)

/-! ### A write of the grading tables alone -/

theorem mem_ignoredByLoad (es : List WindowEntry) (q : Nat × Nat) :
    q ∈ ignoredByLoad es ↔ q.1 < 16 ∧ (entryAt es q.1).enabled = true ∧ ignoredCause es q.1 = some q.2 := by
  obtain ⟨i, c⟩ := q
  simp only [ignoredByLoad, List.mem_filterMap, List.mem_range, Option.ite_none_right_eq_some, Option.map_eq_some_iff, Prod.mk.injEq]
  constructor
  · rintro ⟨j, hj, henabled, d, hd, rfl, rfl⟩
    exact ⟨hj, henabled, hd⟩
  · rintro ⟨hi, henabled, hc⟩
    exact ⟨i, hi, henabled, c, hc, rfl, rfl⟩

/-- A write of the grading tables alone leaves the windows: before records are sent back it makes its SETUP_ERR events and nothing else. -/
theorem windowsFollowed_of_grading {w : BusWrite} {s : State} (hentries : s.shadow.entries.length = 16)
    (hall : ∀ p ∈ setupCarried w, inGradingTables p.1 = true) : windowsFollowed w s =
      emitAll ((clampedByWrite s.shadow.words (newWords w s) (setupCarried w)).map fun n =>
        event .setup 2 s.tracker.lug (single (4 * n)) (single (inUse (newWords w s) n)))
        (s.withSetup (newWords w s) s.shadow.entries) := by
  have hcontrol : ∀ i, i < 16 → carriesControl (setupCarried w) i = false := fun i hi => by
    rw [carriesControl, List.any_eq_false]
    intro p hp heq
    have hgrading := hall p hp
    simp only [inGradingTables, Bool.or_eq_true, Bool.and_eq_true, decide_eq_true_eq, beq_iff_eq] at hgrading heq
    omega
  have hsame : newEntries w s = s.shadow.entries := by
    rw [newEntries, followEntries, ← entries_eq_map_entryAt hentries]
    exact List.map_congr_left fun i hi => by rw [hcontrol i (List.mem_range.1 hi), entries_eq_map_entryAt hentries]; rfl
  have hignored : ignoredByWrite s.shadow.entries (setupCarried w) = [] := by
    refine List.filter_eq_nil_iff.2 fun q hq => ?_
    simp [hcontrol q.1 ((mem_ignoredByLoad s.shadow.entries q).1 hq).1]
  have hshadow : shadowFollowed w s = s.withSetup (newWords w s) s.shadow.entries := by
    rw [shadowFollowed, hsame]
    exact eventWindowChanged_self (s.withSetup (newWords w s) s.shadow.entries)
  have hwindows := windowsChanged_self (emitAll (writeErrors w s) (shadowFollowed w s))
  rw [(errorsWritten_frame w s _).1, hsame] at hwindows
  rw [windowsFollowed, hwindows, hshadow, writeErrors, hsame, hignored]
  rfl

/-- R184: the words of the grading tables that a write clamps. -/
theorem mem_clampedByWrite_grading {s : State} {w : BusWrite} (h : Admitted s (.write w) .setup)
    (hall : ∀ p ∈ setupCarried w, inGradingTables p.1 = true) (old new : List Word) (n : Nat) :
    n ∈ clampedByWrite old new (setupCarried w) ↔ Carries w n ∧ inUse new n ≠ (setupWord new n).toNat := by
  have hnone : ∀ m, inGradingTables m = false → ((setupCarried w).any fun p => p.1 == m) = false := fun m hm => by
    rw [List.any_eq_false]
    intro p hp heq
    have hgrading := hall p hp
    rw [eq_of_beq heq, hm] at hgrading
    cases hgrading
  rw [clampedByWrite, List.mem_filter, List.mem_range, carries_iff h]
  simp only [hnone 10 rfl, hnone 12 rfl, Bool.and_false, Bool.false_and, Bool.or_false, Bool.and_eq_true, isClamped, bne_iff_ne, ne_eq,
    and_iff_right_iff_imp, and_imp]
  intro hcarries _
  obtain ⟨b, -, -, hfield⟩ := (carries_iff h n).2 hcarries
  exact holdsField_lt hfield

/-- What a grading table write makes of a state in which only the events `fs` have been handed in: they and its own events are written,
and the blocks beside record table and optimizer stay. -/
theorem settle_gradingWrite_alone {s0 s t u : State} {fs : List Event} (hu : u = emitAll fs t) (hlen : u.tracker.records.length = 32)
    (hwindow : t.window .event = s.window .event) (hevents : t.events = s.events) (hinternal : t.bus.internal = s.bus.internal) :
    (settle s0 (gradingWrite u)).events = (emitAll (fs ++ restartEvents u) s).events ∧
    (∃ more, (settle s0 (gradingWrite u)).bus.internal = (emitAll (fs ++ restartEvents u) s).bus.internal ++ more ∧
      ∀ b ∈ more, EngineAccess b) ∧
    (∀ k, ((settle s0 (gradingWrite u)).record k).held = (t.record k).held) ∧ (settle s0 (gradingWrite u)).intake = t.intake ∧
    (settle s0 (gradingWrite u)).measure = t.measure ∧ (settle s0 (gradingWrite u)).overrides = t.overrides ∧
    (settle s0 (gradingWrite u)).dispatch = t.dispatch := by
  have hkept := emitAll_blocksKept fs t
  rw [← hu] at hkept
  obtain ⟨hwrote, hissued⟩ := gradingWrite_events u
  have hsame := emitAll_congr hwindow hevents hinternal (fs ++ restartEvents u)
  rw [emitAll_append, ← hu, ← hwrote, ← hissued] at hsame
  obtain ⟨more, hmore, haccess⟩ := settle_engineGrows s0 (gradingWrite u)
  refine ⟨by rw [settle_events, hsame.1], ⟨more, by rw [hmore, hsame.2], haccess⟩, fun k => ?_, by simp [hkept.intake],
    by simp [hkept.measure], by simp [hkept.overrides], by simp [hkept.dispatch]⟩
  have hstays : u.record k = t.record k := record_of_records (congrArg _ hkept.tracker) k
  rw [settle_held, (gradingWrite_values hlen).1, ← hstays]
  split <;> rfl

/-- Settles O30: the stages of the write, with what the windows leave of the records (`HeldOnly`) and the record table after the records
are sent back. -/
theorem gradingTableWriteSendsBack : Obligations.GradingTableWriteSendsBack := by
  unfold Obligations.GradingTableWriteSendsBack
  intro c w s sent lost restart hs harrives hadmitted hgrading hsent hrun hnone hrestart
  have hgraded : setupGraded w = true := List.any_eq_true.2 hgrading
  obtain ⟨p, hp⟩ : ∃ p, p = pass s.bus.nextTxn (.write w) false s.numbered := ⟨_, rfl⟩
  obtain ⟨u, hu⟩ : ∃ u, u = windowsFollowed w p := ⟨_, rfl⟩
  have hfollow : followSetup w p = gradingWrite u := by rw [followSetup_parts, if_pos hgraded, hu]
  have hexec : exec c s = .next (finish (settle s.numbered (gradingWrite u))) := by
    rw [exec_admitted harrives hadmitted, handle, ← hp, hfollow]
  have hkeeps : Keeps 30 s p := hp ▸ keeps_of_eq rfl rfl rfl rfl
  have hsound : u.TableSound := (tableSound_iff u).2
    ((hu ▸ hkeeps.trans (windowsFollowed_keeps 30 w p)).within ((tableSound_iff s).1 hs)).1
  have hentries : p.shadow.entries = s.shadow.entries := by simp [hp]
  have hrecord : ∀ k, p.record k = s.record k := fun k => by simp [hp, State.record]
  have hheld : HeldOnly s u := by
    obtain ⟨hvalues, -⟩ := windowsFollowed_values w p
    refine ⟨fun k => ?_, by simp [hu, hp], by simp [hu, hp]⟩
    rw [hu, hvalues, hrecord]
  have hrunning : u.shadow.part = .running := by simp [hu, hp, hadmitted.running]
  have hsent : sentBack u = sent := hheld.sentBack_eq.trans hsent.symm
  have hevents : restartEvents u = if sent = [] then [] else [restart] := by
    rw [hrestart]
    exact hheld.restartEvents_eq hsent (hheld.abandonedLug_eq hrun hnone)
  have hmem : ∀ k, k ∈ sent ↔ k ∈ sentBack u := fun k => by rw [hsent]
  obtain ⟨y, hy⟩ : ∃ y, y = settle s.numbered (gradingWrite u) := ⟨_, rfl⟩
  have hrecords := fun k => hheld.settled_record (s0 := s.numbered) hsound k
  obtain ⟨hqueue, haged, hkept, hhead⟩ := hheld.settled_optimizer hsound hrunning hy rfl
  rw [hsent] at hqueue
  rw [← hy] at hexec hrecords
  refine ⟨y, _, hexec, fun k hk => (hrecords k).1 ((hmem k).1 hk),
    fun k _ hk => (hrecords k).2.1 fun h => hk ((hmem k).2 h),
    fun k _ hstate => (hrecords k).2.2 (fun h => ?_) hstate, hqueue, haged, hkept, hhead, fun hne => ?_, fun hall => ?_, ?_⟩
  · obtain ⟨-, -, hsentState⟩ := (hheld.mem_sentBack k).1 h
    simp [hstate] at hsentState
  · obtain ⟨hwindow, hclass, hwriter, more, hmore, haccess⟩ :=
      restart_last (u := u) s.numbered (restart := restart) (by rw [hevents, if_neg hne])
    rw [← hy] at hwindow hwriter hmore hclass
    exact ⟨by rw [hrestart] at hclass; exact hclass, _, more, hwindow, hwriter, hmore, haccess⟩
  · have hwords : y.shadow.words = newWords w p := by simp [hy, hu]
    obtain ⟨ns, hns⟩ : ∃ ns, ns = clampedByWrite p.shadow.words (newWords w p) (setupCarried w) := ⟨_, rfl⟩
    obtain ⟨fs, hfs⟩ : ∃ fs, fs = ns.map fun n => event .setup 2 s.tracker.lug (single (4 * n)) (single (inUse y.shadow.words n)) :=
      ⟨_, rfl⟩
    have halone : u = emitAll fs (p.withSetup (newWords w p) p.shadow.entries) := by
      have hlug : p.tracker.lug = s.tracker.lug := by simp [hp]
      rw [hu, windowsFollowed_of_grading (by rw [hentries]; exact hs.sized.entries) hall, hfs, hns, hwords, hlug]
    obtain ⟨hwriter, ⟨more, hmore, haccess⟩, hlists, hintake, hmeasure, hoverrides, hdispatch⟩ :=
      settle_gradingWrite_alone (s0 := s.numbered) (s := s) halone hsound.sized.records (by simp [State.window, hentries])
        (by simp [hp]) (by simp [hp, State.withSetup])
    rw [← hy, hevents] at hwriter hmore
    rw [← hy] at hlists hintake hmeasure hoverrides hdispatch
    refine ⟨⟨ns, _, more, fun n => ?_, ?_, congrArg (· ++ _) hfs, hwriter, hmore, haccess⟩,
      fun k _ => (hlists k).trans (congrArg Record.held (hrecord k)), ?_, ?_, ?_, ?_⟩
    · rw [hwords, hns]
      exact mem_clampedByWrite_grading hadmitted hall _ _ n
    · rw [hns]
      exact List.pairwise_lt_range.filter _
    · simp [hintake, hp]
    · simp [hmeasure, hp, State.withSetup]
    · simp [hoverrides, hp]
    · simp [hdispatch, hp]
  · rw [hy, ← hfollow]
    simp [hp]

end Sys2Proof.Machine
end

section
/-! A setup write, block by block (O29). -/

namespace Sys2Proof.Machine

/-! ### The shadow -/

theorem newWords_carried {s t : State} {w : BusWrite} (h : Admitted s (.write w) .setup) (hlen : t.shadow.words.length = 336) {n : Nat}
    {b : Beat} (hb : (4 * n, b) ∈ carried w) (hfull : Beat.isFull b = true) (hfield : holdsField n = true) :
    setupWord (newWords w t) n = b.data :=
  followWords_carried (hlen ▸ holdsField_lt hfield) (setupCarried_ascending h) ((mem_setupCarried h).2 ⟨b, hb, hfull, hfield, rfl⟩)

theorem newWords_other {s : State} (t : State) {w : BusWrite} (h : Admitted s (.write w) .setup) {n : Nat}
    (hnone : ∀ b, (4 * n, b) ∈ carried w → ¬ (Beat.isFull b = true ∧ holdsField n = true)) :
    setupWord (newWords w t) n = setupWord t.shadow.words n := by
  refine followWords_other fun p hp heq => ?_
  obtain ⟨b, hb, hfull, hfield, -⟩ := (mem_setupCarried h).1 hp
  exact hnone b (heq ▸ hb) ⟨hfull, heq ▸ hfield⟩

theorem carriesControl_eq {s : State} {w : BusWrite} (h : Admitted s (.write w) .setup) {i : Nat} (hi : i < 16) :
    carriesControl (setupCarried w) i = (carried w).any fun p => p.1 == 4 * (34 + 3 * i) && Beat.isFull p.2 := by
  have hfield : holdsField (34 + 3 * i) = true := by
    simp only [holdsField, Bool.or_eq_true, Bool.and_eq_true, decide_eq_true_eq]
    omega
  rw [Bool.eq_iff_iff, carriesControl, ← carries_iff h, List.any_eq_true]
  constructor
  · rintro ⟨b, hb, hfull, -⟩
    exact ⟨_, hb, by simp [hfull]⟩
  · rintro ⟨⟨a, b⟩, hb, hab⟩
    obtain ⟨ha, hfull⟩ := Bool.and_eq_true_iff.1 hab
    obtain rfl := eq_of_beq ha
    exact ⟨b, hb, hfull, hfield⟩

theorem carries_control {s : State} {w : BusWrite} (h : Admitted s (.write w) .setup) (i : Nat) :
    carriesControl (setupCarried w) i = true ↔ Carries w (34 + 3 * i) := (carries_iff h _).symm

/-! ### The pending classes -/

theorem cls_writeErrors {w : BusWrite} {s : State} {e : Event} (h : e ∈ writeErrors w s) : e.cls = .setup := by
  rcases List.mem_append.1 h with h | h
  · obtain ⟨q, -, rfl⟩ := List.mem_map.1 h
    rfl
  · obtain ⟨n, -, rfl⟩ := List.mem_map.1 h
    rfl

theorem cls_lostEvents {hs : List Nat} {s : State} {e : Event} (h : e ∈ lostEvents hs s) : e.cls = .frame := by
  obtain ⟨k, -, rfl⟩ := List.mem_map.1 h
  rfl

theorem cls_restartEvents {s : State} {e : Event} (h : e ∈ restartEvents s) : e.cls = .decision := by
  unfold restartEvents at h
  split at h
  · cases h
  · obtain rfl := List.mem_singleton.1 h
    rfl

/-- The only events of a setup write of class SETUP are those of R177 and R184. -/
theorem setupEvents_setup (w : BusWrite) (s : State) : (∃ e ∈ setupEvents w s, e.cls.code = 6) ↔ writeErrors w s ≠ [] := by
  constructor
  · rintro ⟨e, he, hcode⟩ hnone
    rw [setupEvents, hnone, List.nil_append] at he
    rcases List.mem_append.1 he with he | he
    · rw [cls_lostEvents he] at hcode
      cases hcode
    · split at he
      · rw [cls_restartEvents he] at hcode
        cases hcode
      · cases he
  · intro hsome
    obtain ⟨e, he⟩ := List.exists_mem_of_ne_nil _ hsome
    exact ⟨e, List.mem_append_left _ (List.mem_append_left _ he), by rw [cls_writeErrors he]; rfl⟩

theorem exists_mem_iff_ne_nil {α : Type} {l : List α} : (∃ a, a ∈ l) ↔ l ≠ [] :=
  ⟨fun ⟨_, h⟩ => List.ne_nil_of_mem h, List.exists_mem_of_ne_nil l⟩

/-- R177: an entry that the write carries and leaves enabled and ignored. -/
theorem exists_ignoredByWrite {s : State} {w : BusWrite} (h : Admitted s (.write w) .setup) (es : List WindowEntry) :
    ignoredByWrite es (setupCarried w) ≠ [] ↔
      ∃ i, i < 16 ∧ Carries w (34 + 3 * i) ∧ (entryAt es i).enabled = true ∧ isInForce es i = false := by
  rw [← exists_mem_iff_ne_nil]
  simp only [ignoredByWrite, List.mem_filter, mem_ignoredByLoad, carries_control h]
  constructor
  · rintro ⟨⟨i, c⟩, ⟨hi, henabled, hcause⟩, hcarries⟩
    exact ⟨i, hi, hcarries, henabled, by simp [isInForce, hcause]⟩
  · rintro ⟨i, hi, hcarries, henabled, hforce⟩
    have hcause : (ignoredCause es i).isSome = true := by
      simpa [isInForce, henabled] using hforce
    obtain ⟨c, hc⟩ := Option.isSome_iff_exists.1 hcause
    exact ⟨(i, c), ⟨hi, henabled, hc⟩, hcarries⟩

/-- R184: a field that the write clamps, or whose bound it changes. -/
theorem exists_clampedByWrite {s : State} {w : BusWrite} (h : Admitted s (.write w) .setup) (old new : List Word) :
    clampedByWrite old new (setupCarried w) ≠ [] ↔
      (∃ n, Carries w n ∧ inUse new n ≠ (setupWord new n).toNat) ∨
      (Carries w 10 ∧ ¬ Carries w 11 ∧ release old ≠ release new) ∨
      (Carries w 12 ∧ ¬ Carries w 13 ∧ refreshThreshold old ≠ refreshThreshold new) := by
  rw [← exists_mem_iff_ne_nil]
  simp only [clampedByWrite, List.mem_filter, List.mem_range, Bool.or_eq_true, Bool.and_eq_true, Bool.not_eq_true', bne_iff_ne,
    isClamped, beq_iff_eq, ← Bool.not_eq_true, ← carries_iff h, release, refreshThreshold]
  constructor
  · rintro ⟨n, -, (⟨hcarries, hclamped⟩ | ⟨⟨⟨-, hown⟩, hbound⟩, hchange⟩) | ⟨⟨⟨-, hown⟩, hbound⟩, hchange⟩⟩
    · exact .inl ⟨n, hcarries, hclamped⟩
    · exact .inr (.inl ⟨hbound, hown, hchange⟩)
    · exact .inr (.inr ⟨hbound, hown, hchange⟩)
  · rintro (⟨n, hcarries, hclamped⟩ | ⟨hbound, hown, hchange⟩ | ⟨hbound, hown, hchange⟩)
    · have hlt : n < 336 := by
        obtain ⟨b, -, -, hfield⟩ := hcarries
        exact holdsField_lt hfield
      exact ⟨n, hlt, .inl (.inl ⟨hcarries, hclamped⟩)⟩
    · exact ⟨11, by decide, .inl (.inr ⟨⟨⟨rfl, hown⟩, hbound⟩, hchange⟩)⟩
    · exact ⟨13, by decide, .inr ⟨⟨⟨rfl, hown⟩, hbound⟩, hchange⟩⟩

theorem writeErrors_ne_nil {w : BusWrite} {s : State} : writeErrors w s ≠ [] ↔
    clampedByWrite s.shadow.words (newWords w s) (setupCarried w) ≠ [] ∨ ignoredByWrite (newEntries w s) (setupCarried w) ≠ [] := by
  rw [writeErrors, setupErrors, ne_eq, List.append_eq_nil_iff, List.map_eq_nil_iff, List.map_eq_nil_iff, and_comm]
  exact not_and_or

/-- Which class a setup write leaves pending: that it was, or has an event of the write. -/
theorem followSetup_pending (w : BusWrite) (s : State) {i : Nat} (hi : i < 8) :
    (followSetup w s).events.classes.getLsbD i = true ↔
      s.events.classes.getLsbD i = true ∨ ∃ e ∈ setupEvents w s, e.cls.code = i := by
  have hclasses : (shadowFollowed w s).events.classes = s.events.classes := by simp
  rw [(followSetup_events w s).1, emitAll_classes _ _ hi, hclasses]

/-- R177, R184: when class SETUP is pending after a setup write. -/
theorem followSetup_setup_pending {s t : State} {w : BusWrite} (h : Admitted s (.write w) .setup) :
    (followSetup w t).events.classes.getLsbD 6 = true ↔ t.events.classes.getLsbD 6 = true ∨
      (∃ n, Carries w n ∧ inUse (newWords w t) n ≠ (setupWord (newWords w t) n).toNat) ∨
      (Carries w 10 ∧ ¬ Carries w 11 ∧ release t.shadow.words ≠ release (newWords w t)) ∨
      (Carries w 12 ∧ ¬ Carries w 13 ∧ refreshThreshold t.shadow.words ≠ refreshThreshold (newWords w t)) ∨
      ∃ i, i < 16 ∧ Carries w (34 + 3 * i) ∧ (entryAt (newEntries w t) i).enabled = true ∧ isInForce (newEntries w t) i = false := by
  rw [followSetup_pending w t (i := 6) (by decide), setupEvents_setup, writeErrors_ne_nil, exists_ignoredByWrite h,
    exists_clampedByWrite h, or_assoc, or_assoc]

/-- R41: a lost slot table leaves class FRAME pending. -/
theorem followSetup_frame_pending {w : BusWrite} {s : State} {h : Nat}
    (hloses : losesTable s.shadow.entries (newEntries w s) h = true) : (followSetup w s).events.classes.getLsbD 0 = true := by
  have hmem : h ∈ lostHeads s.shadow.entries (newEntries w s) := List.contains_iff_mem.1 ((contains_lostHeads ..).trans hloses)
  exact (followSetup_pending w s (by decide)).2
    (.inr ⟨_, List.mem_append_left _ (List.mem_append_right _ (List.mem_map.2 ⟨h, hmem, rfl⟩)), rfl⟩)

/-! ### Close list, EVENT window, tally -/

theorem lostHeads_eq_nil {old new : List WindowEntry} : lostHeads old new = [] ↔ ∀ h, losesTable old new h = false := by
  simp only [← contains_lostHeads, List.contains_eq_mem, decide_eq_false_iff_not]
  exact List.eq_nil_iff_forall_not_mem

/-- R195: an EVENT window that a setup write changes. -/
theorem followSetup_asks {w : BusWrite} {s : State} (h : eventKey s.shadow.entries ≠ eventKey (newEntries w s)) :
    (followSetup w s).events.ring = none ∧ ∀ e, windowOf (newEntries w s) .event = some e →
      readBurst (windowAddr e 0) 2 .eventHeader ∈ (followSetup w s).bus.internal := by
  obtain ⟨hring, hasked⟩ := eventWindowChanged_asks (old := s.shadow.entries) (s := s.withSetup (newWords w s) (newEntries w s)) h
  rw [(followSetup_events w s).1]
  exact ⟨emitAll_ring_none hring _, fun e he => followSetup_mem w s (hasked e he) fun i hp => by cases hp⟩

/-- R163: the tally unit after a setup write that changes the TALLY window. -/
theorem followSetup_tally {w : BusWrite} {s : State} (h : windowKey s.shadow.entries .tally ≠ windowKey (newEntries w s) .tally) :
    (followSetup w s).tally = s.tally.takenUp (windowOf (newEntries w s) .tally) ∧
    ∀ b ∈ tallyWrites (s.tally.takenUp (windowOf (newEntries w s) .tally)) (windowOf (newEntries w s) .tally),
      b ∈ (followSetup w s).bus.internal := by
  obtain ⟨htally, hwrites⟩ := windowsFollowed_tally h
  obtain ⟨restarts, hrestarts⟩ := emitAll_internal (if setupGraded w then restartEvents (windowsFollowed w s) else [])
    (windowsFollowed w s)
  rw [(followSetup_blocks w s).2.2, (followSetup_writes w s).2, hrestarts]
  exact ⟨htally, fun b hb => List.mem_append_left _ (hwrites b hb)⟩

/-! ### The events of a write outside the grading tables -/

/-- R183: while EVENT and TALLY windows stay, the internal stream grows by the accesses of the events of the write alone. -/
theorem followSetup_eventsWritten {w : BusWrite} {s : State} (hevent : eventKey s.shadow.entries = eventKey (newEntries w s))
    (htally : windowKey s.shadow.entries .tally = windowKey (newEntries w s) .tally) :
    EventsWritten (setupEvents w s) s (followSetup w s) := by
  obtain ⟨hwriter, hinternal⟩ := followSetup_events w s
  have hshadow : shadowFollowed w s = s.withSetup (newWords w s) (newEntries w s) :=
    eventWindowChanged_of_key (s := s.withSetup (newWords w s) (newEntries w s)) hevent
  have hrun : writerRun ((s.withSetup (newWords w s) (newEntries w s)).window .event) s.events (setupEvents w s) =
      writerRun (s.window .event) s.events (setupEvents w s) := (writerRun_of_key hevent _ _).symm
  rw [eventsWritten_iff, hwriter, hinternal htally, hshadow, emitAll_eq, ← hrun]
  exact ⟨rfl, _, rfl, .refl _⟩

end Sys2Proof.Machine
end

section
/-! What a permitted setup write does (O29). -/

namespace Sys2Proof.Machine

/-! ### Values in use (R184) -/

theorem clamp_eq {lo hi : Nat} (h : lo ≤ hi) (v : Nat) : clamp lo hi v = max lo (min v hi) := by
  unfold clamp
  split
  · omega
  · split <;> omega

theorem inUse_of_range {n lo hi : Nat} (hrange : fieldRange n = some (lo, hi)) (h11 : n ≠ 11) (h13 : n ≠ 13) (hle : lo ≤ hi)
    (ws : List Word) : inUse ws n = max lo (min (setupWord ws n).toNat hi) := by
  simp only [inUse, h11, h13, if_false, ownClamp, hrange]
  exact clamp_eq hle _

/-- A field without a lower bound. -/
theorem inUse_of_limit {n hi : Nat} (hrange : fieldRange n = some (0, hi)) (h11 : n ≠ 11) (h13 : n ≠ 13) (ws : List Word) :
    inUse ws n = min (setupWord ws n).toNat hi :=
  (inUse_of_range hrange h11 h13 (Nat.zero_le hi) ws).trans (Nat.zero_max _)

/-- R184: release stays below skip-high in use. -/
theorem release_eq (ws : List Word) : release ws = min (setupWord ws 11).toNat (skipHigh ws - 1) :=
  (clamp_eq (Nat.zero_le _) _).trans (Nat.zero_max _)

theorem refreshThreshold_eq (ws : List Word) : refreshThreshold ws = min (setupWord ws 13).toNat (skipQuantum ws - 1) :=
  (clamp_eq (Nat.zero_le _) _).trans (Nat.zero_max _)

theorem fieldRange_zone {h : Nat} (hh : h < 6) :
    fieldRange (84 + 6 * h) = some (0, 7320) ∧ fieldRange (85 + 6 * h) = some (1, 4095) := by
  interval_cases h <;> exact ⟨rfl, rfl⟩

theorem fieldRange_limits {g : Nat} (hg : g < 7) : fieldRange (128 + 5 * g) = some (0, 2000) ∧
    fieldRange (129 + 5 * g) = some (0, 4000) ∧ fieldRange (130 + 5 * g) = some (0, 1275) := by
  interval_cases g <;> exact ⟨rfl, rfl, rfl⟩

theorem fieldRange_bin {b : Nat} (hb : b < 16) :
    fieldRange (273 + 4 * b) = some (1, 12) ∧ fieldRange (274 + 4 * b) = some (1, 12) := by
  interval_cases b <;> exact ⟨rfl, rfl⟩

theorem valuesInUse (ws : List Word) (v : Nat → Nat) (hv : ∀ n, v n = (setupWord ws n).toNat) :
    commitPosition ws = max 2 (min (v 7) 28) ∧ minimumLength ws = max 1 (min (v 19) 12) ∧
    skipHigh ws = max 1 (min (v 10) 32) ∧ release ws = min (v 11) (skipHigh ws - 1) ∧
    skipQuantum ws = max 1 (min (v 12) 15) ∧ refreshThreshold ws = min (v 13) (skipQuantum ws - 1) ∧
    holdLimit ws = max 1 (min (v 8) 65535) ∧ backlogLimit ws = max 1 (min (v 14) 32) ∧
    filterTime ws .lug = min (v 4) 1023 ∧ filterTime ws .eye = min (v 5) 1023 ∧ filterTime ws .almin = min (v 6) 1023 ∧
    airThreshold ws = min (v 18) 2000 ∧
    (∀ h, h < 6 → zoneStart ws h = min (v (84 + 6 * h)) 7320 ∧ zoneLength ws h = max 1 (min (v (85 + 6 * h)) 4095)) ∧
    (∀ g, g < 7 → limitThickness ws g = min (v (128 + 5 * g)) 2000 ∧ limitWidth ws g = min (v (129 + 5 * g)) 4000 ∧
      limitWane ws g = min (v (130 + 5 * g)) 1275) ∧
    ∀ b, b < 16 → binMinimum ws b = max 1 (min (v (273 + 4 * b)) 12) ∧ binMaximum ws b = max 1 (min (v (274 + 4 * b)) 12) := by
  have hrange : ∀ {n lo hi : Nat}, fieldRange n = some (lo, hi) → n ≠ 11 → n ≠ 13 → lo ≤ hi → inUse ws n = max lo (min (v n) hi) :=
    fun h h11 h13 hle => by rw [inUse_of_range h h11 h13 hle, hv]
  have hlimit : ∀ {n hi : Nat}, fieldRange n = some (0, hi) → n ≠ 11 → n ≠ 13 → inUse ws n = min (v n) hi :=
    fun h h11 h13 => by rw [inUse_of_limit h h11 h13, hv]
  refine ⟨hrange rfl (by decide) (by decide) (by decide), hrange rfl (by decide) (by decide) (by decide),
    hrange rfl (by decide) (by decide) (by decide), by rw [release_eq, hv], hrange rfl (by decide) (by decide) (by decide),
    by rw [refreshThreshold_eq, hv], hrange rfl (by decide) (by decide) (by decide), hrange rfl (by decide) (by decide) (by decide),
    hlimit rfl (by decide) (by decide), hlimit rfl (by decide) (by decide), hlimit rfl (by decide) (by decide),
    hlimit rfl (by decide) (by decide), fun h hh => ?_, fun g hg => ?_, fun b hb => ?_⟩
  · obtain ⟨hstart, hlength⟩ := fieldRange_zone hh
    exact ⟨hlimit hstart (by omega) (by omega), hrange hlength (by omega) (by omega) (by omega)⟩
  · obtain ⟨hthickness, hwidth, hwane⟩ := fieldRange_limits hg
    exact ⟨hlimit hthickness (by omega) (by omega), hlimit hwidth (by omega) (by omega), hlimit hwane (by omega) (by omega)⟩
  · obtain ⟨hleast, hmost⟩ := fieldRange_bin hb
    exact ⟨hrange hleast (by omega) (by omega) (by omega), hrange hmost (by omega) (by omega) (by omega)⟩

/-! ### The write, settled -/

theorem followSetup_exec {c : Instr} {w : BusWrite} {s : State} (harrives : arrivalOf c = some (.write w))
    (hadmitted : Admitted s (.write w) .setup) :
    exec c s = .next (finish (settle s.numbered (followSetup w (s.passed (.write w))))) := by
  rw [exec_admitted harrives hadmitted, handle]
  rfl

theorem passed_kept (s : State) (x : Transaction) : (s.passed x).shadow = s.shadow ∧ (s.passed x).tracker = s.tracker ∧
    (s.passed x).intake = s.intake ∧ (s.passed x).measure = s.measure ∧ (s.passed x).tally = s.tally ∧
    (s.passed x).events = s.events ∧ (s.passed x).inputs = s.inputs ∧ (s.passed x).bus.internal = s.bus.internal := by
  simp [State.passed]

theorem withSetup_input (s : State) (ws : List Word) (es : List WindowEntry) (p : Input) :
    (s.withSetup ws es).inputs.get p = { s.inputs.get p with time := filterTime ws p } := by
  cases p <;> rfl

/-- R163: what the tally unit writes when it is taken up in a window: its header, and the first zeroing burst of a swap not ended. -/
theorem takenUp_writes (t : Tally) (e : WindowEntry) :
    writeBurst (windowAddr e 0) [tallyHeaderWord t] .plain ∈ tallyWrites (t.takenUp (some e)) (some e) ∧
    ∀ x, t.swap = some x → x.zeroing ≠ .ended →
      writeBurst (BitVec.ofNat 32 (e.start + 256 + 1024 * t.bank.toNat)) (List.replicate 16 0) (.zeroing 0) ∈
        tallyWrites (t.takenUp (some e)) (some e) := by
  have hword : tallyHeaderWord (t.takenUp (some e)) = tallyHeaderWord t := by simp [tallyHeaderWord, Tally.takenUp]
  refine ⟨?_, fun x hx hended => ?_⟩
  · rw [tallyWrites, hword]
    exact List.mem_cons_self
  · simp [tallyWrites, Tally.takenUp, hx, resumed, hended]

/-- R20: a RECORD window that takes force or moves has every area begun or noted by the end of the change. -/
theorem settle_republishes {s0 s1 : State} (hrun0 : s0.shadow.part = .running)
    (hkey : windowKey s0.shadow.entries .record ≠ windowKey s1.shadow.entries .record) (hrun : s1.shadow.part = .running)
    (hw : s1.window .record ≠ none) (hlen : s1.tracker.areas.length = 33) {k : Nat} (hk : k ≤ 32) :
    ((settle s0 s1).area k).pub ≠ .idle := by
  have hall : publishesAll s0 (startTally s1) = true := by simp [publishesAll, hrun0, hkey]
  have hfirst : ((publish s0 (startTally s1)).area k).pub ≠ .idle :=
    publishesAll_busy (by simpa using hrun) hall hk (by simpa [State.window] using hw) (by simpa using hlen)
  have hstart : (startOptimizer (publish s0 (startTally s1))).area k = (publish s0 (startTally s1)).area k :=
    area_of_areas (by simp) k
  exact publish_keeps_busy _ (hstart.symm ▸ hfirst)

/-- The events a change has written, at its end. -/
theorem eventsWritten_settled {es : List Event} {s0 s p g y : State} (h : EventsWritten es p g)
    (hwindow : p.window .event = s.window .event) (hevents : p.events = s.events) (hinternal : p.bus.internal = s.bus.internal)
    (hy : y = settle s0 g) : EventsWritten es s y := by
  obtain ⟨hwriter, added, hadded, hsub⟩ := (eventsWritten_iff _ _ _).1 h
  obtain ⟨more, hmore, -⟩ := settle_engineGrows s0 g
  rw [hwindow, hevents] at hwriter hsub
  refine (eventsWritten_iff _ _ _).2 ⟨by rw [hy, settle_events, hwriter], added ++ more, ?_, hsub.trans (List.sublist_append_left ..)⟩
  rw [hy, hmore, hadded, hinternal, List.append_assoc]

/-- Settles O29, clause by clause from the parts of the write; the ranges of the values in use are `valuesInUse`. -/
theorem setupWriteFollowed : Obligations.SetupWriteFollowed := by
  unfold Obligations.SetupWriteFollowed
  refine ⟨fun c w s hs harrives hadmitted => ?_, valuesInUse⟩
  obtain ⟨p, hp⟩ : ∃ p, p = s.passed (.write w) := ⟨_, rfl⟩
  have hexec := followSetup_exec harrives hadmitted
  obtain ⟨hpshadow, hptracker, hpintake, hpmeasure, hptally, hpevents, hpinputs, hpinternal⟩ := passed_kept s (.write w)
  rw [← hp] at hexec hpshadow hptracker hpintake hpmeasure hptally hpevents hpinputs hpinternal
  obtain ⟨y, hy⟩ : ∃ y, y = settle s.numbered (followSetup w p) := ⟨_, rfl⟩
  obtain ⟨hshadow, hinputs⟩ := followSetup_shadow w p
  obtain ⟨hintake, hmeasure, htally⟩ := followSetup_blocks w p
  obtain ⟨hrecord, hqueue, hengine, hstays, hpassed, -⟩ := windowsFollowed_values w p
  have hwords : y.shadow.words = newWords w p := by simp [hy, hshadow]
  have hentries : y.shadow.entries = newEntries w p := by simp [hy, hshadow]
  have hyevents : y.events = (followSetup w p).events := by rw [hy, settle_events]
  have hyintake : y.intake = (windowsFollowed w p).intake := by simp [hy, hintake]
  have hymeasure : y.measure = (followSetup w p).measure := by simp [hy]
  have hyinternal : ∀ b ∈ (followSetup w p).bus.internal, b ∈ y.bus.internal := fun b hb => by
    obtain ⟨more, hmore, -⟩ := settle_engineGrows s.numbered (followSetup w p)
    rw [hy, hmore]
    exact List.mem_append_left _ hb
  rw [← hy] at hexec
  have hold : p.shadow.entries = s.shadow.entries := congrArg _ hpshadow
  have hycontrol : ∀ k, y.window k = windowOf (newEntries w p) k := fun k => by rw [State.window, hentries]
  refine ⟨y, hexec, ?_⟩
  simp only [hycontrol, hwords, hentries]
  refine ⟨?_, fun n b hb hfull hfield => ?_, fun n hnone => ?_, fun i hi => ?_, fun i => ?_, fun h hh => ?_, ?_, ?_,
    fun k hk => ?_, fun h hloses => ?_, fun hkey => ?_, fun hkey => ?_, fun hkey => ?_, fun hkey hsome k hk => ?_, ?_, fun hsome => ?_,
    fun hnone => ?_, fun hevent hkey hplain => ?_, ?_, ?_, ?_, ?_, ?_, ?_, ?_, ?_⟩
  · rw [hy, ← passed_through hadmitted.running, ← hp]
    simp
  · exact newWords_carried hadmitted (hpshadow ▸ hs.words) hb hfull hfield
  · rw [newWords_other p hadmitted hnone, hpshadow]
  · rw [newEntries, entryAt_followEntries _ _ _ hi, carriesControl_eq hadmitted hi, hold]
  · have hyinputs : y.inputs = (followSetup w p).inputs := by simp [hy]
    rw [hyinputs, hinputs, withSetup_input, hpinputs]
  · have htables := windowsFollowed_tables w (s := p) (hpintake ▸ hs.tables) hh
    rw [hyintake, htables, hold, hpintake]
    rfl
  · rw [hyintake, hqueue, hold, hpintake]
  · rw [hyintake, hengine, hold, hpintake]
  · have hheld := followSetup_held w (s := p) (hptracker ▸ hs.records) k
    rw [hy, settle_held, hheld, hold, record_of_records (congrArg _ hptracker)]
  · rw [hyevents]
    exact followSetup_frame_pending (hold.symm ▸ hloses)
  · obtain ⟨hring, hasked⟩ := followSetup_asks (w := w) (s := p) (hold.symm ▸ hkey)
    rw [hyevents]
    exact ⟨hring, fun e he => hyinternal _ (hasked e he)⟩
  · have hsame := (windowsFollowed_internal (w := w) (s := p) (hold.symm ▸ hkey)).1
    rw [← hptally, ← hsame, ← htally, hy]
    exact settle_tally s.numbered (followSetup w p)
  · have hkey : windowKey p.shadow.entries .tally ≠ windowKey (newEntries w p) .tally := hold.symm ▸ hkey
    obtain ⟨htaken, hwrites⟩ := followSetup_tally hkey
    rw [hptally] at htaken hwrites
    have hytally : y.tally = { s.tally.takenUp (windowOf (newEntries w p) .tally) with engine := y.tally.engine } := by
      rw [← htaken, hy]
      exact settle_tally s.numbered (followSetup w p)
    refine ⟨hytally, fun e he => ?_⟩
    rw [he] at hwrites
    obtain ⟨hheader, hzeroes⟩ := takenUp_writes s.tally e
    exact ⟨hyinternal _ (hwrites _ hheader), fun x hx hended => hyinternal _ (hwrites _ (hzeroes x hx hended))⟩
  · rw [hy]
    refine settle_republishes (by simp [hadmitted.running]) (by simpa [hshadow] using hkey) ?_ ?_ ?_ hk
    · simp [hp, State.passed, hadmitted.running]
    · rwa [State.window, hshadow]
    · simpa [hp, State.passed] using hs.areas
  · rw [hyevents, followSetup_setup_pending hadmitted, hpevents, hpshadow]
  · have hmarks := hpassed (by
      obtain ⟨h, hloses⟩ := hsome
      rw [hold, ne_eq, lostHeads_eq_nil]
      intro hnone
      simp [hnone] at hloses)
    rw [hymeasure, hmeasure]
    rwa [hold, hpintake, hptracker, hpmeasure] at hmarks
  · rw [hymeasure, hmeasure, hstays (by rw [hold]; exact lostHeads_eq_nil.2 hnone), hpmeasure]
  · have hgraded : setupGraded w = false := List.any_eq_false.2 fun q hq => by simp [hplain q hq]
    have hwritten := followSetup_eventsWritten (w := w) (s := p) (hold.symm ▸ hevent) (hold.symm ▸ hkey)
    have hevents : setupEvents w p = writeErrors w p ++ lostEvents (lostHeads p.shadow.entries (newEntries w p)) p := by
      simp [setupEvents, hgraded]
    rw [hevents, writeErrors, setupErrors, lostHeads_eq, lostEvents, hpshadow, hptracker, hpintake] at hwritten
    exact eventsWritten_settled hwritten (window_of_shadow hpshadow _) hpevents hpinternal hy
  all_goals
    rw [hy]
    simp [hp, State.passed, hadmitted.running]

end Sys2Proof.Machine
end
